-- ==== Sys2Proof/Word.lean ====
section
/-! DEFINITION. The word types of the cube's registers, engines and memories. -/
namespace Sys2Proof

/-- One byte of DRAM, of local SRAM or of a packet. -/
abbrev Byte := BitVec 8
/-- One CSR: every register is 32 bits wide (R5). -/
abbrev Word := BitVec 32
/-- One general register or one local-SRAM word of a pattern engine (R68). -/
abbrev W64 := BitVec 64

end Sys2Proof
end

