-- ==== Sys2Proof/Machine/Bits.lean ====
section
/-! DEFINITION. Bit fields, sign extension, byte order, saturation, CRCs: the plain helpers the meanings use.
They stand under Machine/ so that a repair may mend them. -/
namespace Sys2Proof.Machine

/-- Bits [lo+w-1 : lo] of a number. -/
def bits (v lo w : Nat) : Nat := (v >>> lo) % 2 ^ w

/-- Bit b of a number. -/
def bit (v b : Nat) : Bool := v.testBit b

/-- v with bits [lo+w-1 : lo] replaced by the low w bits of x. -/
def putBits (v lo w x : Nat) : Nat :=
  v - (bits v lo w) * 2 ^ lo + (x % 2 ^ w) * 2 ^ lo

/-- v with bit b set or cleared. -/
def putBit (v b : Nat) (x : Bool) : Nat := putBits v b 1 (if x then 1 else 0)

/-- 1 for true, 0 for false. -/
def b2n (b : Bool) : Nat := if b then 1 else 0

/-- Two's complement reading of the low w bits. -/
def sextInt (w v : Nat) : Int :=
  let u := v % 2 ^ w
  if u < 2 ^ (w - 1) then (u : Int) else (u : Int) - (2 ^ w : Nat)

/-- The low w bits of an integer, two's complement. -/
def ofInt (w : Nat) (x : Int) : Nat := (x % (2 ^ w : Nat)).toNat

/-- Addition that stops at the largest value of a w-bit counter. -/
def satAdd (w a n : Nat) : Nat := min (a + n) (2 ^ w - 1)

/-- Division rounded up. -/
def ceilDiv (a b : Nat) : Nat := (a + b - 1) / b

/-- x rounded up to a multiple of m (m = 0 leaves x). -/
def roundUp (x m : Nat) : Nat := if m = 0 then x else ceilDiv x m * m

/-- Is the value in [lo, hi)? -/
def inRange (x lo hi : Nat) : Bool := decide (lo ≤ x) && decide (x < hi)

/-- The little-endian value of a list of bytes (R4). -/
def leNat : List Byte → Nat
  | [] => 0
  | b :: r => b.toNat + 256 * leNat r

/-- n bytes of a number, little-endian (R4). -/
def natLe : Nat → Nat → List Byte
  | 0, _ => []
  | n + 1, v => BitVec.ofNat 8 v :: natLe n (v / 256)

/-- The n bytes of a list from an offset, 0 beyond its end. -/
def slice (bs : List Byte) (off n : Nat) : List Byte :=
  let t := (bs.drop off).take n
  t ++ List.replicate (n - t.length) 0

/-- The little-endian field of n bytes at an offset. -/
def fieldAt (bs : List Byte) (off n : Nat) : Nat := leNat (slice bs off n)

/-- The numbers lo, lo+1, ... lo+n-1. -/
def upFrom (lo : Nat) : Nat → List Nat
  | 0 => []
  | n + 1 => lo :: upFrom (lo + 1) n

/-- The set bits of a mask among the first n. -/
def maskBits (n m : Nat) : List Nat := (upFrom 0 n).filter (fun i => m.testBit i)

/-- How many bits of the first n are set. -/
def popCount (n m : Nat) : Nat := (maskBits n m).length

/-- One bit of a reflected CRC with polynomial p (bit-reversed). -/
def crcStep (p c : Nat) : Nat := if c % 2 = 1 then Nat.xor (c / 2) p else c / 2

/-- One byte of a reflected CRC. -/
def crcByte (p c : Nat) (b : Byte) : Nat :=
  crcStep p (crcStep p (crcStep p (crcStep p (crcStep p (crcStep p (crcStep p (crcStep p (Nat.xor c b.toNat))))))))

/-- The CRC-32 of IEEE 802.3 over bytes in order (R27): reflected 0x04C1_1DB7, initial value and final
exclusive-OR 0xFFFF_FFFF. -/
def crc32 (bs : List Byte) : Nat := Nat.xor (bs.foldl (crcByte 0xEDB88320) 0xFFFFFFFF) 0xFFFFFFFF

/-- Cut a list into pieces of n (n = 0 gives none). -/
def chunks {α : Type} (n : Nat) : Nat → List α → List (List α)
  | 0, _ => []
  | k + 1, l => l.take n :: chunks n k (l.drop n)

/-- The first index of a list at which a test holds. -/
def findIx {α : Type} (p : α → Bool) (l : List α) : Option Nat :=
  let n := (l.takeWhile (fun x => ! p x)).length
  if n < l.length then some n else none

/-- Replace the element at an index by what f makes of it. -/
def modAt {α : Type} (l : List α) (i : Nat) (f : α → α) : List α :=
  match l[i]? with
  | some x => l.set i (f x)
  | none => l

/-! Vector Time values (R49) -/

/-- Has VT reached v: (VT - v) mod 2^48 below 2^47 (R49)? -/
def vtGe (vt v : Nat) : Bool := decide ((vt + 2 ^ 48 - v % 2 ^ 48) % 2 ^ 48 < 2 ^ 47)

/-- VT values from a to b, counted forward. -/
def vtDiff (b a : Nat) : Nat := (b + 2 ^ 48 - a % 2 ^ 48) % 2 ^ 48

/-- Addition of VT values (R49). -/
def vtAdd (a d : Nat) : Nat := (a + d) % 2 ^ 48

end Sys2Proof.Machine
end

