-- ==== Sys2Proof/Machine/Operands.lean ====
section
/-! DEFINITION. Operand forms of the pattern engines' instruction words (R81): the four formats, composed and taken
apart, and sign extension of immediates. -/
namespace Sys2Proof.Machine

/-- Format A: opcode, gd, ga, gb, func. -/
def fmtA (op gd ga gb func : Nat) : Nat := op * 2 ^ 26 + gd * 2 ^ 22 + ga * 2 ^ 18 + gb * 2 ^ 14 + func

/-- Format B: opcode, gd, ga, an 18-bit immediate. -/
def fmtB (op gd ga imm : Nat) : Nat := op * 2 ^ 26 + gd * 2 ^ 22 + ga * 2 ^ 18 + imm

/-- Format C: opcode, condition, a 22-bit word offset. -/
def fmtC (op cond off : Nat) : Nat := op * 2 ^ 26 + cond * 2 ^ 22 + off

/-- Format D: opcode, source select, mask select, repeat, flags. -/
def fmtD (op src mask rep flags : Nat) : Nat := op * 2 ^ 26 + src * 2 ^ 22 + mask * 2 ^ 18 + rep * 2 ^ 8 + flags

/-- The opcode of a word. -/
def opOf (w : Nat) : Nat := bits w 26 6
/-- gd, the condition, or the source select. -/
def gdOf (w : Nat) : Nat := bits w 22 4
/-- ga, or the mask select. -/
def gaOf (w : Nat) : Nat := bits w 18 4
/-- gb. -/
def gbOf (w : Nat) : Nat := bits w 14 4
/-- func. -/
def funcOf (w : Nat) : Nat := bits w 0 14
/-- The 18-bit immediate. -/
def immOf (w : Nat) : Nat := bits w 0 18

/-- sext(imm): an 18-bit immediate sign-extended to 64 bits (R83). -/
def sext18 (imm : BitVec 18) : W64 := imm.signExtend 64

/-- A 22-bit word offset as a byte offset of the 24-bit PC (R84): PC + 4 × off modulo 2^24. -/
def branchPc (pc : BitVec 24) (off : BitVec 22) : BitVec 24 := pc + (off.signExtend 24) * 4

/-- A local SRAM address of LD and ST: (ga + sext(imm)) mod 65 536 (R89). -/
def localAddr (ga : W64) (imm : BitVec 18) : Nat := (ga + sext18 imm).toNat % 65536

/-- Shift amounts use bits [5:0] of the operand (R68). -/
def shiftAmt (v : W64) : Nat := v.toNat % 64

end Sys2Proof.Machine
end

