-- ==== Sys2Proof/Syntax.lean ====
section
/-! DEFINITION. The commands the cube takes: one constructor per row of spec/opcode_table.json, in the table's order,
with the row's operands. Unit numbers are bounded by their types; what the outside world brings (a received frame, a
temperature, a test's outcome) is an operand. -/
namespace Sys2Proof

/-- A partition, physical lane, channel or other unit number is bounded by its type. -/
abbrev Eng := Fin 72

/-- The three forms of MOV (R87). -/
inductive MovOp where
  | reg (gd ga : Fin 16)
  | fromSr (gd : Fin 16) (srn : BitVec 8)
  | toSr (srn : BitVec 8) (ga : Fin 16)
deriving DecidableEq, Repr

/-- The two forms of LI (R88). -/
inductive LiOp where
  | sext (imm : BitVec 18)
  | ins (k : Fin 4) (imm : BitVec 16)
deriving DecidableEq, Repr

/-- What the SEC-DED code of local SRAM finds on a read (R89): nothing, a single-bit error, a double-bit error. -/
inductive SramUpset where
  | clean
  | single
  | double
deriving DecidableEq, Repr

/-- Why a received lane frame is discarded (R153): its CRC or its header (R136), a code error, no K28.5 at symbol 0. -/
inductive RxError where
  | crc
  | code
  | align
deriving DecidableEq, Repr

/-- A physical lane pair that is being trained: a vector lane (chapter 07) or a host-link lane (chapter 13). -/
inductive LaneId where
  | vl (k : Fin 100)
  | hl (n : Fin 9)
deriving DecidableEq, Repr

/-- A host packet's header fields and payload (R275); `csr` is SPACE. -/
structure Pkt where
  tag : BitVec 8
  len : BitVec 16
  csr : Bool
  cube : BitVec 3
  vc : BitVec 2
  addr : BitVec 48
  fence : Bool
  count : BitVec 16
  data : List Byte
deriving DecidableEq, Repr

/-- A sweep of a channel's TSVs (R241): for each TSV a map of 128 delay steps, in which bit i is set where the compare
helper counts no mismatch at step i. Read and write maps are those of the DQs, 36h + j for DQ j of pseudo-channel h; the
CA maps are those of the 14 CA signals. A TSV that a list does not reach is clean at every step. -/
structure Sweep where
  rd : List (BitVec 128)
  wr : List (BitVec 128)
  ca : List (BitVec 128)
deriving DecidableEq, Repr, Inhabited

/-- What an interconnect test finds open or shorted (R242 step 1): DQ positions (pseudo-channel, position) and CA
positions. -/
structure Opens where
  dq : List (Fin 2 × Fin 38)
  ca : List (Fin 15)
deriving DecidableEq, Repr, Inhabited

/-- What a full training measures (R242): for each of its five steps, one entry per attempt. An attempt that a list does
not reach finds nothing wrong. -/
structure TrainRun where
  opens : List Opens
  ca : List (List (BitVec 128))
  rd : List (List (BitVec 128))
  wr : List (List (BitVec 128))
  margin : List Sweep
deriving DecidableEq, Repr, Inhabited

/-- How a self-test slice ends (chapter 18): clean; with a failure at a cube address, which for the march is a bad spare row
(bank and spare) or a bad free remap slot; read-verify over a number of granules; a TSV test or a retraining with what it
found. -/
inductive SliceResult where
  | clean
  | bad (addr : BitVec 36)
  | badRow (bank : Fin 64) (spare : Fin 16) (addr : BitVec 36)
  | badSlot (slot : Fin 16)
  | verified (granules : Nat)
  | tested (opens : Opens) (sweep : Sweep)
  | retrained (sweep : Sweep)
deriving DecidableEq, Repr

/-- The common command codes the sideband target answers (R358), with the address a target is given, or whether the code
concerns in-band interrupts. -/
inductive I3cCcc where
  | entdaa (addr : BitVec 7)
  | setdasa (static addr : BitVec 7)
  | rstdaa
  | enec (ibi : Bool)
  | disec (ibi : Bool)
  | getpid
  | getbcr
  | getdcr
  | getstatus
  | getmwl
  | getmrl
deriving DecidableEq, Repr

/-- What a LAYER_SEL access does after selecting a layer's wrapper (R389, R291): nothing more, or a raw read or write of a
granule of the layer's even or odd channel. A write brings the data bits and the bits by which the stored codeword
differs from the code's. -/
inductive RawAcc where
  | select
  | read (half : Fin 2) (gran : BitVec 25)
  | write (half : Fin 2) (gran : BitVec 25) (data : BitVec 512) (flips : BitVec 576)
deriving DecidableEq, Repr

/-- An access of CSR_ACCESS: a read of n consecutive registers, or a write of words to consecutive registers. -/
inductive CsrAcc where
  | read (n : Nat)
  | write (vs : List Word)
deriving DecidableEq, Repr

/-- One command, operation or event of the cube: a row of spec/opcode_table.json. -/
inductive Instr where
  /-- REGISTER_WRITE (R5): A host or factory write to a register field with no behaviour of its own updates it according to its access code (RW, RWP, W1C, W1S). -/
  | registerWrite (reg : BitVec 22) (v : Word) (factory : Bool)
  /-- RC_READ (R8): A read of an RC field returns its value and clears it, keeping any event that lands in the same cycle for the next read. -/
  | rcRead (reg : BitVec 22)
  /-- VT_NOW_READ (R49): A read of VT_NOW_LO returns VT bits [31:0] and latches bits [47:32] into VT_NOW_HI. -/
  | vtNowRead
  /-- STG_CYC_READ (R127): A read of ENG_STG_CYC_LO latches ENG_STG_CYC_HI and all four ENG_STG_SIGn at one frame boundary. -/
  | stgCycRead (e : Eng)
  /-- LOAD (R25): IMAGE_CMD.OP = LOAD latches the source and length and begins copying the image into the PENDING slot, or fails at once with LOAD_FAULT. -/
  | imageLoad
  /-- IMAGE_COPY_COMPLETE (R25): The image copy ends: the slot goes to LOADED, or to FAILED with LOAD_FAULT on an uncorrectable granule or an error response. -/
  | imageCopyComplete
  /-- VALIDATE (R34): IMAGE_CMD.OP = VALIDATE starts the structure, admission and alive stages, or is refused from the current state. -/
  | imageValidate
  /-- VALIDATION_COMPLETE (R34): Validation ends: the slot goes to VALID, or to FAILED with IMAGE_ERR giving the stage, code and offset. -/
  | validationComplete
  /-- APPLY (R40): IMAGE_CMD.OP = APPLY latches the epoch and PARTS, runs the partial-apply checks and arms a VALID image. -/
  | imageApply (parts : BitVec 16)
  /-- DISCARD (R23): IMAGE_CMD.OP = DISCARD empties the PENDING slot and disarms any armed apply. -/
  | imageDiscard
  /-- IMAGE_BAD_CMD (R24): An unassigned IMAGE_CMD.OP, or a command the slot state does not allow, has no effect and sets IMAGE_ERR.CODE. -/
  | imageBadCmd
  /-- APPLY_EPOCH (R41): At the first frame boundary at or past the epoch, the cube re-checks the armed image and then either installs the new bindings atomically or refuses the apply. -/
  | applyEpoch
  /-- VT_TICK_PS_WRITE (R50): A write to VT_TICK_PS is accepted only with no partition declared and a value in range, and then resets VT_RATE and puts VT in FREE. -/
  | vtTickPsWrite (v : BitVec 14)
  /-- TSYNC_EDGE (R53): A TSYNC rising edge loads an armed VTSET or, in LOCKED, checks the error, corrects VT and trims VT_RATE, or declares a slip. -/
  | tsyncEdge
  /-- TSYNC_MISSING (R54): VT reaches E + 64 in LOCKED without an edge: the cube enters HOLDOVER, sets TSYNC_MISS and sends a fault message. -/
  | tsyncMissing
  /-- VTSET_COMMIT (R55): VT_COMMIT.VTSET checks the alignment and the partition modes, then arms the VTSET or refuses it. -/
  | vtsetCommit
  /-- CAL_COMMIT (R61): VT_COMMIT.CAL checks every pending Calendar entry, arms, re-arms or disarms APPLY_IMAGE, and installs the entries or refuses them. -/
  | calCommit
  /-- HOLIDAY_COMMIT (R64): VT_COMMIT.HOLIDAY checks the holiday window and writes a HOLIDAY_BEGIN into the lowest entry that is empty in both copies. -/
  | holidayCommit
  /-- APPLY_IMAGE (R40): A Calendar APPLY_IMAGE entry fires at its VT, which is the epoch of the apply it armed. -/
  | applyImage (n : Fin 64)
  /-- CAL_MODE (R392): A Calendar MODE entry fires and changes the partition's mode, or is void if the transition is not allowed. -/
  | calMode (n : Fin 64)
  /-- HOLIDAY_BEGIN (R64): A HOLIDAY_BEGIN entry fires and opens or extends a holiday, or is void if its end has already been reached. -/
  | holidayBegin (n : Fin 64)
  /-- HOLIDAY_END (R64): A HOLIDAY_END entry fires and closes the holiday of its scope. -/
  | holidayEnd (n : Fin 64)
  /-- HOLIDAY_EXPIRY (R64): VT reaches the holiday's VT_end and the holiday closes. -/
  | holidayExpiry
  /-- NOREF_OPEN (R65): A NOREF_OPEN entry fires and opens a no-refresh window on the covered channels, or is void. -/
  | norefOpen (n : Fin 64)
  /-- NOREF_CLOSE (R65): A NOREF_CLOSE entry fires and closes the no-refresh window. -/
  | norefClose (n : Fin 64)
  /-- NOREF_WINDOW_EXPIRY (R65): VT reaches VT_close and the no-refresh window closes; repayment resumes. -/
  | norefWindowExpiry
  /-- CAP_OPEN (R59): A CAP_OPEN edge takes effect at the first sample whose VT is at or past it, and the capture window opens. -/
  | capOpen (n : Fin 64)
  /-- CAP_CLOSE (R59): A CAP_CLOSE edge takes effect at the first sample at or past its VT, and the partition's samples stop being compared. -/
  | capClose (n : Fin 64)
  /-- TASK_START (R395): A TASK_START entry fires and starts the WAITING or PREPARING lane-bound engines of the partition at one origin, or is void. -/
  | taskStart (n : Fin 64)
  /-- TASK_STOP (R59): The engines of the partition stop before emitting the first cycle whose stream time is at or past the entry's VT, and their tasks end. -/
  | taskStop (n : Fin 64)
  /-- NOP (R83): The engine does nothing for one ECLK. -/
  | nop (e : Eng)
  /-- ADD (R83): gd ← ga + gb, with Z, N and C set. -/
  | add (e : Eng) (gd ga gb : Fin 16)
  /-- SUB (R83): gd ← ga − gb, with borrow in C. -/
  | sub (e : Eng) (gd ga gb : Fin 16)
  /-- AND (R83): gd ← ga & gb. -/
  | andReg (e : Eng) (gd ga gb : Fin 16)
  /-- OR (R83): gd ← ga | gb. -/
  | orReg (e : Eng) (gd ga gb : Fin 16)
  /-- XOR (R83): gd ← ga ^ gb. -/
  | xorReg (e : Eng) (gd ga gb : Fin 16)
  /-- SHL (R83): gd ← ga << gb[5:0]. -/
  | shl (e : Eng) (gd ga gb : Fin 16)
  /-- SHR (R83): gd ← ga >> gb[5:0], logical. -/
  | shr (e : Eng) (gd ga gb : Fin 16)
  /-- MOV (R87): Moves between general registers, or reads or writes a state register selected by func. -/
  | mov (e : Eng) (op : MovOp)
  /-- ADD_IMM (R83): gd ← ga + sext(imm). -/
  | addImm (e : Eng) (gd ga : Fin 16) (imm : BitVec 18)
  /-- AND_IMM (R83): gd ← ga & sext(imm). -/
  | andImm (e : Eng) (gd ga : Fin 16) (imm : BitVec 18)
  /-- OR_IMM (R83): gd ← ga | sext(imm). -/
  | orImm (e : Eng) (gd ga : Fin 16) (imm : BitVec 18)
  /-- XOR_IMM (R83): gd ← ga ^ sext(imm). -/
  | xorImm (e : Eng) (gd ga : Fin 16) (imm : BitVec 18)
  /-- SHL_IMM (R83): gd ← ga << imm[5:0]. -/
  | shlImm (e : Eng) (gd ga : Fin 16) (sh : BitVec 6)
  /-- SHR_IMM (R83): gd ← ga >> imm[5:0]. -/
  | shrImm (e : Eng) (gd ga : Fin 16) (sh : BitVec 6)
  /-- LI (R88): Loads a sign-extended immediate, or inserts 16 bits at position k of gd. -/
  | li (e : Eng) (gd : Fin 16) (op : LiOp)
  /-- LD (R89): Loads a 64-bit word from local SRAM, correcting single-bit errors. -/
  | ld (e : Eng) (gd ga : Fin 16) (imm : BitVec 18) (upset : SramUpset)
  /-- ST (R89): Stores a 64-bit word to local SRAM. -/
  | st (e : Eng) (gd ga : Fin 16) (imm : BitVec 18)
  /-- DRQ (R90): Issues a tagged DRAM request between local SRAM and DRAM, with range checks at issue. -/
  | drq (e : Eng) (t ga gb : Fin 16) (write : Bool)
  /-- DRQ_COMPLETE (R91): A DRQ's last granule completes and its tag becomes idle, releasing any DWT that waits on it. -/
  | drqComplete (e : Eng) (t : Fin 16) (upsets : List (Nat × Bool))
  /-- DRQ_DMA_HALT (R92): A DRQ meets an uncorrectable granule or an error response; its tag goes idle and the engine takes trap 0x06 at the next boundary. -/
  | drqDmaHalt (e : Eng) (t : Fin 16) (upsets : List (Nat × Bool))
  /-- DWT (R83): The engine stalls until every tag in the mask is idle. -/
  | dwt (e : Eng) (mask : BitVec 16)
  /-- ASET (R73): Writes the generator register selected by gd from ga. -/
  | aset (e : Eng) (gd ga : Fin 16)
  /-- AINC (R74): Steps the address generators in the given increment mode and writes their carries. -/
  | ainc (e : Eng) (mode : BitVec 3)
  /-- ASCR (R83): Loads a scramble table from 256 bytes of local SRAM. -/
  | ascr (e : Eng) (t ga : Fin 16) (upsets : List (Nat × Bool))
  /-- DGSET (R83): DG ← ga. -/
  | dgset (e : Eng) (ga : Fin 16)
  /-- DGINV (R83): Clears, sets or toggles DGI. -/
  | dginv (e : Eng) (op : Fin 3)
  /-- DGCHK (R72): Sets the checkerboard bit indices and the enable. -/
  | dgchk (e : Eng) (xbit ybit : BitVec 5) (chk : Bool)
  /-- DGLFSR (R83): Loads DG, sets the LFSR enable and steps DG once, as func selects. -/
  | dglfsr (e : Eng) (ga : Fin 16) (op : BitVec 4)
  /-- EMIT (R95): Composes one vector cycle from the pin role table, writes it to staging and the echo ring, increments and advances the stream time. -/
  | emit (e : Eng) (src mask : Fin 16) (flags : BitVec 3)
  /-- EMITN (R95): Emits repeat cycles as EMIT does. -/
  | emitn (e : Eng) (src mask : Fin 16) (rep : BitVec 10) (flags : BitVec 3)
  /-- EMIT_STALL_RESUME (R96): A stalled EMIT proceeds once its staging bank and the echo ring have room. -/
  | emitStallResume (e : Eng) (eclk : Nat)
  /-- VSTREAM (R97): Starts vector DMA of stored cycles in PURE or MERGE mode. -/
  | vstream (e : Eng) (ga gb : Fin 16) (merge : Bool)
  /-- VECTOR_DMA_FETCH (R115): Stored-vector data arrives and is written into fill rows (PURE) or the merge queue (MERGE), as room allows. -/
  | vectorDmaFetch (e : Eng) (upsets : List (Nat × BitVec 256))
  /-- VSTREAM_DMA_HALT (R100): Vector DMA meets an uncorrectable granule or an error response; the stream halts and the engine takes trap 0x06. -/
  | vstreamDmaHalt (e : Eng)
  /-- LOOP (R93): Sets LCn from Gga and records the loop start, or skips the body when the count is 0. -/
  | loop (e : Eng) (lc : Fin 4) (ga : Fin 16) (off : BitVec 14)
  /-- ENDL (R94): Decrements LCn and branches back while it is non-zero. -/
  | endl (e : Eng) (lc : Fin 4)
  /-- MARK (R120): Closes the fill row and sets the mark at the next fill row. -/
  | mark (e : Eng)
  /-- REWIND (R122): Closes the fill row, advances STIME and queues n replay passes of the marked region. -/
  | rewind (e : Eng) (ga : Fin 16)
  /-- RELEASE (R124): Ends the hold of the mark without cancelling queued passes. -/
  | release (e : Eng)
  /-- WAITVT (R102): STREAM mode pads to a target stream time; REAL mode stalls until VT reaches it; lateness traps. -/
  | waitvt (e : Eng) (ga : Fin 16) (real : Bool) (tol : BitVec 13)
  /-- WAITVT_REAL_RESUME (R102): A REAL-mode WAITVT resumes when VT reaches its target. -/
  | waitvtRealResume (e : Eng)
  /-- BAR (R103): The engine waits at a cluster barrier; the last arrival releases every participant. -/
  | bar (e : Eng) (mask : BitVec 9) (id : BitVec 4)
  /-- BAR_TIMEOUT (R103): A barrier wait reaches BARTO ECLK and the engine takes trap 0x08. -/
  | barTimeout (e : Eng)
  /-- SIG (R104): Writes SIGCODE, sets SIG and optionally sends an engine event. -/
  | sig (e : Eng) (code : BitVec 8) (notify : Bool)
  /-- BR (R82): Branches relative to itself when the condition holds. -/
  | br (e : Eng) (cond : Fin 13) (off : BitVec 22)
  /-- CALL (R85): Pushes the return address and branches when the condition holds; traps on stack overflow. -/
  | call (e : Eng) (cond : Fin 13) (off : BitVec 22)
  /-- RET (R85): Pops the return address, or returns from a trap to TRAPPC. -/
  | ret (e : Eng) (fromTrap : Bool)
  /-- TRAP (R105): Raises software trap 0x09 with the immediate as detail. -/
  | trap (e : Eng) (imm : BitVec 16)
  /-- HALT (R86): Stalls until tags are idle and the stream is delivered, then ends the task. -/
  | halt (e : Eng)
  /-- HALT_COMPLETE (R86): HALT's wait ends: the mark is released, the task ends and preparation begins. -/
  | haltComplete (e : Eng)
  /-- ILLEGAL_INSTRUCTION (R81): An unassigned opcode or a field violation causes trap 0x02. -/
  | illegalInstruction (e : Eng)
  /-- ICACHE_LINE_FILL (R84): A missed instruction line arrives and the engine resumes, or takes trap 0x01 on an error. -/
  | icacheLineFill (e : Eng)
  /-- TASK_PREPARATION_DONE (R79): Preparation ends after the drain, cache invalidation, initializer copy and register reset; a waiting start then takes effect. -/
  | taskPreparationDone (e : Eng)
  /-- START (R80): ENG_CTRL.START starts an auxiliary engine that is WAITING or PREPARING, or is refused. -/
  | engStart (e : Eng)
  /-- STOP (R80): ENG_CTRL.STOP stops the engine at the next instruction boundary and ends its task. -/
  | engStop (e : Eng)
  /-- REARM (R79): ENG_CTRL.REARM prepares a TRAPPED engine again. -/
  | engRearm (e : Eng)
  /-- FLUSH_ROW (R114): VT reaches a fill row's first-cycle time minus FLUSH_LEAD, and the cube closes the row early. -/
  | flushRow (e : Eng)
  /-- STAGE_HOLD_STALL (R125): A fill stalled on a held bank reaches 1 ms and raises a STAGE_HOLD_STALL fault. -/
  | stageHoldStall (e : Eng)
  /-- TX_DATA_FRAME (R117): At an FTCK with a credit and a closed row, the lane sends a data frame stamped with its first cycle's VT and releases the row once every slot has sent it. -/
  | txDataFrame (k : Fin 100) (upsets : List (Nat × BitVec 256 × BitVec 56))
  /-- TX_IDLE_FRAME (R136): At an FTCK with no closed row or no credit, the lane sends an idle frame. -/
  | txIdleFrame (k : Fin 100)
  /-- RX_DATA_FRAME (R165): An RX data frame is accepted; each cycle is matched to its echo-ring entry by VT and compared, producing counts, fail records and map updates. -/
  | rxDataFrame (k : Fin 100) (count : BitVec 8) (vt : BitVec 24) (credit : BitVec 4) (payload : BitVec 1024)
  /-- RX_IDLE_FRAME (R140): An RX idle frame is accepted and its CREDIT field returns TX credits. -/
  | rxIdleFrame (k : Fin 100) (credit : BitVec 4)
  /-- RX_FRAME_ERROR (R153): A frame with a CRC, code or framing error is discarded and counted, feeding lock-loss and error-rate detection. -/
  | rxFrameError (k : Fin 100) (why : RxError)
  /-- LANE_NO_VALID_FRAME (R153): No valid frame arrives within 256 FTCK and the pair retrains from DETECT. -/
  | laneNoValidFrame (l : LaneId)
  /-- CONFIG_ACK (R145): A CONFIG_ACK arrives; data under the new binding may flow, or the pair goes out of service on a non-zero status. -/
  | configAck (k : Fin 100) (tag status : BitVec 8) (credit : BitVec 4)
  /-- LOOPBACK_ACK (R152): A LOOPBACK_ACK arrives and the loopback proceeds, or is refused. -/
  | loopbackAck (k : Fin 100) (tag status : BitVec 8) (credit : BitVec 4)
  /-- CREDIT_SYNC (R141): A CREDIT_SYNC replaces the count of freed buffers with TOTAL, or is ignored if it is inconsistent. -/
  | creditSync (k : Fin 100) (tag : BitVec 8) (total : BitVec 16) (credit : BitVec 4)
  /-- MOLT_ACK (R155): A MOLT_ACK arrives and the cube switches the logical lane to the spare physical lane. -/
  | moltAck (k : Fin 100) (tag status : BitVec 8) (credit : BitVec 4)
  /-- STATUS (R144): A companion STATUS arrives; the cube records LATE_CYCLES, TX_DISCARDS and SEQ_GAPS and updates the TX error count. -/
  | peerStatus (k : Fin 100) (tag : BitVec 8) (late discards gaps : BitVec 32) (credit : BitVec 4)
  /-- RX_CONTENT_IGNORED (R144): An unknown opcode or other RX content is ignored and counted in VLANE_RX_IGNORED. -/
  | rxContentIgnored (k : Fin 100) (credit : BitVec 4)
  /-- CTRL_REQUEST_RESEND (R143): An unanswered control request is resent every 16 FTCK. -/
  | ctrlRequestResend (l : LaneId)
  /-- LANE_CTRL_TIMEOUT (R143): After 64 unanswered sends, the cube raises LANE_CTRL_TIMEOUT and retrains the pair. -/
  | laneCtrlTimeout (l : LaneId)
  /-- RECEIVER_DETECT (R147): A receiver-detect pulse every 100 µs in DETECT moves the pair to TRAIN once a termination and a signal are found. -/
  | receiverDetect (l : LaneId) (found : Bool)
  /-- LANE_BIT_LOCK (R147): An RX lane gains bit lock in TRAIN and the pair moves to LOCK. -/
  | laneBitLock (l : LaneId)
  /-- TRAINING_SET_RX (R146): A training set is received, counting toward symbol lock and toward the TB exchange that leads to EXCHANGE. -/
  | trainingSetRx (l : LaneId) (tb valid : Bool) (cubeId : BitVec 3) (logical : BitVec 8)
  /-- TRAINING_FRAME_RX (R148): A capability block is received in EXCHANGE; after two identical blocks the side enters ACTIVE or fails the attempt. -/
  | trainingFrameRx (l : LaneId) (valid : Bool) (payload : BitVec 1024)
  /-- LANE_TRAIN_TIMEOUT (R147): A training-state timeout ends the attempt; after 3 attempts the cube attributes the cause and molts the direction at fault or takes the pair out of service. -/
  | laneTrainTimeout (l : LaneId)
  /-- LANE_ABSENT (R149): A pair not past DETECT within 5 ms is marked absent and polled every 1 ms. -/
  | laneAbsent (k : Fin 100)
  /-- RETRAIN (R147): VLANE_CTRL.RETRAIN retrains the pair from DETECT. -/
  | laneRetrain (k : Fin 100)
  /-- MOLT_TX (R157): VLANE_CTRL.MOLT_TX molts the TX direction to a STANDBY spare, or takes it out of service. -/
  | moltTx (k : Fin 100)
  /-- MOLT_RX (R157): VLANE_CTRL.MOLT_RX molts the RX direction to a STANDBY spare. -/
  | moltRx (k : Fin 100)
  /-- LB_START (R152): VLANE_CTRL.LB_START starts a loopback test on an idle ACTIVE pair, or is refused. -/
  | lbStart (k : Fin 100) (mode : BitVec 2) (frames : BitVec 16)
  /-- LB_STOP (R152): VLANE_CTRL.LB_STOP ends a loopback, sends CREDIT_QUERY and resumes. -/
  | lbStop (k : Fin 100)
  /-- LOOPBACK_COMPLETE (R152): A loopback reaches LB_FRAMES; the cube sets LB_DONE, and LB_FAIL if errors occurred. -/
  | loopbackComplete (k : Fin 100)
  /-- ECHO_ENTRY_EXPIRY (R161): VT reaches an entry's VT plus RTT_MAX; unanswered unmasked slots become UNANSWERED gap evidence. -/
  | echoEntryExpiry (u : Fin 9)
  /-- GAP_RECORD_CLOSE (R169): A GAP run reaches 1 µs since its first cycle and is closed and queued. -/
  | gapRecordClose (u : Fin 9)
  /-- CAPTURE_DMA_WRITE_COMPLETE (R171): A fail-record granule write completes, enabling the header write; on an error response the channel halts with CAP_DMA_HALT. -/
  | captureDmaWriteComplete (u : Fin 9)
  /-- SEGMENT_HEADER_WRITE (R171): Capture DMA writes the segment header's WR and DROPPED, at most once per µs and at least once every 100 µs. -/
  | segmentHeaderWrite (u : Fin 9) (p : Fin 16)
  /-- SEGMENT_HEADER_REREAD (R172): When a segment looks full, the unit re-reads RD from the header, at most once per µs, and drops the record if it is still full. -/
  | segmentHeaderReread (u : Fin 9) (p : Fin 16)
  /-- MAP_FILL_COMPLETE (R176): A fail-map line fill arrives and the waiting updates merge; an uncorrectable fill merges into zeros and sets MAP_LOST. -/
  | mapFillComplete (u : Fin 9)
  /-- MAP_LINE_AGE_FLUSH (R177): A line stays dirty for FLUSH_AGE_US and is written back. -/
  | mapLineAgeFlush (u : Fin 9)
  /-- MAP_WRITEBACK_COMPLETE (R178): A map write-back completes; on an error response its updates count as dropped and MAP_INCOMPLETE sets. -/
  | mapWritebackComplete (u : Fin 9)
  /-- MAP_PARTITION_FLUSH (R177): Once a partition's window has closed or it has left RUN, and its earlier entries are answered or expired, its dirty lines are written back. -/
  | mapPartitionFlush (u : Fin 9) (p : Fin 16)
  /-- FLUSH (R177): CAP_CTRL.FLUSH writes back every dirty line. -/
  | capFlush (u : Fin 9)
  /-- DMA_RESUME (R173): CAP_CTRL.DMA_RESUME restarts a halted capture DMA from the record that failed. -/
  | dmaResume (u : Fin 9)
  /-- RC_DUMP (R184): CAP_CTRL.RC_DUMP starts copying a partition's counters to DRAM, or is refused. -/
  | rcDump (u : Fin 9) (p : Fin 16)
  /-- RC_DUMP_DONE (R184): The last dump write completes and DUMP_DONE sets. -/
  | rcDumpDone (u : Fin 9)
  /-- RC_CLEAR (R185): CAP_CTRL.RC_CLEAR zeroes a partition's counters, or is refused. -/
  | rcClear (u : Fin 9) (p : Fin 16)
  /-- MC_REQUEST (R193): A granule request enters a channel's request queue and is scheduled; writes enter the write buffer and reads are forwarded or go to the array. -/
  | mcRequest (k : Fin 32) (master : BitVec 10) (port : Bool) (write : Bool) (gran : BitVec 25) (off : BitVec 6) (data : List Byte)
  /-- ARRAY_READ_COMPLETE (R225): An array read returns; the syndromes classify it as clean, corrected (with a write-back) or uncorrectable. -/
  | arrayReadComplete (c : Fin 34) (upset : BitVec 576)
  /-- WRITE_BUFFER_DRAIN (R197): The controller drains write-buffer granules to the array when it is full, when no read is queued, or when a granule has aged 4096 FCLK. -/
  | writeBufferDrain (c : Fin 34) (upsets : List (Nat × BitVec 576))
  /-- ROW_CLOSE_TIMEOUT (R193): A row is closed 128 FCLK after its last access. -/
  | rowCloseTimeout (c : Fin 34) (b : Fin 64)
  /-- REFRESH_DUE (R198): A bank falls due for a per-bank refresh; its debt rises and the planner issues, postpones or forces refresh. -/
  | refreshDue (c : Fin 34) (b : Fin 64)
  /-- REFRESH_ISSUE (R199): The planner issues a due or owed refresh when the bank is free, or at once at debt 2. -/
  | refreshIssue (c : Fin 34) (b : Fin 64)
  /-- NOREF_PREPARE (R201): One tREFI before a NOREF_OPEN entry's VT, the planners bring each bank to a debt of −1. -/
  | norefPrepare (c : Fin 34)
  /-- NEIGHBOUR_REFRESH (R204): A row reaching 4096 activations has its neighbours refreshed at the next opportunity. -/
  | neighbourRefresh (c : Fin 34)
  /-- LAYER_TEMP_SAMPLE (R205): Every 256 µs the controller reads its layer's sensor and the Almanac forms the effective temperature, driving hot, over-range, throttle and trip. -/
  | layerTempSample (readings : List (Option (BitVec 12)))
  /-- TRIP_EXIT (R208): After every temperature has stayed at or below 95 °C for 10 ms, the layers leave self-refresh and the data plane resumes. -/
  | tripExit
  /-- CHMAP_COMMIT (R190): The Almanac's commit of the channel map is checked and, if it passes, begins holding requests for the two moving logical channels. -/
  | chmapCommit (map : List (BitVec 6))
  /-- CHMAP_SWITCH (R191): Once the old channels' queues and write buffers are empty, the map switches and the held requests are released. -/
  | chmapSwitch
  /-- REGULATOR_RELEASE (R213): A port releases a held granule request when its class bucket holds a token, or on SURPLUS. -/
  | regulatorRelease (k : Fin 32) (c : Fin 8) (master : BitVec 10) (port : Bool)
  /-- BW_COMMIT (R218): BW_COMMIT checks and installs the class reserves, caps and shares, or refuses them. -/
  | bwCommit
  /-- LEAKY_BUCKET_LEAK (R230): Every LB_PERIOD µs the channel's leaky-bucket count decreases by 1. -/
  | leakyBucketLeak (c : Fin 34)
  /-- REMAP_ALLOCATE (R233): For a granule with 3 corrections the Almanac allocates a remap entry with AUTO = 1, or logs REMAP_WANTED with AUTO = 0. -/
  | remapAllocate (c : Fin 34)
  /-- REMAP_COMMIT (R234): MC_REMAP_CTRL.COMMIT checks the remap group, moves slot contents and switches the changed entries. -/
  | remapCommit (c : Fin 34) (host : Bool)
  /-- ROW_REPAIR (R237): In a window, the Almanac copies a row to a spare row by fuse repair and frees its remap entries. -/
  | rowRepair (c : Fin 34)
  /-- ECC_FLIP_ARM (R240): MC_ECC_FLIP_CTRL.ARM copies the flip mask and PCSEL and arms the flip. -/
  | eccFlipArm (c : Fin 34)
  /-- ECC_FLIP_DISARM (R240): MC_ECC_FLIP_CTRL.DISARM cancels an armed flip. -/
  | eccFlipDisarm (c : Fin 34)
  /-- CHANNEL_FULL_TRAINING (R242): A full training of a channel runs its five steps and takes the new settings into use, or fails the channel. -/
  | channelFullTraining (c : Fin 34) (run : TrainRun)
  /-- RETRAIN_PERIOD_DUE (R244): PERIOD_S seconds pass since the last training and the channel becomes due. -/
  | retrainPeriodDue (c : Fin 34)
  /-- REQ (R244): MC_TRN_CTRL.REQ marks the channel due for retraining. -/
  | trainReq (c : Fin 34)
  /-- FULL (R246): MC_TRN_CTRL.FULL requests a full training in the field. -/
  | trainFull (c : Fin 34)
  /-- TRAIN_OVERDUE (R247): DUE or ESCALATED stands for OVERDUE_S without a retraining, and TRAIN_OVERDUE is raised. -/
  | trainOverdue (c : Fin 34)
  /-- TSV_DQ_REPAIR (R248): A suspect DQ is tested in an open window and shifted to a spare, or found sound and retrained. -/
  | tsvDqRepair (c : Fin 34) (pc : Fin 2) (sound : Bool) (sweep : Sweep)
  /-- LAYER_SUBSTITUTION (R252): A failed layer starts substitution: its channels go to MIGRATING and the spare layer is readied. -/
  | layerSubstitution (n : Fin 17) (even odd : Bool) (dead : Bool) (w0 w1 : Sweep)
  /-- MIGRATION_GRANULE_COPY (R253): Migration copies one granule to the spare layer, or poisons it if it cannot be read. -/
  | migrationGranuleCopy (c : Fin 34) (upset : BitVec 576)
  /-- MIGRATION_COMPLETE (R252): The copy ends, the channel map is committed, the old channels retire and the substitution is logged. -/
  | migrationComplete
  /-- SUBST (R258): MC_LAYER_CTRL.SUBST requests the substitution of a layer, or is refused. -/
  | layerSubst (layer : BitVec 5)
  /-- LINK_FRAME_RX (R267): A host-link link frame is received; it is accepted in FSEQ order or discarded, and its ACK frees the replay buffer. -/
  | linkFrameRx (typ : BitVec 4) (fseq ack : BitVec 12) (bad noComma : BitVec 9) (agree : Bool) (low high : List Byte)
  /-- REPLAY_TIMEOUT (R269): REPLAY_TO passes with the expected frame unreceived or the oldest frame unacknowledged, and a replay is requested or performed. -/
  | replayTimeout (receiver : Bool)
  /-- REPLAY (R269): A REPLAY packet in a control link frame makes the cube resend its buffered frames from the named FSEQ, or retrain with FRESH if it does not hold that FSEQ. -/
  | replay (fseq : BitVec 12)
  /-- READ (R279): A READ packet is checked and served from DRAM or CSR space, with the data returned in a RESPONSE. -/
  | linkRead (p : Pkt)
  /-- WRITE (R279): A WRITE packet is checked and executed in DRAM or CSR space, and a RESPONSE is sent on completion. -/
  | linkWrite (p : Pkt)
  /-- WRITE_POSTED (R280): A WRITE_POSTED is executed with no response; if refused, it is discarded and raises POSTED_ERR. -/
  | linkWritePosted (p : Pkt)
  /-- VTSET (R286): A VTSET packet writes and commits the VTSET group in one step and answers OK, REFUSED or MALFORMED. -/
  | linkVtset (p : Pkt)
  /-- CREDIT (R284): A CREDIT packet returns buffer units per VC to the cube. -/
  | linkCredit (p : Pkt)
  /-- RESPONSE_SEND (R285): A completed request's RESPONSE is sent once VC2 credit allows. -/
  | responseSend
  /-- EVENT_SEND (R289): A queued event is sent as an EVENT packet when the link is UP and VC3 credit allows. -/
  | eventSend
  /-- HLINK_MOLT_REQUEST (R272): A MOLT control link frame from the host starts a molt of a cube TX lane. -/
  | hlinkMoltRequest (logical : BitVec 8) (new old : BitVec 8)
  /-- HLINK_MOLT_ACK (R272): A MOLT_ACK from the host completes a host-link lane molt and sets the old lane OFF. -/
  | hlinkMoltAck (tag status : BitVec 8)
  /-- HLINK_WIDTH_CHANGE (R273): A lane fails with the spare in use, and the link retrains at a narrower width, repacking unacknowledged bytes. -/
  | hlinkWidthChange (tx : Bool) (n : Fin 9)
  /-- HLINK_BRINGUP_TIMEOUT (R265): The link is not UP within 5 ms; it goes DOWN and retries from DETECT every 1 ms. -/
  | hlinkBringupTimeout
  /-- HLINK_RETRAIN (R293): HLINK_CTRL.RETRAIN retrains the link from DETECT with its link-layer state kept. -/
  | hlinkRetrain
  /-- HLINK_FRESH (R294): HLINK_CTRL.FRESH retrains with FRESH = 1, discarding link-layer state and undelivered responses. -/
  | hlinkFresh
  /-- HLINK_MOLT_TX (R271): HLINK_CTRL.MOLT_TX molts the named cube TX logical lane. -/
  | hlinkMoltTx (l : Fin 8)
  /-- HLINK_MOLT_RX (R271): HLINK_CTRL.MOLT_RX molts the named cube RX logical lane. -/
  | hlinkMoltRx (l : Fin 8)
  /-- HLINK_DMA_RESUME (R283): HLINK_DMA.RESUME ends a host DMA halt. -/
  | hlinkDmaResume
  /-- FUSE_SENSE_COMPLETE (R302): Fuse sensing ends; each block is classified and the shadows and P_FAIL or T_FAIL outcomes are set. -/
  | fuseSenseComplete (weak tight : List (BitVec 7 × Word)) (lockWeak lockTight : BitVec 8)
  /-- PROGRAM (R311): FUSE_PGM_CMD PROGRAM blows the requested bits of a word or lock with verify, or is refused. -/
  | fuseProgram (factory : Bool)
  /-- STRENGTHEN (R315): FUSE_PGM_CMD STRENGTHEN re-pulses the blown bits of a word or lock and verifies them. -/
  | fuseStrengthen (factory : Bool)
  /-- ADVANCE (R314): FUSE_PGM_CMD ADVANCE moves a limited-change setting forward in interruption-safe order, or is refused. -/
  | fuseAdvance (factory : Bool)
  /-- FUSE_COMMAND_COMPLETE (R311): A fuse command finishes its pulses and verification, setting DONE, or ERR with VERIFY_FAIL. -/
  | fuseCommandComplete (most : Fin 5) (good : Option (BitVec 7)) (blown : Bool) (unread weak : Word)
  /-- FUSE_OVR_WRITE (R317): A write to FUSE_OVR enables or disables shadow override and sets or clears HOLD. -/
  | fuseOvrWrite (hold enable factory : Bool)
  /-- PLL_UNLOCK (R321): The primary PLL reports unlock; a switchover pauses the data plane and moves to the standby, or HCK is declared lost. -/
  | pllUnlock (i : Fin 2)
  /-- PLL_RELOCK (R322): A PLL relocks and becomes standby, or primary after an HCK loss. -/
  | pllRelock (i : Fin 2)
  /-- PLL_RELOCK_TIMEOUT (R322): A PLL that has not relocked within 10 ms is retired. -/
  | pllRelockTimeout (i : Fin 2)
  /-- CLOCK_MONITOR_WINDOW (R324): A 1024-ROSC-cycle window ends; a bad count declares HCK lost, and enough good windows restore it. -/
  | clockMonitorWindow (count : BitVec 16)
  /-- GATE_REQUEST (R330): A block's enable in effect turns to 0 and the cube holds its transactions pending a gate. -/
  | gateRequest (n : Fin 1024)
  /-- GATE_COMPLETE (R330): The block's outstanding transactions complete and its clocks stop. -/
  | gateComplete (n : Fin 1024)
  /-- GATE_WAIT_TIMEOUT (R330): After 256 FCLK, the gate is refused (FORCE = 0) or forced with error responses (FORCE = 1). -/
  | gateWaitTimeout (n : Fin 1024)
  /-- GATE_WAKE (R331): A request reaching a gated channel controller or the fabric wakes it within 32 FCLK. -/
  | gateWake (n : Fin 1024)
  /-- GATE_IDLE_REGATE (R331): A woken block is gated again after 1024 FCLK with no request. -/
  | gateIdleRegate (n : Fin 1024)
  /-- GATE_COMMIT (R332): CLKPWR_GATE_COMMIT.COMMIT checks the enables against MUST_RUN and BOUND and installs them. -/
  | gateCommit
  /-- GATE_RETRY (R330): CLKPWR_GATE_COMMIT.RETRY issues refused gate requests again. -/
  | gateRetry
  /-- PHASE_FAULT (R337): A phase overcurrent, imbalance or self-check failure retires the phase and brings in a spare, or raises REG_PHASE_LOST. -/
  | phaseFault (p : Fin 28)
  /-- RAIL_FAULT (R338): A rail outside ±5 % for 10 µs pauses the data plane, places the layers in self-refresh and sets RAIL_FAULT. -/
  | railFault (r : Fin 4)
  /-- VIN_EXCURSION (R416): VIN outside 1.70 to 1.90 V for 10 µs acts as a fall of PWROK. -/
  | vinExcursion
  /-- PWROK_RISE (R402): PWROK rises with VIN in range and start-up begins at fuse sensing. -/
  | pwrokRise (vinOk : Bool) (straps : BitVec 3)
  /-- PWROK_FALL (R407): PWROK falls; the cube stops, ramps the rails down and loses DRAM contents. -/
  | pwrokFall
  /-- RESET_N_ASSERT (R404): RESET_N low for 1 µs puts the layers in self-refresh, ramps VCORE and VLANE down and enters HOLD. -/
  | resetNAssert (ns : Nat)
  /-- RESET_N_DEASSERT (R404): RESET_N deasserts; the straps latch and start-up runs from step 0. -/
  | resetNDeassert (straps : BitVec 3)
  /-- RAIL_RAMP_COMPLETE (R336): The trimmed rails reach their windows in order and start-up proceeds to PLL lock. -/
  | railRampComplete
  /-- PLL_LOCK (R402): A root PLL locks at start-up and the data plane leaves reset into BOOT. -/
  | pllLock (i : Fin 2)
  /-- OPEN (R341): ALM_CMD OPEN starts a stage-1 firmware load, or is refused after stage 1. -/
  | almOpen
  /-- ALM_FW_WIN_WRITE (R341): A 64 B write to ALM_FW_WIN appends image bytes, or is discarded with ORDER. -/
  | almFwWinWrite (data : List Byte)
  /-- BOOT_FW (R341): ALM_CMD BOOT_FW checks the header, key, signature, digest and version and starts the resident firmware. -/
  | bootFw
  /-- OVERLAY (R342): ALM_CMD OVERLAY copies and checks the overlay and makes the Almanac RUNNING. -/
  | almOverlay
  /-- UPDATE (R345): ALM_CMD UPDATE checks a new image and writes it into the slot not in force. -/
  | almUpdate
  /-- FW_UPDATE_RESTART (R345): At a quiet point the Almanac restarts on the new slot, or refuses with BUSY after 100 ms. -/
  | fwUpdateRestart
  /-- FW_REVERTED (R345): New firmware not ready within 100 ms makes the loader restart on the former slot. -/
  | fwReverted
  /-- FW_ANTIROLLBACK_ADVANCE (R344): After RUNNING, the firmware advances the anti-rollback fuse setting to its VERSION. -/
  | fwAntirollbackAdvance
  /-- SITE_SAMPLE (R347): Every 64 µs each base-die site is sampled, corrected, compared for trip and checked for pair disagreement. -/
  | siteSample (elems : List (BitVec 16 × BitVec 16 × BitVec 16)) (rails phases : List (BitVec 16)) (vin power : BitVec 16)
  /-- ALM_CAL_REQ (R349): ALM_CAL_CTRL.REQ requests a sensor calibration. -/
  | almCalReq
  /-- CALIBRATION_COMPLETE (R350): The two calibration runs end and their coefficients are applied or discarded. -/
  | calibrationComplete (siteDiff voltDiff : Nat) (coef vcoef : List (BitVec 32)) (pairs : List (Fin 3)) (deltas : List (BitVec 12))
  /-- LOG_COPY (R356): The Almanac copies SRAM log entries into the DRAM log ring in SEQ order. -/
  | logCopy
  /-- SB_DOORBELL (R360): A write of 1 to SB_DOORBELL submits SB_REQ, unless BUSY. -/
  | sbDoorbell
  /-- SB_POINTER_WRITE (R359): A sideband write sets the register pointer and writes bytes from it. -/
  | sbPointerWrite (ptr : Byte) (data : List Byte)
  /-- SB_RESP_LAST_READ (R359): A read of SB_RESP's last byte clears RESP_READY. -/
  | sbRespLastRead
  /-- I3C_CCC (R358): The sideband target answers an I3C common command code. -/
  | i3cCcc (c : I3cCcc)
  /-- READ_SENSORS (R361): The mailbox returns temperatures, voltage, power and status flags. -/
  | readSensors
  /-- READ_SITES (R361): The mailbox returns 16 site values. -/
  | readSites
  /-- READ_LOG (R361): The mailbox returns the log entry with a given SEQ. -/
  | readLog
  /-- READ_STATUS (R361): The mailbox returns fuse, clock, Almanac and firmware status. -/
  | readStatus
  /-- REQ_RESET (R406): The mailbox resets the cube as a 10 µs RESET_N low after the response. -/
  | reqReset
  /-- REQ_DEEP (R397): The mailbox enters or leaves Deep-Sleep, or refuses. -/
  | reqDeep
  /-- FW_BEGIN (R363): The mailbox begins a sideband firmware update, if SB_FW_UPDATE allows it. -/
  | fwBegin
  /-- FW_DATA (R363): The mailbox stores firmware data at the next expected offset. -/
  | fwData
  /-- FW_END (R363): The mailbox ends a sideband transfer and runs the update. -/
  | fwEnd
  /-- FAULT_MESSAGE_TAKE (R371): The collector takes one fault message, stamps it, loads or counts the first-error record, logs it and applies its reaction. -/
  | faultMessageTake
  /-- QUIET_PERIOD_EXPIRY (R374): A policy fence passes its quiet period and lifts, or the unit retires after 3 recent recoveries. -/
  | quietPeriodExpiry (unit : BitVec 10)
  /-- FENCE (R375): FAULT_CTRL.FENCE fences a unit until UNFENCE. -/
  | faultFence (unit : BitVec 10)
  /-- UNFENCE (R375): FAULT_CTRL.UNFENCE lifts a fence and counts a recovery. -/
  | faultUnfence (unit : BitVec 10)
  /-- RETIRE (R372): FAULT_CTRL.RETIRE retires a unit. -/
  | faultRetire (unit : BitVec 10)
  /-- ACK (R378): FAULT_PARTp.ACK returns DEGRADED_RUNNING to HEALTHY while ALL_ALIVE is 1, or is refused. -/
  | faultAck (p : Fin 16)
  /-- SLICE_START (R383): The scheduler starts a self-test slice on an open, idle target whose budget fits. -/
  | sliceStart (kind : Fin 8) (target : BitVec 10) (part : BitVec 5)
  /-- SLICE_COMPLETE (R386): A slice ends, passing or failing; a failure acts on the block. -/
  | sliceComplete (kind : Fin 8) (target : BitVec 10) (part : BitVec 5) (res : SliceResult)
  /-- SLICE_BUDGET_EXPIRY (R385): A slice reaches its budget and is abandoned as incomplete (read-verify ends complete). -/
  | sliceBudgetExpiry (kind : Fin 8) (target : BitVec 10) (part : BitVec 5)
  /-- ABANDON (R385): ST_CTRL.ABANDON abandons every running slice. -/
  | abandon
  /-- STARTUP_SELFTEST (R388): After memory training, the start-up set runs every slice of the fixed set and read-verify. -/
  | startupSelftest
  /-- STARTUP_SET_COMPLETE (R403): The start-up set ends with the Almanac RUNNING and the device enters READY. -/
  | startupSetComplete (weak : List (Fin 32 × BitVec 25))
  /-- MEMORY_TRAINING_COMPLETE (R295): Memory training of every channel ends, and DRAM space stops answering NOT_READY. -/
  | memoryTrainingComplete
  /-- SET_MODE (R394): GLOBAL_MODE_CMD SET_MODE checks the named partitions and requests a mode change at the next boundary. -/
  | setMode (mode : BitVec 3) (parts : BitVec 16)
  /-- PARTITION_START (R395): GLOBAL_MODE_CMD START checks the named partitions and requests a start of their lane-bound engines at the next boundary. -/
  | partitionStart (parts : BitVec 16)
  /-- MODE_COMMAND_EFFECT (R394): At the frame boundary a SET_MODE or START is re-checked and takes effect, or is refused. -/
  | modeCommandEffect
  /-- PARTITION_DRAINED (R396): A sleeping partition finishes draining and its blocks' gate requests are issued. -/
  | partitionDrained (p : Fin 16)
  /-- DEEP_ENTER (R398): GLOBAL_MODE_CMD DEEP_ENTER stops VT, idles the host link, places the layers in self-refresh and stops the PLLs. -/
  | deepEnter
  /-- DEEP_EXIT (R399): GLOBAL_MODE_CMD DEEP_EXIT starts the exit sequence from DEEP. -/
  | deepExit
  /-- DEEP_EXIT_COMPLETE (R399): The DEEP exit completes with lanes retrained; VT in FREE and DEEP_EXITED set. -/
  | deepExitComplete
  /-- RESET (R406): GLOBAL_MODE_CMD RESET with KEY 0x5E resets the cube as a 10 µs RESET_N low. -/
  | modeReset (key : BitVec 8)
  /-- MODE_BAD_CMD (R394): An unassigned GLOBAL_MODE_CMD OP is refused with BAD_CMD. -/
  | modeBadCmd
  /-- TRST_N_RESET (R389): TRST_N resets the TAP. -/
  | trstNReset
  /-- BYPASS (R389): The TAP selects the bypass register. -/
  | tapBypass
  /-- IDCODE (R389): The TAP shifts out IDCODE 0x1166_46B3. -/
  | tapIdcode
  /-- SAMPLE_PRELOAD (R389): The boundary-scan cells sample or preload. -/
  | samplePreload (sample preload : List Bool)
  /-- EXTEST (R389): The boundary-scan cells drive the pins. -/
  | tapExtest
  /-- CLAMP (R389): The outputs are clamped with the bypass register selected. -/
  | tapClamp
  /-- HIGHZ (R389): The outputs are placed in high impedance. -/
  | tapHighz
  /-- EXTEST_PULSE (R389): IEEE 1149.6 pulse test on the AC-coupled pins. -/
  | extestPulse
  /-- EXTEST_TRAIN (R389): IEEE 1149.6 train test on the AC-coupled pins. -/
  | extestTrain
  /-- CSR_ACCESS (R389): Factory-privilege access to CSR space and the TAP block. -/
  | csrAccess (reg : BitVec 22) (acc : CsrAcc)
  /-- LAYER_SEL (R389): Selects a layer's IEEE 1838 die wrapper for raw layer access. -/
  | layerSel (layer : Fin 17) (acc : RawAcc)
  /-- WRAP_SEL (R389): Selects an engine's IEEE 1500 wrapper, or is refused for an engine in service. -/
  | wrapSel (e : Eng)
  /-- PLL_SWITCHOVER_COMPLETE (R321): Once the standby has become primary and the dividers have restarted at a realignment pulse, the always-on functions return to their PLL clocks and the data plane resumes with VT in FREE. -/
  | pllSwitchoverComplete
  /-- FUSE_SENSE_TIMEOUT (R402): Fuse sensing that has not finished within 1 ms sets P_FAIL and T_FAIL and leaves the cube in HOLD. -/
  | fuseSenseTimeout
  /-- PLL_LOCK_TIMEOUT (R399): When no root PLL has locked within 1 ms at start-up step 2 or during a DEEP exit, the cube declares HCK lost and waits for a lock. -/
  | pllLockTimeout
  /-- FW_UPDATE_READY (R345): The restarted firmware reports ready; STATE leaves RESTARTING, FW_UPDATE is logged and any anti-rollback advance may follow. -/
  | fwUpdateReady
  /-- PARTITION_WAKE_COMPLETE (R396): A partition leaving SLEEP has its blocks clocked and ready, up to 20 µs after the boundary, and its GLOBAL_PDRAIN.WAKING bit clears. -/
  | partitionWakeComplete (p : Fin 16)
  /-- VAUX_UNDERVOLTAGE (R338): VAUX below 0.78 V holds the whole cube in reset, as PWROK low does. -/
  | vauxUndervoltage
deriving DecidableEq, Repr

end Sys2Proof
end

