-- ==== Sys2Proof/Decode.lean ====
section
/-! DEFINITION. The opcode table gives its rows no bits, so decodeTableWord spells no command. The pattern engines'
own instruction words do have bits (R81 to R104): engWord composes the word of an engine command and engDecode reads
one back; both are written from the formats and tables of chapter 04. -/
namespace Sys2Proof
open Machine

/-- The command a word of the opcode table spells: its rows give no bits, so none. -/
def decodeTableWord (_nbits _w : Nat) : Option Instr := none

/-- 1 for true. -/
def bitN (b : Bool) : Nat := if b then 1 else 0

/-- The instruction word of an engine command (R83, R87, R88, R90, R93 to R95, R97, R101 to R104). -/
def engWord : Instr → Option Nat
  | .nop _ => some (fmtA 0x01 0 0 0 0)
  | .add _ gd ga gb => some (fmtA 0x02 gd ga gb 0)
  | .sub _ gd ga gb => some (fmtA 0x03 gd ga gb 0)
  | .andReg _ gd ga gb => some (fmtA 0x04 gd ga gb 0)
  | .orReg _ gd ga gb => some (fmtA 0x05 gd ga gb 0)
  | .xorReg _ gd ga gb => some (fmtA 0x06 gd ga gb 0)
  | .shl _ gd ga gb => some (fmtA 0x07 gd ga gb 0)
  | .shr _ gd ga gb => some (fmtA 0x08 gd ga gb 0)
  | .mov _ (.reg gd ga) => some (fmtA 0x09 gd ga 0 0)
  | .mov _ (.fromSr gd srn) => some (fmtA 0x09 gd 0 0 (0x1000 + srn.toNat))
  | .mov _ (.toSr srn ga) => some (fmtA 0x09 0 ga 0 (0x2000 + srn.toNat))
  | .addImm _ gd ga imm => some (fmtB 0x0A gd ga imm.toNat)
  | .andImm _ gd ga imm => some (fmtB 0x0B gd ga imm.toNat)
  | .orImm _ gd ga imm => some (fmtB 0x0C gd ga imm.toNat)
  | .xorImm _ gd ga imm => some (fmtB 0x0D gd ga imm.toNat)
  | .shlImm _ gd ga sh => some (fmtB 0x0E gd ga sh.toNat)
  | .shrImm _ gd ga sh => some (fmtB 0x0F gd ga sh.toNat)
  | .li _ gd (.sext imm) => some (fmtB 0x10 gd 0 imm.toNat)
  | .li _ gd (.ins k imm) => some (fmtB 0x10 gd (8 + k.val) imm.toNat)
  | .ld _ gd ga imm _ => some (fmtB 0x11 gd ga imm.toNat)
  | .st _ gd ga imm => some (fmtB 0x12 gd ga imm.toNat)
  | .drq _ t ga gb write => some (fmtA 0x13 t ga gb (bitN write))
  | .dwt _ mask => some (fmtB 0x14 0 0 mask.toNat)
  | .aset _ gd ga => some (fmtA 0x15 gd ga 0 0)
  | .ainc _ mode => some (fmtA 0x16 0 0 0 mode.toNat)
  | .ascr _ t ga _ => some (fmtA 0x17 t ga 0 0)
  | .dgset _ ga => some (fmtA 0x18 0 ga 0 0)
  | .dginv _ op => some (fmtA 0x19 0 0 0 op.val)
  | .dgchk _ x y chk => some (fmtB 0x1A 0 0 (x.toNat + y.toNat * 2 ^ 5 + bitN chk * 2 ^ 10))
  | .dglfsr _ ga op => some (fmtA 0x1B 0 ga 0 op.toNat)
  | .emit _ src mask flags => some (fmtD 0x1C src mask 0 flags.toNat)
  | .emitn _ src mask rep flags => some (fmtD 0x1D src mask rep.toNat flags.toNat)
  | .vstream _ ga gb merge => some (fmtA 0x1E 0 ga gb (bitN merge))
  | .loop _ lc ga off => some (fmtA 0x1F lc ga 0 off.toNat)
  | .endl _ lc => some (fmtA 0x20 lc 0 0 0)
  | .mark _ => some (fmtA 0x21 0 0 0 0)
  | .rewind _ ga => some (fmtA 0x22 0 ga 0 0)
  | .release _ => some (fmtA 0x23 0 0 0 0)
  | .waitvt _ ga real tol => some (fmtA 0x24 0 ga 0 (bitN real + tol.toNat * 2))
  | .bar _ mask id => some (fmtB 0x25 0 0 (mask.toNat + id.toNat * 2 ^ 9))
  | .sig _ code notify => some (fmtB 0x26 0 0 (code.toNat + bitN notify * 2 ^ 8))
  | .br _ cond off => some (fmtC 0x27 cond.val off.toNat)
  | .call _ cond off => some (fmtC 0x28 cond.val off.toNat)
  | .ret _ fromTrap => some (fmtA 0x29 0 0 0 (bitN fromTrap))
  | .trap _ imm => some (fmtB 0x2A 0 0 imm.toNat)
  | .halt _ => some (fmtA 0x2B 0 0 0 0)
  | _ => none

/-- The command without what its word does not say: the SRAM upset that an LD or ASCR meets. -/
def dropUpset : Instr → Instr
  | .ld e gd ga imm _ => .ld e gd ga imm .clean
  | .ascr e t ga _ => .ascr e t ga []
  | i => i

/-- A register field. -/
def regF (n : Nat) : Fin 16 := Fin.ofNat 16 n

/-- The command of engine e that an instruction word stands for; none where the word is illegal by its form alone
(R81): an unassigned opcode, condition or selection, or a field that must be zero. -/
def engDecode (e : Eng) (w : Nat) : Option Instr :=
  let gd := regF (gdOf w)
  let ga := regF (gaOf w)
  let gb := regF (gbOf w)
  let z3 := gdOf w = 0 && gaOf w = 0 && gbOf w = 0 && funcOf w = 0
  let f := funcOf w
  let im := immOf w
  let imm := BitVec.ofNat 18 im
  match opOf w with
  | 0x01 => if z3 then some (.nop e) else none
  | 0x02 => if f = 0 then some (.add e gd ga gb) else none
  | 0x03 => if f = 0 then some (.sub e gd ga gb) else none
  | 0x04 => if f = 0 then some (.andReg e gd ga gb) else none
  | 0x05 => if f = 0 then some (.orReg e gd ga gb) else none
  | 0x06 => if f = 0 then some (.xorReg e gd ga gb) else none
  | 0x07 => if f = 0 then some (.shl e gd ga gb) else none
  | 0x08 => if f = 0 then some (.shr e gd ga gb) else none
  | 0x09 =>
    if gbOf w ≠ 0 || bits w 8 4 ≠ 0 then none
    else match bits w 12 2 with
      | 0 => if bits w 0 8 = 0 then some (.mov e (.reg gd ga)) else none
      | 1 => if gaOf w = 0 then some (.mov e (.fromSr gd (BitVec.ofNat 8 (bits w 0 8)))) else none
      | 2 => if gdOf w = 0 then some (.mov e (.toSr (BitVec.ofNat 8 (bits w 0 8)) ga)) else none
      | _ => none
  | 0x0A => some (.addImm e gd ga imm)
  | 0x0B => some (.andImm e gd ga imm)
  | 0x0C => some (.orImm e gd ga imm)
  | 0x0D => some (.xorImm e gd ga imm)
  | 0x0E => if im < 64 then some (.shlImm e gd ga (BitVec.ofNat 6 im)) else none
  | 0x0F => if im < 64 then some (.shrImm e gd ga (BitVec.ofNat 6 im)) else none
  | 0x10 =>
    if gaOf w = 0 then some (.li e gd (.sext imm))
    else if 8 ≤ gaOf w && gaOf w < 12 && im < 65536 then
      some (.li e gd (.ins (Fin.ofNat 4 (gaOf w)) (BitVec.ofNat 16 im)))
    else none
  | 0x11 => some (.ld e gd ga imm .clean)
  | 0x12 => some (.st e gd ga imm)
  | 0x13 => if f < 2 then some (.drq e gd ga gb (decide (f = 1))) else none
  | 0x14 => if gdOf w = 0 && gaOf w = 0 && im < 65536 then some (.dwt e (BitVec.ofNat 16 im)) else none
  | 0x15 => if gbOf w = 0 && f = 0 then some (.aset e gd ga) else none
  | 0x16 => if gdOf w = 0 && gaOf w = 0 && gbOf w = 0 && f < 8 then some (.ainc e (BitVec.ofNat 3 f)) else none
  | 0x17 => if gbOf w = 0 && f = 0 then some (.ascr e gd ga []) else none
  | 0x18 => if gdOf w = 0 && gbOf w = 0 && f = 0 then some (.dgset e ga) else none
  | 0x19 => if h : gdOf w = 0 ∧ gaOf w = 0 ∧ gbOf w = 0 ∧ f < 3 then some (.dginv e ⟨f, h.2.2.2⟩) else none
  | 0x1A => if gdOf w = 0 && gaOf w = 0 && im < 2048 then
      some (.dgchk e (BitVec.ofNat 5 im) (BitVec.ofNat 5 (im / 32)) (decide (1024 ≤ im))) else none
  | 0x1B => if gdOf w = 0 && gbOf w = 0 && f < 16 then some (.dglfsr e ga (BitVec.ofNat 4 f)) else none
  | 0x1C => if bits w 3 15 = 0 then some (.emit e gd ga (BitVec.ofNat 3 (bits w 0 3))) else none
  | 0x1D => if bits w 3 5 = 0 then
      some (.emitn e gd ga (BitVec.ofNat 10 (bits w 8 10)) (BitVec.ofNat 3 (bits w 0 3))) else none
  | 0x1E => if gdOf w = 0 && f < 2 then some (.vstream e ga gb (decide (f = 1))) else none
  | 0x1F => if h : gdOf w < 4 ∧ gbOf w = 0 then some (.loop e ⟨gdOf w, h.1⟩ ga (BitVec.ofNat 14 f)) else none
  | 0x20 => if h : gdOf w < 4 ∧ gaOf w = 0 ∧ gbOf w = 0 ∧ f = 0 then some (.endl e ⟨gdOf w, h.1⟩) else none
  | 0x21 => if z3 then some (.mark e) else none
  | 0x22 => if gdOf w = 0 && gbOf w = 0 && f = 0 then some (.rewind e ga) else none
  | 0x23 => if z3 then some (.release e) else none
  | 0x24 => if gdOf w = 0 && gbOf w = 0 then
      some (.waitvt e ga (decide (f % 2 = 1)) (BitVec.ofNat 13 (f / 2))) else none
  | 0x25 => if gdOf w = 0 && gaOf w = 0 && im < 2 ^ 13 then
      some (.bar e (BitVec.ofNat 9 im) (BitVec.ofNat 4 (im / 2 ^ 9))) else none
  | 0x26 => if gdOf w = 0 && gaOf w = 0 && im < 2 ^ 9 then
      some (.sig e (BitVec.ofNat 8 im) (decide (2 ^ 8 ≤ im))) else none
  | 0x27 => if h : gdOf w < 13 then some (.br e ⟨gdOf w, h⟩ (BitVec.ofNat 22 (bits w 0 22))) else none
  | 0x28 => if h : gdOf w < 13 then some (.call e ⟨gdOf w, h⟩ (BitVec.ofNat 22 (bits w 0 22))) else none
  | 0x29 => if gdOf w = 0 && gaOf w = 0 && gbOf w = 0 && f < 2 then some (.ret e (decide (f = 1))) else none
  | 0x2A => if gdOf w = 0 && gaOf w = 0 && im < 65536 then some (.trap e (BitVec.ofNat 16 im)) else none
  | 0x2B => if z3 then some (.halt e) else none
  | _ => none

end Sys2Proof
end

