-- ==== Sys2Proof/Machine/Flags.lean ====
section
/-! DEFINITION. The flags of a pattern engine (R70, R82, R83): Z [0], N [1], C [2], AXC [3], AYC [4], AZC [5]. -/
namespace Sys2Proof.Machine

/-- A one-bit vector of a truth value. -/
def bv1 (b : Bool) : BitVec 1 := if b then 1 else 0

/-- The flags after an ALU result r with carry c: Z, N and C change, the generator carries stay (R83). -/
def aluFlags (f : BitVec 6) (r : W64) (c : Bool) : BitVec 6 :=
  f.extractLsb' 3 3 ++ bv1 c ++ bv1 r.msb ++ bv1 (decide (r = 0))

/-- Carry out of an addition (R83). -/
def addCarry (a b : W64) : Bool := decide (2 ^ 64 ≤ a.toNat + b.toNat)

/-- Borrow of a subtraction: ga < gb unsigned (R83). -/
def subBorrow (a b : W64) : Bool := decide (a.toNat < b.toNat)

/-- The flags after an increment of the generators: AXC, AYC and AZC change (R74). -/
def genFlags (f : BitVec 6) (xc yc zc : Bool) : BitVec 6 := bv1 zc ++ bv1 yc ++ bv1 xc ++ f.extractLsb' 0 3

/-- The condition codes of BR and CALL (R82). -/
def condHolds (f : BitVec 6) (cond : Fin 13) : Bool :=
  match cond.val with
  | 0 => true
  | 1 => f.getLsbD 0
  | 2 => ! f.getLsbD 0
  | 3 => f.getLsbD 1
  | 4 => ! f.getLsbD 1
  | 5 => f.getLsbD 2
  | 6 => ! f.getLsbD 2
  | 7 => f.getLsbD 3
  | 8 => ! f.getLsbD 3
  | 9 => f.getLsbD 4
  | 10 => ! f.getLsbD 4
  | 11 => f.getLsbD 5
  | _ => ! f.getLsbD 5

end Sys2Proof.Machine
end

