-- ==== Sys2Proof/Machine/Ecc.lean ====
section
/-! DEFINITION. The Reed-Solomon code of stored granules (R223 to R225): 36 symbols over GF(2^16), data on DQ 0 to 31,
check symbols on DQ 32 to 35. -/
namespace Sys2Proof.Machine

/-- A symbol: the 16 bits one DQ carries in a burst (R223). -/
abbrev Sym := BitVec 16

/-- Multiplication by α in GF(2^16) over x^16 + x^12 + x^3 + x + 1 (R223). -/
def gmulA (x : Sym) : Sym := if x.msb then (x <<< 1) ^^^ 0x100B#16 else x <<< 1

/-- Multiplication, one bit of the second factor at a time from bit n - 1 down. -/
def gmulN (x y : Sym) : Nat → Sym
  | 0 => 0
  | n + 1 => gmulA (gmulN x (y >>> 1) n) ^^^ (if y.getLsbD 0 then x else 0)

/-- Multiplication in GF(2^16). -/
def gmul (x y : Sym) : Sym := gmulN x y 16

/-- α^i. -/
def gpow : Nat → Sym
  | 0 => 1
  | i + 1 => gmulA (gpow i)

/-- The polynomial c(x), coefficients lowest first, at a point (Horner). -/
def peval (c : List Sym) (p : Sym) : Sym := c.foldr (fun a acc => gmul acc p ^^^ a) 0

/-- The coefficients g0 to g3 of g(x) = (x - α^0)(x - α^1)(x - α^2)(x - α^3), whose leading coefficient is 1 (R224):
the products of the four roots taken 4, 3, 2 and 1 at a time. -/
def genPoly : List Sym :=
  let r := [gpow 0, gpow 1, gpow 2, gpow 3]
  -- multiply (x - r) into a monic polynomial given by its lower coefficients
  r.foldl (fun g a =>
    let shifted := (0 : Sym) :: g
    let scaled := (g ++ [1]).map (gmul a)
    List.zipWith (· ^^^ ·) shifted scaled) []

/-- One step of the division by g(x): feed the next coefficient, highest first. -/
def divStep (g r : List Sym) (d : Sym) : List Sym :=
  let f := d ^^^ r.getD 3 0
  List.zipWith (fun gi ri => gmul gi f ^^^ ri) g [0, r.getD 0 0, r.getD 1 0, r.getD 2 0]

/-- The four check symbols of 32 data symbols: the remainder of the data polynomial shifted up by x^4 (R224). -/
def checkSyms (data : List Sym) : List Sym :=
  data.reverse.foldl (divStep genPoly) [0, 0, 0, 0]

/-- The 32 data symbols of a granule: bytes 2j and 2j + 1, little-endian (R224). -/
def dataSyms (g : List Byte) : List Sym :=
  (upFrom 0 32).map fun j => BitVec.ofNat 16 (fieldAt g (2 * j) 2)

/-- The bytes of 32 data symbols. -/
def symBytes (d : List Sym) : List Byte := d.flatMap fun s => natLe 2 s.toNat

/-- The 36 symbols stored for a granule, by DQ number: 32 data, then 4 check (R223). -/
def encodeGran (g : List Byte) : List Sym := dataSyms g ++ checkSyms (dataSyms g)

/-- Symbol j of a 576-bit mask: mask bit 16j + b flips bit b of symbol j (R240). -/
def maskSym (m : BitVec 576) (j : Nat) : Sym := m.extractLsb' (16 * j) 16

/-- The stored bits: the encoded granule with the mask exclusive-ORed in. -/
def storedSyms (g : List Byte) (m : BitVec 576) : List Sym :=
  List.zipWith (· ^^^ ·) (encodeGran g) ((upFrom 0 36).map (maskSym m))

/-- The codeword polynomial's coefficients, lowest first: check symbols, then data symbols (R224). -/
def codeCoeffs (st : List Sym) : List Sym := st.drop 32 ++ st.take 32

/-- The syndromes S_i = c(α^i), i = 0 to 3 (R225). -/
def syndromes (st : List Sym) : List Sym := (upFrom 0 4).map fun i => peval (codeCoeffs st) (gpow i)

/-- The classification of R225; a correctable word names the DQ and the error value. -/
inductive EccClass where
  | clean
  | one (dq : Nat) (err : Sym)
  | uncorrectable
deriving DecidableEq, Repr

/-- The DQ of codeword coefficient i (R224). -/
def coeffDq (i : Nat) : Nat := if i < 4 then 32 + i else i - 4

/-- The coefficient number of DQ j. -/
def dqCoeff (j : Nat) : Nat := if j < 32 then j + 4 else j - 32

/-- Classify by the syndromes: consistent with exactly one symbol in error when S_i = e α^(i k) for a k below 36. -/
def classify (st : List Sym) : EccClass :=
  let s := syndromes st
  if s.all (· = 0) then .clean
  else
    let e := s.getD 0 0
    let fits := fun k => (upFrom 0 4).all fun i => decide (s.getD i 0 = gmul e (gpow (i * k)))
    if e = 0 then .uncorrectable
    else match (upFrom 0 36).find? fits with
      | some k => .one (coeffDq k) e
      | none => .uncorrectable

/-- What a read of a stored word gives (R225). -/
inductive ReadRes where
  | clean (data : List Byte)
  | corrected (data : List Byte) (dq : Nat)
  | uncorrectable
deriving DecidableEq, Repr

/-- Read a stored word: classify and correct one symbol (R225). -/
def readStored (st : List Sym) : ReadRes :=
  match classify st with
  | .clean => .clean (symBytes (st.take 32))
  | .one dq e => .corrected (symBytes ((modAt st dq (· ^^^ e)).take 32)) dq
  | .uncorrectable => .uncorrectable

/-- The poisoned form of R254: check symbols 0 and 1 inverted.
 -/
def poisonMask : BitVec 576 := BitVec.ofNat 576 ((2 ^ 32 - 1) * 2 ^ 512)

end Sys2Proof.Machine
end

