-- ==== Sys2Proof/Config.lean ====
section
/-! DEFINITION. The values the spec leaves open: opaque constants, so that nothing can be proved of what they are.
Each is applied to the free counter of the state or to the operands it depends on. -/
namespace Sys2Proof

/-- A fresh number for each value of the free counter: every single value the spec leaves open draws one. -/
opaque Config.freeNat : Nat → Nat

/-- A fresh bit for each value of the free counter: every two-way choice the spec leaves open draws one. -/
opaque Config.freeBit : Nat → Bool

/-- What the trim data of fuse block B6 set, by number: coefficients, factory values of Δk. The spec does not give the format: it
is applied to the words themselves, as one number. -/
opaque Config.factoryTrim : Nat → Nat → Nat

/-- The bytes with which the sideband target answers GETPID, GETDCR, GETMWL and GETMRL (R358), by the common command code; the
spec does not give them. -/
opaque Config.i3cAnswer : Nat → Nat

/-- The DATA field of a log entry: what it holds is named by the rules, its layout within the 12 bytes is not (R355). It is
applied to the entry's kind and to a number that the named contents determine. -/
opaque Config.logData : Nat → Nat → Nat

/-- The DETAIL of an event whose contents a rule names without their layout (R288), applied to the event's code and to a
number that the contents determine. -/
opaque Config.eventDetail : Nat → Nat → Nat

/-- What the Almanac holds of its own for granule g of the system region of logical channel k, none where it holds nothing:
training patterns and remap metadata, whose places and formats the spec does not give (R255). It is applied to the free
counter, the channel and the granule. -/
opaque Config.almanacCopy : Nat → Nat → Nat → Option (BitVec 512)

end Sys2Proof
end

