-- ==== Sys2Proof/Machine/Regs.lean ====
section
/-! DEFINITION. The register table of CSR space (chapters 00 to 20, R5, R408, R409): for every register its address,
its instances and strides, which bits a host write changes (RW), which it changes in the pending copy only (RWP),
which it clears (W1C), which a read clears (RC), and the value after RESET_N deasserts. Fields are named by
Csr.<REGISTER>_<FIELD>. -/
namespace Sys2Proof.Machine

/-- A field of a register: CSR address, lowest bit, width. -/
structure Fld where
  addr : Nat
  lo : Nat
  w : Nat
deriving DecidableEq, Repr

/-- One register, or an array of registers of one layout: instance (i, j) sits at base + i * st1 + j * st2. -/
structure RegRow where
  base : Nat
  n1 : Nat
  st1 : Nat
  n2 : Nat
  st2 : Nat
  rw : Nat
  rwp : Nat
  w1c : Nat
  rc : Nat
  rst : Nat → Nat → Nat

/-- Base of capture unit u's block; unit 8 sits apart (R409). -/
def capBase (u : Nat) : Nat := if u = 8 then 0x170000 else 0x180000 + u * 0x10000

/-- How many instances a block class fabricates (R328). -/
def classCount : Nat → Nat
  | 0 => 72 | 1 => 9 | 2 => 34 | 3 => 100 | 4 => 9 | 5 => 2 | 6 => 4 | 7 => 7 | _ => 0

/-- The gate enables of block n = 128 * class + instance at reset (R328): RUN_EN, SLEEP_EN, DEEP_EN in bits 0 to 2. -/
def gateReset (n : Nat) : Nat :=
  if n % 128 < classCount (n / 128) then
    (if n / 128 ≤ 2 then 1 else if n / 128 ≤ 6 then 3 else 7)
  else 0

/-- CLKPWR_RAILr at reset: PHASES and MIN (R335). -/
def railReset (r : Nat) : Nat :=
  ([8, 5, 3, 6, 2].getD r 0) * 2 ^ 24 + ([5, 3, 2, 3, 1].getD r 0) * 2 ^ 20

/-- The rail phase p serves from reset (R335); 7 for a spare. -/
def phaseRail (p : Nat) : Nat :=
  if p < 8 then 0 else if p < 13 then 1 else if p < 16 then 2 else if p < 22 then 3 else if p < 24 then 4 else 7

/-- CLKPWR_PHASEp at reset: STATE and RAIL. -/
def phaseReset (p : Nat) : Nat := (if p < 24 then 0 else 1) * 2 ^ 30 + phaseRail p * 2 ^ 24

/-- The default reaction of fault kind n (R367): 0 L, 1 F, 2 R, 3 S. -/
def kindDefault (n : Nat) : Nat :=
  if n = 0x02 then 1 else if n = 0x70 then 2
  else if n = 0x24 || n = 0x3E || n = 0x3F then 3 else 0

/-- ST_KINDk at reset (R379): BUDGET_US and ENABLE. -/
def stKindReset (k : Nat) : Nat := if k = 0 then 0 else ([0, 120, 80, 60, 200, 150, 100, 80, 150].getD k 0) * 256 + 1

/-- ST_GAPk at reset (R379): MIN_GAP_MS. -/
def stGapReset (k : Nat) : Nat := [0, 60000, 1000, 10000, 0, 60000, 10000, 0, 600000].getD k 0

/-- Registers of block Global. -/
def regsGlobal : List RegRow := [
  -- GLOBAL_ID
  ⟨0x0, 1, 0x4, 1, 4, 0x0, 0x0, 0x0, 0x0, fun _ _ => 0x16645800⟩,
  -- GLOBAL_CAP0
  ⟨0x4, 1, 0x4, 1, 4, 0x0, 0x0, 0x0, 0x0, fun _ _ => 0x23044030⟩,
  -- GLOBAL_CAP1
  ⟨0x8, 1, 0x4, 1, 4, 0x0, 0x0, 0x0, 0x0, fun _ _ => 0x131018A0⟩,
  -- GLOBAL_CAP2
  ⟨0xC, 1, 0x4, 1, 4, 0x0, 0x0, 0x0, 0x0, fun _ _ => 0x1040⟩,
  -- GLOBAL_MODE
  ⟨0x10, 1, 0x4, 1, 4, 0x0, 0x0, 0x0, 0x0, fun _ _ => 0x0⟩,
  -- GLOBAL_PMODE0
  ⟨0x14, 1, 0x4, 1, 4, 0x0, 0x0, 0x0, 0x0, fun _ _ => 0x0⟩,
  -- GLOBAL_PMODE1
  ⟨0x18, 1, 0x4, 1, 4, 0x0, 0x0, 0x0, 0x0, fun _ _ => 0x0⟩,
  -- GLOBAL_PDRAIN
  ⟨0x1C, 1, 0x4, 1, 4, 0x0, 0x0, 0x0, 0x0, fun _ _ => 0x0⟩,
  -- GLOBAL_MODE_CMD
  ⟨0x20, 1, 0x4, 1, 4, 0x0, 0x0, 0x0, 0x0, fun _ _ => 0x0⟩,
  -- GLOBAL_START_ORIGIN_LO
  ⟨0x24, 1, 0x4, 1, 4, 0xFFFFFFFF, 0x0, 0x0, 0x0, fun _ _ => 0x0⟩,
  -- GLOBAL_START_ORIGIN_HI
  ⟨0x28, 1, 0x4, 1, 4, 0xFFFF, 0x0, 0x0, 0x0, fun _ _ => 0x0⟩,
  -- GLOBAL_MODE_STAT
  ⟨0x2C, 1, 0x4, 1, 4, 0x0, 0x0, 0xE, 0x0, fun _ _ => 0x0⟩,
  -- GLOBAL_BOOT
  ⟨0x30, 1, 0x4, 1, 4, 0x0, 0x0, 0x0, 0x0, fun _ _ => 0x0⟩,
  -- GLOBAL_RESET_CAUSE
  ⟨0x34, 1, 0x4, 1, 4, 0x0, 0x0, 0x0, 0x0, fun _ _ => 0x0⟩,
  -- GLOBAL_UPTIME_LO
  ⟨0x38, 1, 0x4, 1, 4, 0x0, 0x0, 0x0, 0x0, fun _ _ => 0x0⟩,
  -- GLOBAL_UPTIME_HI
  ⟨0x3C, 1, 0x4, 1, 4, 0x0, 0x0, 0x0, 0x0, fun _ _ => 0x0⟩,
  -- GLOBAL_PEND
  ⟨0x40, 1, 0x4, 1, 4, 0x0, 0x0, 0x7F0000, 0x0, fun _ _ => 0x0⟩ ]

/-- Registers of block Vt. -/
def regsVt : List RegRow := [
  -- VT_NOW_LO
  ⟨0x10000, 1, 0x4, 1, 4, 0x0, 0x0, 0x0, 0x0, fun _ _ => 0x0⟩,
  -- VT_NOW_HI
  ⟨0x10004, 1, 0x4, 1, 4, 0x0, 0x0, 0x0, 0x0, fun _ _ => 0x0⟩,
  -- VT_TICK_PS
  ⟨0x10008, 1, 0x4, 1, 4, 0x3FFF, 0x0, 0x0, 0x0, fun _ _ => 0x271⟩,
  -- VT_RATE
  ⟨0x1000C, 1, 0x4, 1, 4, 0x0, 0x0, 0x0, 0x0, fun _ _ => 0x1E1E1E2⟩,
  -- VT_STATUS
  ⟨0x10010, 1, 0x4, 1, 4, 0x0, 0x0, 0x58, 0x0, fun _ _ => 0x0⟩,
  -- VT_EDGE
  ⟨0x10014, 1, 0x4, 1, 4, 0x0, 0x0, 0x0, 0xFFFF0000, fun _ _ => 0x0⟩,
  -- VT_SET_LO
  ⟨0x10018, 1, 0x4, 1, 4, 0x0, 0xFFFFFFFF, 0x0, 0x0, fun _ _ => 0x0⟩,
  -- VT_SET_HI
  ⟨0x1001C, 1, 0x4, 1, 4, 0x0, 0xFFFF, 0x0, 0x0, fun _ _ => 0x0⟩,
  -- VT_LEAD
  ⟨0x10020, 1, 0x4, 1, 4, 0xFFFFF, 0x0, 0x0, 0x0, fun _ _ => 0x1000⟩,
  -- VT_HOL_START_LO
  ⟨0x10024, 1, 0x4, 1, 4, 0x0, 0xFFFFFFFF, 0x0, 0x0, fun _ _ => 0x0⟩,
  -- VT_HOL_START_HI
  ⟨0x10028, 1, 0x4, 1, 4, 0x0, 0xFFFFFF, 0x0, 0x0, fun _ _ => 0xFF0000⟩,
  -- VT_HOL_END_LO
  ⟨0x1002C, 1, 0x4, 1, 4, 0x0, 0xFFFFFFFF, 0x0, 0x0, fun _ _ => 0x0⟩,
  -- VT_HOL_END_HI
  ⟨0x10030, 1, 0x4, 1, 4, 0x0, 0xFFFF, 0x0, 0x0, fun _ _ => 0x0⟩,
  -- VT_COMMIT
  ⟨0x10040, 1, 0x4, 1, 4, 0x0, 0x0, 0x0, 0x0, fun _ _ => 0x0⟩,
  -- VT_COMMIT_ERR
  ⟨0x10044, 1, 0x4, 1, 4, 0x0, 0x0, 0x7, 0x0, fun _ _ => 0x0⟩,
  -- VT_CAL_FIRED0
  ⟨0x10048, 1, 0x4, 1, 4, 0x0, 0x0, 0xFFFFFFFF, 0x0, fun _ _ => 0x0⟩,
  -- VT_CAL_FIRED1
  ⟨0x1004C, 1, 0x4, 1, 4, 0x0, 0x0, 0xFFFFFFFF, 0x0, fun _ _ => 0x0⟩,
  -- VT_CAL_STAT
  ⟨0x10050, 1, 0x4, 1, 4, 0x0, 0x0, 0x0, 0xFFFFFFFF, fun _ _ => 0x0⟩,
  -- VT_CAL_FREE
  ⟨0x10054, 1, 0x4, 1, 4, 0x0, 0x0, 0x0, 0x0, fun _ _ => 0x40⟩,
  -- VT_CAL_ENT_00
  ⟨0x10100, 64, 0x10, 1, 4, 0x0, 0xFFFFFFFF, 0x0, 0x0, fun _ _ => 0x0⟩,
  -- VT_CAL_ENT_04
  ⟨0x10104, 64, 0x10, 1, 4, 0x0, 0xFFFFFFFF, 0x0, 0x0, fun _ _ => 0x0⟩,
  -- VT_CAL_ENT_08
  ⟨0x10108, 64, 0x10, 1, 4, 0x0, 0xFFFFFFFF, 0x0, 0x0, fun _ _ => 0x0⟩,
  -- VT_CAL_ENT_0C
  ⟨0x1010C, 64, 0x10, 1, 4, 0x0, 0xFFFFFFFF, 0x0, 0x0, fun _ _ => 0x0⟩ ]

/-- Registers of block Image. -/
def regsImage : List RegRow := [
  -- IMAGE_SRC_LO
  ⟨0x20000, 1, 0x4, 1, 4, 0xFFFFFFC0, 0x0, 0x0, 0x0, fun _ _ => 0x0⟩,
  -- IMAGE_SRC_HI
  ⟨0x20004, 1, 0x4, 1, 4, 0xF, 0x0, 0x0, 0x0, fun _ _ => 0x0⟩,
  -- IMAGE_LEN
  ⟨0x20008, 1, 0x4, 1, 4, 0x7FFFF, 0x0, 0x0, 0x0, fun _ _ => 0x0⟩,
  -- IMAGE_CMD
  ⟨0x2000C, 1, 0x4, 1, 4, 0x0, 0x0, 0x0, 0x0, fun _ _ => 0x0⟩,
  -- IMAGE_EPOCH_LO
  ⟨0x20010, 1, 0x4, 1, 4, 0xFFFFFFFF, 0x0, 0x0, 0x0, fun _ _ => 0x0⟩,
  -- IMAGE_EPOCH_HI
  ⟨0x20014, 1, 0x4, 1, 4, 0xFFFF, 0x0, 0x0, 0x0, fun _ _ => 0x0⟩,
  -- IMAGE_STATUS
  ⟨0x20018, 1, 0x4, 1, 4, 0x0, 0x0, 0x300, 0x0, fun _ _ => 0x0⟩,
  -- IMAGE_ERR
  ⟨0x2001C, 1, 0x4, 1, 4, 0x0, 0x0, 0x0, 0x0, fun _ _ => 0x0⟩,
  -- IMAGE_ADMIT
  ⟨0x20020, 1, 0x4, 1, 4, 0x0, 0x0, 0x0, 0x0, fun _ _ => 0x0⟩,
  -- IMAGE_ACTIVE_ID_LO
  ⟨0x20024, 1, 0x4, 1, 4, 0x0, 0x0, 0x0, 0x0, fun _ _ => 0x0⟩,
  -- IMAGE_ACTIVE_ID_HI
  ⟨0x20028, 1, 0x4, 1, 4, 0x0, 0x0, 0x0, 0x0, fun _ _ => 0x0⟩,
  -- IMAGE_ALIVE_ENG
  ⟨0x20040, 3, 0x4, 1, 4, 0x0, 0x0, 0x0, 0x0, fun i _ => if i = 0 then 0xFBFDFEFF else if i = 1 then 0xBFDFEFF7 else 0x7F⟩,
  -- IMAGE_ALIVE_TX
  ⟨0x20050, 3, 0x4, 1, 4, 0x0, 0x0, 0x0, 0x0, fun _ _ => 0xFFFFFFFF⟩,
  -- IMAGE_ALIVE_RX
  ⟨0x20060, 3, 0x4, 1, 4, 0x0, 0x0, 0x0, 0x0, fun _ _ => 0xFFFFFFFF⟩,
  -- IMAGE_ALIVE_CHAN
  ⟨0x20070, 1, 0x4, 1, 4, 0x0, 0x0, 0x0, 0x0, fun _ _ => 0xFFFFFFFF⟩,
  -- IMAGE_ALIVE_MISC
  ⟨0x20074, 1, 0x4, 1, 4, 0x0, 0x0, 0x0, 0x0, fun _ _ => 0x1FF⟩ ]

/-- Registers of block Eng. -/
def regsEng : List RegRow := [
  -- ENG_STATE
  ⟨0x100000, 72, 0x1000, 1, 4, 0x0, 0x0, 0x0, 0x0, fun e _ => if e % 9 = 8 then 7 else 0⟩,
  -- ENG_CTRL
  ⟨0x100004, 72, 0x1000, 1, 4, 0x0, 0x0, 0x0, 0x0, fun _ _ => 0x0⟩,
  -- ENG_EVENT
  ⟨0x100008, 72, 0x1000, 1, 4, 0x0, 0x0, 0x1F, 0x0, fun _ _ => 0x0⟩,
  -- ENG_PC
  ⟨0x10000C, 72, 0x1000, 1, 4, 0x0, 0x0, 0x0, 0x0, fun _ _ => 0x0⟩,
  -- ENG_TRAP_LO
  ⟨0x100010, 72, 0x1000, 1, 4, 0x0, 0x0, 0x0, 0x0, fun _ _ => 0x0⟩,
  -- ENG_TRAP_HI
  ⟨0x100014, 72, 0x1000, 1, 4, 0x0, 0x0, 0x0, 0x0, fun _ _ => 0x0⟩,
  -- ENG_TRAPPC
  ⟨0x100018, 72, 0x1000, 1, 4, 0x0, 0x0, 0x0, 0x0, fun _ _ => 0x0⟩,
  -- ENG_STIME_LO
  ⟨0x100020, 72, 0x1000, 1, 4, 0x0, 0x0, 0x0, 0x0, fun _ _ => 0x0⟩,
  -- ENG_STIME_HI
  ⟨0x100024, 72, 0x1000, 1, 4, 0x0, 0x0, 0x0, 0x0, fun _ _ => 0x0⟩,
  -- ENG_COUNT
  ⟨0x100028, 72, 0x1000, 1, 4, 0x0, 0x0, 0x0, 0xFFFFFFFF, fun _ _ => 0x0⟩,
  -- ENG_STALL
  ⟨0x10002C, 72, 0x1000, 1, 4, 0x0, 0x0, 0x0, 0xFFFFFFFF, fun _ _ => 0x0⟩,
  -- ENG_GREG_LO
  ⟨0x100100, 72, 0x1000, 16, 8, 0x0, 0x0, 0x0, 0x0, fun _ _ => 0x0⟩,
  -- ENG_GREG_HI
  ⟨0x100104, 72, 0x1000, 16, 8, 0x0, 0x0, 0x0, 0x0, fun _ _ => 0x0⟩,
  -- ENG_STG_CFG
  ⟨0x100040, 72, 0x1000, 1, 4, 0x1FFFF, 0x0, 0x0, 0x0, fun _ _ => 0x10400⟩,
  -- ENG_STG_STATUS
  ⟨0x100044, 72, 0x1000, 1, 4, 0x0, 0x0, 0xE0, 0x0, fun _ _ => 0x0⟩,
  -- ENG_STG_MARK
  ⟨0x100048, 72, 0x1000, 1, 4, 0x0, 0x0, 0x0, 0x0, fun _ _ => 0x0⟩,
  -- ENG_STG_PASSES
  ⟨0x10004C, 72, 0x1000, 1, 4, 0x0, 0x0, 0x0, 0x0, fun _ _ => 0x0⟩,
  -- ENG_STG_COUNT
  ⟨0x100050, 72, 0x1000, 1, 4, 0x0, 0x0, 0x0, 0xFFFFFFFF, fun _ _ => 0x0⟩,
  -- ENG_STG_CYC_LO
  ⟨0x100054, 72, 0x1000, 1, 4, 0x0, 0x0, 0x0, 0x0, fun _ _ => 0x0⟩,
  -- ENG_STG_CYC_HI
  ⟨0x100058, 72, 0x1000, 1, 4, 0x0, 0x0, 0x0, 0x0, fun _ _ => 0x0⟩,
  -- ENG_STG_SIG
  ⟨0x100060, 72, 0x1000, 4, 4, 0x0, 0x0, 0x0, 0x0, fun _ _ => 0x0⟩ ]

/-- Registers of block Cap8. -/
def regsCap8 : List RegRow := [
  -- CAP_STATUS of unit 8
  ⟨0x170000, 1, 0x10000, 1, 4, 0x0, 0x0, 0x3000, 0x0, fun _ _ => 0xF01⟩,
  -- CAP_CTRL of unit 8
  ⟨0x170004, 1, 0x10000, 1, 4, 0x0, 0x0, 0x0, 0x0, fun _ _ => 0x0⟩,
  -- CAP_CFG of unit 8
  ⟨0x170008, 1, 0x10000, 1, 4, 0xFFFF, 0x0, 0x0, 0x0, fun _ _ => 0xA⟩,
  -- CAP_ECHO of unit 8
  ⟨0x17000C, 1, 0x10000, 1, 4, 0x0, 0x0, 0x0, 0xFFFFFFFF, fun _ _ => 0x0⟩,
  -- CAP_FILL of unit 8
  ⟨0x170010, 1, 0x10000, 1, 4, 0x0, 0x0, 0x0, 0x3FF0000, fun _ _ => 0x0⟩,
  -- CAP_QUEUE of unit 8
  ⟨0x170014, 1, 0x10000, 1, 4, 0x0, 0x0, 0x0, 0x3FF0000, fun _ _ => 0x0⟩,
  -- CAP_RC_DUMP_LO of unit 8
  ⟨0x170018, 1, 0x10000, 1, 4, 0xFFFFFFC0, 0x0, 0x0, 0x0, fun _ _ => 0x0⟩,
  -- CAP_RC_DUMP_HI of unit 8
  ⟨0x17001C, 1, 0x10000, 1, 4, 0xF, 0x0, 0x0, 0x0, fun _ _ => 0x0⟩,
  -- CAP_RC_IDX of unit 8
  ⟨0x170020, 1, 0x10000, 1, 4, 0xFFFFF, 0x0, 0x0, 0x0, fun _ _ => 0x0⟩,
  -- CAP_RC_DATA of unit 8
  ⟨0x170024, 1, 0x10000, 1, 4, 0x0, 0x0, 0x0, 0x0, fun _ _ => 0x0⟩,
  -- CAP_PART_00 of unit 8
  ⟨0x170400, 1, 0x10000, 16, 64, 0x0, 0x0, 0x21E, 0x0, fun _ _ => 0x80⟩,
  -- CAP_PART_04 of unit 8
  ⟨0x170404, 1, 0x10000, 16, 64, 0x0, 0x0, 0x0, 0xFFFFFFFF, fun _ _ => 0x0⟩,
  -- CAP_PART_08 of unit 8
  ⟨0x170408, 1, 0x10000, 16, 64, 0x0, 0x0, 0x0, 0x0, fun _ _ => 0x0⟩,
  -- CAP_PART_0C of unit 8
  ⟨0x17040C, 1, 0x10000, 16, 64, 0x0, 0x0, 0x0, 0x0, fun _ _ => 0x0⟩,
  -- CAP_PART_10 of unit 8
  ⟨0x170410, 1, 0x10000, 16, 64, 0x0, 0x0, 0x0, 0x0, fun _ _ => 0x0⟩,
  -- CAP_PART_14 of unit 8
  ⟨0x170414, 1, 0x10000, 16, 64, 0x0, 0x0, 0x0, 0x0, fun _ _ => 0x0⟩,
  -- CAP_PART_18 of unit 8
  ⟨0x170418, 1, 0x10000, 16, 64, 0x0, 0x0, 0x0, 0x0, fun _ _ => 0x0⟩,
  -- CAP_PART_1C of unit 8
  ⟨0x17041C, 1, 0x10000, 16, 64, 0x0, 0x0, 0x0, 0x0, fun _ _ => 0x0⟩,
  -- CAP_PART_20 of unit 8
  ⟨0x170420, 1, 0x10000, 16, 64, 0x0, 0x0, 0x0, 0x0, fun _ _ => 0x0⟩,
  -- CAP_PART_24 of unit 8
  ⟨0x170424, 1, 0x10000, 16, 64, 0x0, 0x0, 0x0, 0x0, fun _ _ => 0x0⟩,
  -- CAP_PART_28 of unit 8
  ⟨0x170428, 1, 0x10000, 16, 64, 0x0, 0x0, 0x0, 0x0, fun _ _ => 0x0⟩,
  -- CAP_PART_2C of unit 8
  ⟨0x17042C, 1, 0x10000, 16, 64, 0x0, 0x0, 0x0, 0x0, fun _ _ => 0x0⟩,
  -- CAP_PART_30 of unit 8
  ⟨0x170430, 1, 0x10000, 16, 64, 0x0, 0x0, 0x0, 0x0, fun _ _ => 0x0⟩,
  -- CAP_LANE of unit 8
  ⟨0x170100, 1, 0x10000, 12, 4, 0x0, 0x0, 0x0, 0xFFFFFFFF, fun _ _ => 0x0⟩,
  -- CAP_PINCNT of unit 8
  ⟨0x171000, 1, 0x10000, 192, 4, 0x0, 0x0, 0x0, 0xFFFFFFFF, fun _ _ => 0x0⟩ ]

/-- Registers of block Cap. -/
def regsCap : List RegRow := [
  -- CAP_STATUS
  ⟨0x180000, 8, 0x10000, 1, 4, 0x0, 0x0, 0x3000, 0x0, fun u _ => u * 0x100⟩,
  -- CAP_CTRL
  ⟨0x180004, 8, 0x10000, 1, 4, 0x0, 0x0, 0x0, 0x0, fun _ _ => 0x0⟩,
  -- CAP_CFG
  ⟨0x180008, 8, 0x10000, 1, 4, 0xFFFF, 0x0, 0x0, 0x0, fun _ _ => 0xA⟩,
  -- CAP_ECHO
  ⟨0x18000C, 8, 0x10000, 1, 4, 0x0, 0x0, 0x0, 0xFFFFFFFF, fun _ _ => 0x0⟩,
  -- CAP_FILL
  ⟨0x180010, 8, 0x10000, 1, 4, 0x0, 0x0, 0x0, 0x3FF0000, fun _ _ => 0x0⟩,
  -- CAP_QUEUE
  ⟨0x180014, 8, 0x10000, 1, 4, 0x0, 0x0, 0x0, 0x3FF0000, fun _ _ => 0x0⟩,
  -- CAP_RC_DUMP_LO
  ⟨0x180018, 8, 0x10000, 1, 4, 0xFFFFFFC0, 0x0, 0x0, 0x0, fun _ _ => 0x0⟩,
  -- CAP_RC_DUMP_HI
  ⟨0x18001C, 8, 0x10000, 1, 4, 0xF, 0x0, 0x0, 0x0, fun _ _ => 0x0⟩,
  -- CAP_RC_IDX
  ⟨0x180020, 8, 0x10000, 1, 4, 0xFFFFF, 0x0, 0x0, 0x0, fun _ _ => 0x0⟩,
  -- CAP_RC_DATA
  ⟨0x180024, 8, 0x10000, 1, 4, 0x0, 0x0, 0x0, 0x0, fun _ _ => 0x0⟩,
  -- CAP_PART_00
  ⟨0x180400, 8, 0x10000, 16, 64, 0x0, 0x0, 0x21E, 0x0, fun _ _ => 0x80⟩,
  -- CAP_PART_04
  ⟨0x180404, 8, 0x10000, 16, 64, 0x0, 0x0, 0x0, 0xFFFFFFFF, fun _ _ => 0x0⟩,
  -- CAP_PART_08
  ⟨0x180408, 8, 0x10000, 16, 64, 0x0, 0x0, 0x0, 0x0, fun _ _ => 0x0⟩,
  -- CAP_PART_0C
  ⟨0x18040C, 8, 0x10000, 16, 64, 0x0, 0x0, 0x0, 0x0, fun _ _ => 0x0⟩,
  -- CAP_PART_10
  ⟨0x180410, 8, 0x10000, 16, 64, 0x0, 0x0, 0x0, 0x0, fun _ _ => 0x0⟩,
  -- CAP_PART_14
  ⟨0x180414, 8, 0x10000, 16, 64, 0x0, 0x0, 0x0, 0x0, fun _ _ => 0x0⟩,
  -- CAP_PART_18
  ⟨0x180418, 8, 0x10000, 16, 64, 0x0, 0x0, 0x0, 0x0, fun _ _ => 0x0⟩,
  -- CAP_PART_1C
  ⟨0x18041C, 8, 0x10000, 16, 64, 0x0, 0x0, 0x0, 0x0, fun _ _ => 0x0⟩,
  -- CAP_PART_20
  ⟨0x180420, 8, 0x10000, 16, 64, 0x0, 0x0, 0x0, 0x0, fun _ _ => 0x0⟩,
  -- CAP_PART_24
  ⟨0x180424, 8, 0x10000, 16, 64, 0x0, 0x0, 0x0, 0x0, fun _ _ => 0x0⟩,
  -- CAP_PART_28
  ⟨0x180428, 8, 0x10000, 16, 64, 0x0, 0x0, 0x0, 0x0, fun _ _ => 0x0⟩,
  -- CAP_PART_2C
  ⟨0x18042C, 8, 0x10000, 16, 64, 0x0, 0x0, 0x0, 0x0, fun _ _ => 0x0⟩,
  -- CAP_PART_30
  ⟨0x180430, 8, 0x10000, 16, 64, 0x0, 0x0, 0x0, 0x0, fun _ _ => 0x0⟩,
  -- CAP_LANE
  ⟨0x180100, 8, 0x10000, 12, 4, 0x0, 0x0, 0x0, 0xFFFFFFFF, fun _ _ => 0x0⟩,
  -- CAP_PINCNT
  ⟨0x181000, 8, 0x10000, 192, 4, 0x0, 0x0, 0x0, 0xFFFFFFFF, fun _ _ => 0x0⟩ ]

/-- Registers of block Vlane. -/
def regsVlane : List RegRow := [
  -- VLANE_STATE
  ⟨0x200000, 100, 0x1000, 1, 4, 0x0, 0x0, 0x0, 0x0, fun k _ => if k < 96 then k * 0x1010000 else 0xFFFF0004⟩,
  -- VLANE_CTRL
  ⟨0x200004, 100, 0x1000, 1, 4, 0x0, 0x0, 0x0, 0x0, fun _ _ => 0x0⟩,
  -- VLANE_CFG
  ⟨0x200008, 100, 0x1000, 1, 4, 0xFFFF00FF, 0x0, 0x0, 0x0, fun _ _ => 0x3E80010⟩,
  -- VLANE_CREDIT
  ⟨0x20000C, 100, 0x1000, 1, 4, 0x0, 0x0, 0x0, 0xFFFF, fun _ _ => 0x0⟩,
  -- VLANE_TX_FRAMES
  ⟨0x200010, 100, 0x1000, 1, 4, 0x0, 0x0, 0x0, 0xFFFFFFFF, fun _ _ => 0x0⟩,
  -- VLANE_RX_FRAMES
  ⟨0x200014, 100, 0x1000, 1, 4, 0x0, 0x0, 0x0, 0xFFFFFFFF, fun _ _ => 0x0⟩,
  -- VLANE_RX_ERR
  ⟨0x200018, 100, 0x1000, 1, 4, 0x0, 0x0, 0x0, 0xFFFFFFFF, fun _ _ => 0x0⟩,
  -- VLANE_RX_IGNORED
  ⟨0x20001C, 100, 0x1000, 1, 4, 0x0, 0x0, 0x0, 0xFFFF, fun _ _ => 0x0⟩,
  -- VLANE_PEER
  ⟨0x200020, 100, 0x1000, 1, 4, 0x0, 0x0, 0x0, 0x0, fun _ _ => 0xFF⟩,
  -- VLANE_PEER_LATE
  ⟨0x200024, 100, 0x1000, 1, 4, 0x0, 0x0, 0x0, 0x0, fun _ _ => 0x0⟩,
  -- VLANE_PEER_ERR
  ⟨0x200028, 100, 0x1000, 1, 4, 0x0, 0x0, 0x0, 0x0, fun _ _ => 0x0⟩,
  -- VLANE_LB
  ⟨0x20002C, 100, 0x1000, 1, 4, 0x0, 0x0, 0x0, 0x0, fun _ _ => 0x0⟩,
  -- VLANE_EVENT
  ⟨0x200030, 100, 0x1000, 1, 4, 0x0, 0x0, 0x7FF, 0x0, fun _ _ => 0x0⟩ ]

/-- Registers of block Hlink. -/
def regsHlink : List RegRow := [
  -- HLINK_SYSREG_REFUSED
  ⟨0x300040, 1, 0x4, 1, 4, 0x0, 0x0, 0x0, 0xFFFF, fun _ _ => 0x0⟩,
  -- HLINK_STATUS
  ⟨0x300000, 1, 0x4, 1, 4, 0x0, 0x0, 0x0, 0x0, fun _ _ => 0x0⟩,
  -- HLINK_CTRL
  ⟨0x300004, 1, 0x4, 1, 4, 0x0, 0x0, 0x0, 0x0, fun _ _ => 0x0⟩,
  -- HLINK_CFG
  ⟨0x300008, 1, 0x4, 1, 4, 0xFFFFFFFF, 0x0, 0x0, 0x0, fun _ _ => 0x3E81410⟩,
  -- HLINK_REPLAY
  ⟨0x30000C, 1, 0x4, 1, 4, 0x0, 0x0, 0x0, 0xFFFFFFFF, fun _ _ => 0x0⟩,
  -- HLINK_DROP
  ⟨0x300010, 1, 0x4, 1, 4, 0x0, 0x0, 0x0, 0xFFFFFFFF, fun _ _ => 0x0⟩,
  -- HLINK_DMA
  ⟨0x300014, 1, 0x4, 1, 4, 0x0, 0x0, 0x0, 0xFF, fun _ _ => 0x0⟩,
  -- HLINK_DMA_ADDR_LO
  ⟨0x300018, 1, 0x4, 1, 4, 0x0, 0x0, 0x0, 0x0, fun _ _ => 0x0⟩,
  -- HLINK_DMA_ADDR_HI
  ⟨0x30001C, 1, 0x4, 1, 4, 0x0, 0x0, 0x0, 0x0, fun _ _ => 0x0⟩,
  -- HLINK_EVQ
  ⟨0x300020, 1, 0x4, 1, 4, 0x0, 0x0, 0x0, 0xFFFF0000, fun _ _ => 0x0⟩,
  -- HLINK_EVENT
  ⟨0x300024, 1, 0x4, 1, 4, 0x0, 0x0, 0x3FF, 0x0, fun _ _ => 0x0⟩,
  -- HLINK_PEER_CRED
  ⟨0x300028, 1, 0x4, 1, 4, 0x0, 0x0, 0x0, 0x0, fun _ _ => 0x0⟩,
  -- HLINK_LANE
  ⟨0x300100, 9, 0x4, 1, 4, 0x0, 0x0, 0x0, 0xFF, fun n _ => if n < 8 then n * 0x1010000 else 0xFFFF0000⟩ ]

/-- Registers of block Mc. -/
def regsMc : List RegRow := [
  -- MC_STATE
  ⟨0x400000, 34, 0x1000, 1, 4, 0x0, 0x0, 0x200, 0x0, fun c _ => if c < 32 then c * 0x1000000 else 0x3F000021⟩,
  -- MC_TEMP
  ⟨0x400004, 34, 0x1000, 1, 4, 0x0, 0x0, 0x1000, 0x0, fun _ _ => 0x0⟩,
  -- MC_REF_STAT
  ⟨0x400008, 34, 0x1000, 1, 4, 0x0, 0x0, 0x0, 0xFFFFFFF, fun _ _ => 0x0⟩,
  -- MC_HOTCNT
  ⟨0x40000C, 34, 0x1000, 1, 4, 0x0, 0x0, 0x0, 0xFFFFFFFF, fun _ _ => 0x0⟩,
  -- MC_RAM
  ⟨0x400010, 34, 0x1000, 1, 4, 0x0, 0x0, 0x0, 0xFFFF0000, fun _ _ => 0x0⟩,
  -- MC_RAM_LAST
  ⟨0x400014, 34, 0x1000, 1, 4, 0x0, 0x0, 0x0, 0x0, fun _ _ => 0x0⟩,
  -- MC_QUEUE
  ⟨0x400018, 34, 0x1000, 1, 4, 0x0, 0x0, 0x0, 0xFF00FF00, fun _ _ => 0x0⟩,
  -- MC_TRAFFIC
  ⟨0x40001C, 34, 0x1000, 1, 4, 0x0, 0x0, 0x0, 0xFFFFFFFF, fun _ _ => 0x0⟩,
  -- MC_ECC_CFG
  ⟨0x400040, 34, 0x1000, 1, 4, 0xFFFFFFFF, 0x0, 0x0, 0x0, fun _ _ => 0x3E80040⟩,
  -- MC_ECC_STAT
  ⟨0x400044, 34, 0x1000, 1, 4, 0x0, 0x0, 0x7, 0x0, fun _ _ => 0x0⟩,
  -- MC_ECC_CNT
  ⟨0x400048, 34, 0x1000, 1, 4, 0x0, 0x0, 0x0, 0xFFFFFFFF, fun _ _ => 0x0⟩,
  -- MC_ECC_LAST
  ⟨0x40004C, 34, 0x1000, 1, 4, 0x0, 0x0, 0x0, 0x0, fun _ _ => 0x0⟩,
  -- MC_ECC_UE_ADDR
  ⟨0x400050, 34, 0x1000, 1, 4, 0x0, 0x0, 0x80000000, 0x0, fun _ _ => 0x0⟩,
  -- MC_ECC_SYMHOT
  ⟨0x400054, 34, 0x1000, 1, 4, 0x0, 0x0, 0x0, 0x3FF03FF, fun _ _ => 0x0⟩,
  -- MC_ECC_DQSUS
  ⟨0x400058, 34, 0x1000, 1, 4, 0x0, 0x0, 0x0, 0x0, fun _ _ => 0x0⟩,
  -- MC_ECC_FLIP
  ⟨0x400080, 34, 0x1000, 18, 4, 0xFFFFFFFF, 0x0, 0x0, 0x0, fun _ _ => 0x0⟩,
  -- MC_ECC_FLIP_CTRL
  ⟨0x4000C8, 34, 0x1000, 1, 4, 0xC, 0x0, 0x200, 0x0, fun _ _ => 0x0⟩,
  -- MC_ECC_FLIP_ADDR
  ⟨0x4000CC, 34, 0x1000, 1, 4, 0x0, 0x0, 0x0, 0x0, fun _ _ => 0x0⟩,
  -- MC_REMAP
  ⟨0x400100, 34, 0x1000, 16, 4, 0x0, 0x81FFFFFF, 0x0, 0x0, fun _ _ => 0x0⟩,
  -- MC_REMAP_CTRL
  ⟨0x400140, 34, 0x1000, 1, 4, 0x4, 0x0, 0x2, 0x0, fun _ _ => 0x4⟩,
  -- MC_REMAP_STAT
  ⟨0x400144, 34, 0x1000, 1, 4, 0x0, 0x0, 0x3, 0xFFFF0000, fun _ _ => 0x0⟩,
  -- MC_ROWREP
  ⟨0x400148, 34, 0x1000, 1, 4, 0x0, 0x0, 0x0, 0x0, fun _ _ => 0x0⟩,
  -- MC_TRN_CTRL
  ⟨0x400200, 34, 0x1000, 1, 4, 0x0, 0x0, 0x0, 0x0, fun _ _ => 0x0⟩,
  -- MC_TRN_CFG
  ⟨0x400204, 34, 0x1000, 1, 4, 0xFFFFFFFF, 0x0, 0x0, 0x0, fun _ _ => 0x2583CA5⟩,
  -- MC_TRN_STAT
  ⟨0x400208, 34, 0x1000, 1, 4, 0x0, 0x0, 0xC0, 0x0, fun _ _ => 0x0⟩,
  -- MC_TRN_WORST
  ⟨0x40020C, 34, 0x1000, 1, 4, 0x0, 0x0, 0x0, 0x0, fun _ _ => 0x0⟩,
  -- MC_TRN_CA
  ⟨0x400210, 34, 0x1000, 1, 4, 0x0, 0x0, 0x0, 0x0, fun _ _ => 0x0⟩,
  -- MC_TRN_AGE
  ⟨0x400214, 34, 0x1000, 1, 4, 0x0, 0x0, 0x0, 0x0, fun _ _ => 0x0⟩,
  -- MC_TRN_DQWIN
  ⟨0x400280, 34, 0x1000, 72, 4, 0x0, 0x0, 0x0, 0x0, fun _ _ => 0x0⟩,
  -- MC_TSV_DQ
  ⟨0x400220, 34, 0x1000, 1, 4, 0x0, 0x0, 0x0, 0x0, fun _ _ => 0x3F3F3F3F⟩,
  -- MC_TSV_CA
  ⟨0x400224, 34, 0x1000, 1, 4, 0x0, 0x0, 0x0, 0x0, fun _ _ => 0xF⟩,
  -- MC_TSV_STAT
  ⟨0x400228, 34, 0x1000, 1, 4, 0x0, 0x0, 0x0, 0xFFFF0000, fun _ _ => 0x0⟩,
  -- MC_MIG_PTR
  ⟨0x400230, 34, 0x1000, 1, 4, 0x0, 0x0, 0x0, 0x0, fun _ _ => 0x0⟩,
  -- MC_MIG_LOST
  ⟨0x400234, 34, 0x1000, 1, 4, 0x0, 0x0, 0x0, 0x0, fun _ _ => 0x0⟩,
  -- MC_MIG_LOSTFIRST
  ⟨0x400238, 34, 0x1000, 1, 4, 0x0, 0x0, 0x0, 0x0, fun _ _ => 0x0⟩ ]

/-- Registers of block McShared. -/
def regsMcShared : List RegRow := [
  -- MC_CHMAP
  ⟨0x430000, 8, 0x4, 1, 4, 0x0, 0x3F3F3F3F, 0x0, 0x0, fun n _ => (4 * n) + (4 * n + 1) * 0x100 + (4 * n + 2) * 0x10000 + (4 * n + 3) * 0x1000000⟩,
  -- MC_CHMAP_COMMIT
  ⟨0x430020, 1, 0x4, 1, 4, 0x0, 0x0, 0x2, 0x0, fun _ _ => 0x0⟩,
  -- MC_CHMAP_GEN
  ⟨0x430024, 1, 0x4, 1, 4, 0x0, 0x0, 0x0, 0x0, fun _ _ => 0x0⟩,
  -- MC_LAYER_CTRL
  ⟨0x430030, 1, 0x4, 1, 4, 0x0, 0x0, 0x0, 0x0, fun _ _ => 0x0⟩,
  -- MC_LAYER_STAT
  ⟨0x430034, 1, 0x4, 1, 4, 0x0, 0x0, 0x1800, 0x0, fun _ _ => 0x11F⟩ ]

/-- Registers of block Bw. -/
def regsBw : List RegRow := [
  -- BW_STATUS
  ⟨0x500000, 1, 0x4, 1, 4, 0x0, 0x0, 0xFF00, 0x0, fun _ _ => 0x0⟩,
  -- BW_CLASSMAP
  ⟨0x500004, 1, 0x4, 1, 4, 0x0, 0x0, 0x0, 0x0, fun _ _ => 0x0⟩,
  -- BW_COMMIT
  ⟨0x500008, 1, 0x4, 1, 4, 0x0, 0x0, 0x0, 0x0, fun _ _ => 0x0⟩,
  -- BW_COMMIT_ERR
  ⟨0x50000C, 1, 0x4, 1, 4, 0x0, 0x0, 0x1, 0x0, fun _ _ => 0x0⟩,
  -- BW_LAT_LIMIT
  ⟨0x500020, 8, 0x4, 1, 4, 0xFFFFFF, 0x0, 0x0, 0x0, fun _ _ => 0x0⟩,
  -- BW_REDUCED
  ⟨0x500040, 8, 0x4, 1, 4, 0x0, 0x0, 0x0, 0x0, fun _ _ => 0x0⟩,
  -- BW_BREACH
  ⟨0x500060, 8, 0x4, 1, 4, 0x0, 0x0, 0xFFFFFFFF, 0x0, fun _ _ => 0x0⟩,
  -- BW_RSV
  ⟨0x501000, 256, 0x8, 1, 4, 0x0, 0xFFFF, 0x0, 0x0, fun n _ => 0x4000 + (if n < 32 then 4 else 0)⟩,
  -- BW_SHARE
  ⟨0x501004, 256, 0x8, 1, 4, 0x0, 0xFFFF, 0x0, 0x0, fun _ _ => 0x0⟩,
  -- BW_EFF
  ⟨0x502000, 256, 0x4, 1, 4, 0x0, 0x0, 0x0, 0x0, fun _ _ => 0x0⟩,
  -- BW_LAT
  ⟨0x503000, 256, 0x4, 1, 4, 0x0, 0x0, 0x0, 0xFFFFFF, fun _ _ => 0x0⟩ ]

/-- Registers of block Fault. -/
def regsFault : List RegRow := [
  -- FAULT_STATUS
  ⟨0x600000, 1, 0x4, 1, 4, 0x0, 0x0, 0x3, 0x0, fun _ _ => 0x0⟩,
  -- FAULT_CTRL
  ⟨0x600004, 1, 0x4, 1, 4, 0x0, 0x0, 0x0, 0x0, fun _ _ => 0x0⟩,
  -- FAULT_CFG
  ⟨0x600008, 1, 0x4, 1, 4, 0x3, 0x0, 0x0, 0x0, fun _ _ => 0x2710002⟩,
  -- FAULT_FE_STATUS
  ⟨0x600010, 1, 0x4, 1, 4, 0x0, 0x0, 0x80000000, 0x0, fun _ _ => 0x0⟩,
  -- FAULT_FE_ADDR_LO
  ⟨0x600014, 1, 0x4, 1, 4, 0x0, 0x0, 0x0, 0x0, fun _ _ => 0x0⟩,
  -- FAULT_FE_ADDR_HI
  ⟨0x600018, 1, 0x4, 1, 4, 0x0, 0x0, 0x0, 0x0, fun _ _ => 0x0⟩,
  -- FAULT_FE_MASTER
  ⟨0x60001C, 1, 0x4, 1, 4, 0x0, 0x0, 0x0, 0x0, fun _ _ => 0x0⟩,
  -- FAULT_FE_VT_LO
  ⟨0x600020, 1, 0x4, 1, 4, 0x0, 0x0, 0x0, 0x0, fun _ _ => 0x0⟩,
  -- FAULT_FE_VT_HI
  ⟨0x600024, 1, 0x4, 1, 4, 0x0, 0x0, 0x0, 0x0, fun _ _ => 0x0⟩,
  -- FAULT_FE_UPTIME_LO
  ⟨0x600028, 1, 0x4, 1, 4, 0x0, 0x0, 0x0, 0x0, fun _ _ => 0x0⟩,
  -- FAULT_FE_UPTIME_HI
  ⟨0x60002C, 1, 0x4, 1, 4, 0x0, 0x0, 0x0, 0x0, fun _ _ => 0x0⟩,
  -- FAULT_COUNT
  ⟨0x600030, 1, 0x4, 1, 4, 0x0, 0x0, 0x0, 0xFFFFFFFF, fun _ _ => 0x0⟩,
  -- FAULT_OVERRUN
  ⟨0x600034, 1, 0x4, 1, 4, 0x0, 0x0, 0x0, 0xFFFF, fun _ _ => 0x0⟩,
  -- FAULT_PART_00
  ⟨0x600200, 16, 0x10, 1, 4, 0x0, 0x0, 0x0, 0x0, fun _ _ => 0x20000000⟩,
  -- FAULT_PART_04
  ⟨0x600204, 16, 0x10, 1, 4, 0x0, 0x0, 0x0, 0x0, fun _ _ => 0x0⟩,
  -- FAULT_PART_08
  ⟨0x600208, 16, 0x10, 1, 4, 0x0, 0x0, 0x0, 0x0, fun _ _ => 0x0⟩,
  -- FAULT_KIND
  ⟨0x600400, 256, 0x4, 1, 4, 0x0, 0x0, 0x0, 0xFFFF0000, fun n _ => 5 * kindDefault n⟩,
  -- FAULT_UNIT
  ⟨0x601000, 1024, 0x4, 1, 4, 0x0, 0x0, 0x20000000, 0x0, fun _ _ => 0x0⟩ ]

/-- Registers of block Fuse. -/
def regsFuse : List RegRow := [
  -- FUSE_STATUS
  ⟨0x700000, 1, 0x4, 1, 4, 0x0, 0x0, 0x0, 0x0, fun _ _ => 0x0⟩,
  -- FUSE_LOCKS
  ⟨0x700004, 1, 0x4, 1, 4, 0x0, 0x0, 0x0, 0x0, fun _ _ => 0x0⟩,
  -- FUSE_LIMITS
  ⟨0x700008, 1, 0x4, 1, 4, 0x0, 0x0, 0x0, 0x0, fun _ _ => 0x0⟩,
  -- FUSE_PGM_ADDR
  ⟨0x700010, 1, 0x4, 1, 4, 0xFFF, 0x0, 0x0, 0x0, fun _ _ => 0x0⟩,
  -- FUSE_PGM_DATA
  ⟨0x700014, 1, 0x4, 1, 4, 0xFFFFFFFF, 0x0, 0x0, 0x0, fun _ _ => 0x0⟩,
  -- FUSE_PGM_CMD
  ⟨0x700018, 1, 0x4, 1, 4, 0x0, 0x0, 0x0, 0x0, fun _ _ => 0x0⟩,
  -- FUSE_PGM_STAT
  ⟨0x70001C, 1, 0x4, 1, 4, 0x0, 0x0, 0x700, 0x0, fun _ _ => 0x0⟩,
  -- FUSE_OVR
  ⟨0x700020, 1, 0x4, 1, 4, 0x3, 0x0, 0x0, 0x0, fun _ _ => 0x0⟩,
  -- FUSE_MARGINAL
  ⟨0x700040, 4, 0x4, 1, 4, 0x0, 0x0, 0x0, 0x0, fun _ _ => 0x0⟩,
  -- FUSE_SHADOW
  ⟨0x700100, 128, 0x4, 1, 4, 0x0, 0x0, 0x0, 0x0, fun _ _ => 0x0⟩,
  -- FUSE_ARRAY
  ⟨0x700300, 128, 0x4, 1, 4, 0x0, 0x0, 0x0, 0x0, fun _ _ => 0x0⟩,
  -- FUSE_TIGHT
  ⟨0x700500, 128, 0x4, 1, 4, 0x0, 0x0, 0x0, 0x0, fun _ _ => 0x0⟩ ]

/-- Registers of block Clkpwr. -/
def regsClkpwr : List RegRow := [
  -- CLKPWR_STATUS
  ⟨0x800000, 1, 0x4, 1, 4, 0x0, 0x0, 0x0, 0x0, fun _ _ => 0x0⟩,
  -- CLKPWR_NMI
  ⟨0x800004, 1, 0x4, 1, 4, 0x0, 0x0, 0x7, 0x0, fun _ _ => 0x0⟩,
  -- CLKPWR_MON
  ⟨0x800008, 1, 0x4, 1, 4, 0x0, 0x0, 0x0, 0x0, fun _ _ => 0x22000000⟩,
  -- CLKPWR_COUNT
  ⟨0x80000C, 1, 0x4, 1, 4, 0x0, 0x0, 0x0, 0xFFFFFFFF, fun _ _ => 0x0⟩,
  -- CLKPWR_CFG
  ⟨0x800010, 1, 0x4, 1, 4, 0xFF, 0x0, 0x0, 0x0, fun _ _ => 0x10⟩,
  -- CLKPWR_GATE_COMMIT
  ⟨0x800020, 1, 0x4, 1, 4, 0x2, 0x0, 0x8, 0x0, fun _ _ => 0x0⟩,
  -- CLKPWR_GATE_STAT
  ⟨0x800024, 1, 0x4, 1, 4, 0x0, 0x0, 0x1, 0xFFFFFF00, fun _ _ => 0x0⟩,
  -- CLKPWR_GATE
  ⟨0x801000, 1024, 0x4, 1, 4, 0x0, 0x7, 0x0, 0x0, fun n _ => gateReset n⟩,
  -- CLKPWR_RAIL
  ⟨0x800100, 5, 0x4, 1, 4, 0x0, 0x0, 0x10000, 0x0, fun r _ => railReset r⟩,
  -- CLKPWR_PHASE
  ⟨0x800200, 28, 0x4, 1, 4, 0x0, 0x0, 0x0, 0x0, fun p _ => phaseReset p⟩ ]

/-- Registers of block Alm. -/
def regsAlm : List RegRow := [
  -- ALM_STATUS
  ⟨0x900000, 1, 0x4, 1, 4, 0x0, 0x0, 0x0, 0x0, fun _ _ => 0x0⟩,
  -- ALM_CMD
  ⟨0x900004, 1, 0x4, 1, 4, 0x0, 0x0, 0x0, 0x0, fun _ _ => 0x0⟩,
  -- ALM_FW_STAT
  ⟨0x900008, 1, 0x4, 1, 4, 0x0, 0x0, 0x300, 0x0, fun _ _ => 0x0⟩,
  -- ALM_FW_OFFSET
  ⟨0x90000C, 1, 0x4, 1, 4, 0x0, 0x0, 0x0, 0x0, fun _ _ => 0x0⟩,
  -- ALM_FW_SRC_LO
  ⟨0x900010, 1, 0x4, 1, 4, 0xFFFFFFC0, 0x0, 0x0, 0x0, fun _ _ => 0x0⟩,
  -- ALM_FW_SRC_HI
  ⟨0x900014, 1, 0x4, 1, 4, 0xF, 0x0, 0x0, 0x0, fun _ _ => 0x0⟩,
  -- ALM_FW_LEN
  ⟨0x900018, 1, 0x4, 1, 4, 0x1FFFFF, 0x0, 0x0, 0x0, fun _ _ => 0x0⟩,
  -- ALM_FW_ID_LO
  ⟨0x90001C, 1, 0x4, 1, 4, 0x0, 0x0, 0x0, 0x0, fun _ _ => 0x0⟩,
  -- ALM_FW_ID_HI
  ⟨0x900020, 1, 0x4, 1, 4, 0x0, 0x0, 0x0, 0x0, fun _ _ => 0x0⟩,
  -- ALM_FW_WIN
  ⟨0x900040, 1, 0x4, 1, 4, 0x0, 0x0, 0x0, 0x0, fun _ _ => 0x0⟩,
  -- ALM_CAL_CTRL
  ⟨0x900080, 1, 0x4, 1, 4, 0x0, 0x0, 0x600, 0x0, fun _ _ => 0x0⟩,
  -- ALM_CAL_COEF
  ⟨0x900100, 96, 0x4, 1, 4, 0x0, 0x0, 0x0, 0x0, fun _ _ => 0x0⟩,
  -- ALM_CAL_VCOEF
  ⟨0x900280, 6, 0x4, 1, 4, 0x0, 0x0, 0x0, 0x0, fun _ _ => 0x0⟩,
  -- ALM_SITE
  ⟨0x900300, 32, 0x4, 1, 4, 0x0, 0x0, 0x0, 0x0, fun _ _ => 0x0⟩,
  -- ALM_LAYER
  ⟨0x900400, 17, 0x4, 1, 4, 0x0, 0x0, 0x0, 0x0, fun _ _ => 0x0⟩,
  -- ALM_LOG
  ⟨0x900480, 1, 0x4, 1, 4, 0x0, 0x0, 0x0, 0x0, fun _ _ => 0x0⟩,
  -- ALM_LOG_LOST
  ⟨0x900484, 1, 0x4, 1, 4, 0x0, 0x0, 0x0, 0xFFFF, fun _ _ => 0x0⟩,
  -- ALM_SB
  ⟨0x900490, 1, 0x4, 1, 4, 0x0, 0x0, 0x0, 0x0, fun _ _ => 0x0⟩ ]

/-- Registers of block Selftest. -/
def regsSelftest : List RegRow := [
  -- ST_STATUS
  ⟨0xA00000, 1, 0x4, 1, 4, 0x0, 0x0, 0x0, 0x0, fun _ _ => 0x0⟩,
  -- ST_CTRL
  ⟨0xA00004, 1, 0x4, 1, 4, 0x1, 0x0, 0x0, 0x0, fun _ _ => 0x0⟩,
  -- ST_LAST
  ⟨0xA00008, 1, 0x4, 1, 4, 0x0, 0x0, 0x0, 0x0, fun _ _ => 0x0⟩,
  -- ST_LAST_ADDR_LO
  ⟨0xA0000C, 1, 0x4, 1, 4, 0x0, 0x0, 0x0, 0x0, fun _ _ => 0x0⟩,
  -- ST_LAST_ADDR_HI
  ⟨0xA00010, 1, 0x4, 1, 4, 0x0, 0x0, 0x0, 0x0, fun _ _ => 0x0⟩,
  -- ST_STARTUP
  ⟨0xA00014, 1, 0x4, 1, 4, 0x0, 0x0, 0x0, 0x0, fun _ _ => 0x0⟩,
  -- ST_KIND
  ⟨0xA00020, 9, 0x4, 1, 4, 0x0, 0x0, 0x0, 0x0, fun k _ => stKindReset k⟩,
  -- ST_GAP
  ⟨0xA000C0, 9, 0x4, 1, 4, 0x0, 0x0, 0x0, 0x0, fun k _ => stGapReset k⟩,
  -- ST_CNT
  ⟨0xA00060, 9, 0x4, 1, 4, 0x0, 0x0, 0x0, 0xFFFFFFFF, fun _ _ => 0x0⟩,
  -- ST_RVPTR
  ⟨0xA00100, 32, 0x4, 1, 4, 0x0, 0x0, 0x80000000, 0x0, fun _ _ => 0x0⟩ ]

/-- Is address a inside one of the block spans of R408 (TAP left aside)? -/
def csrInSpan (a : Nat) : Bool :=
inRange a 0x0 0x1000
  || inRange a 0x10000 0x11000
  || inRange a 0x20000 0x21000
  || inRange a 0x100000 0x148000
  || inRange a 0x170000 0x172000
  || inRange a 0x200000 0x264000
  || inRange a 0x300000 0x301000
  || inRange a 0x400000 0x422000
  || inRange a 0x430000 0x430040
  || inRange a 0x500000 0x504000
  || inRange a 0x600000 0x602000
  || inRange a 0x700000 0x700800
  || inRange a 0x800000 0x802000
  || inRange a 0x900000 0x901000
  || inRange a 0xA00000 0xA01000
  || (inRange a 0x180000 0x200000 && decide (a % 0x10000 < 0x2000))

/-- Is address a in the TAP block (R408)? -/
def csrInTap (a : Nat) : Bool := inRange a 0xB00000 0xB10000

/-- The rows of the block that holds address a. -/
def blockRows (a : Nat) : List RegRow :=
  if inRange a 0x0 0x1000 then regsGlobal else
  if inRange a 0x10000 0x11000 then regsVt else
  if inRange a 0x20000 0x21000 then regsImage else
  if inRange a 0x100000 0x148000 then regsEng else
  if inRange a 0x170000 0x172000 then regsCap8 else
  if inRange a 0x180000 0x1F2000 then regsCap else
  if inRange a 0x200000 0x264000 then regsVlane else
  if inRange a 0x300000 0x301000 then regsHlink else
  if inRange a 0x400000 0x422000 then regsMc else
  if inRange a 0x430000 0x430040 then regsMcShared else
  if inRange a 0x500000 0x504000 then regsBw else
  if inRange a 0x600000 0x602000 then regsFault else
  if inRange a 0x700000 0x700800 then regsFuse else
  if inRange a 0x800000 0x802000 then regsClkpwr else
  if inRange a 0x900000 0x901000 then regsAlm else
  if inRange a 0xA00000 0xA01000 then regsSelftest else
  []

/-- The instance pair of a row that sits at address a, if one does. -/
def RegRow.at? (r : RegRow) (a : Nat) : Option (Nat × Nat) :=
  if a < r.base then none
  else
    let d := a - r.base
    let i := if r.n1 ≤ 1 then 0 else d / r.st1
    let e := d - i * r.st1
    let e := if r.n1 ≤ 1 then d else e
    let j := if r.n2 ≤ 1 then 0 else e / r.st2
    let e := if r.n2 ≤ 1 then e else e - j * r.st2
    if i < max r.n1 1 && j < max r.n2 1 && e = 0 then some (i, j) else none

/-- The row and instance of a list of rows at address a. -/
def findRow : List RegRow → Nat → Option (RegRow × Nat × Nat)
  | [], _ => none
  | r :: rs, a => match r.at? a with
    | some p => some (r, p)
    | none => findRow rs a

/-- The register at address a, if some block has one there. -/
def regAt (a : Nat) : Option (RegRow × Nat × Nat) := findRow (blockRows a) a

/-- What the register at address a holds after RESET_N deasserts; reserved offsets read 0 (R6, R22). -/
def csrReset (a : Nat) : Word :=
  match regAt a with
  | some (r, i, j) => BitVec.ofNat 32 (r.rst i j)
  | none => 0

end Sys2Proof.Machine
end

