-- ==== Sys2Proof/Machine/RegFields.lean ====
section
/-! DEFINITION. The register fields by name: Csr.<REGISTER>_<FIELD>, as the register tables of the chapters give them. -/
namespace Sys2Proof.Machine.Csr

abbrev GLOBAL_ID_PART_CODE : Fld := ⟨0x0, 16, 16⟩
abbrev GLOBAL_ID_FAMILY : Fld := ⟨0x0, 8, 8⟩
abbrev GLOBAL_ID_STEPPING : Fld := ⟨0x0, 4, 4⟩
abbrev GLOBAL_CAP0_SPARE_LANES : Fld := ⟨0x4, 27, 3⟩
abbrev GLOBAL_CAP0_LANES : Fld := ⟨0x4, 19, 8⟩
abbrev GLOBAL_CAP0_SPARE_ENGINES : Fld := ⟨0x4, 15, 4⟩
abbrev GLOBAL_CAP0_ENGINES : Fld := ⟨0x4, 8, 7⟩
abbrev GLOBAL_CAP0_SPARE_LAYERS : Fld := ⟨0x4, 5, 3⟩
abbrev GLOBAL_CAP0_LAYERS : Fld := ⟨0x4, 0, 5⟩
abbrev GLOBAL_CAP1_ENG_PER_CLUSTER : Fld := ⟨0x8, 25, 4⟩
abbrev GLOBAL_CAP1_CLUSTERS : Fld := ⟨0x8, 21, 4⟩
abbrev GLOBAL_CAP1_PARTITIONS : Fld := ⟨0x8, 16, 5⟩
abbrev GLOBAL_CAP1_SPARE_CAPTURE : Fld := ⟨0x8, 12, 1⟩
abbrev GLOBAL_CAP1_CAPTURE_UNITS : Fld := ⟨0x8, 8, 4⟩
abbrev GLOBAL_CAP1_SPARE_CHANNELS : Fld := ⟨0x8, 6, 2⟩
abbrev GLOBAL_CAP1_CHANNELS : Fld := ⟨0x8, 0, 6⟩
abbrev GLOBAL_CAP2_SYSREG_MIB : Fld := ⟨0xC, 8, 8⟩
abbrev GLOBAL_CAP2_CAPACITY_GIB : Fld := ⟨0xC, 0, 8⟩
abbrev HLINK_SYSREG_REFUSED_COUNT : Fld := ⟨0x300040, 0, 16⟩
abbrev IMAGE_SRC_LO_ADDR : Fld := ⟨0x20000, 6, 26⟩
abbrev IMAGE_SRC_HI_ADDR : Fld := ⟨0x20004, 0, 4⟩
abbrev IMAGE_LEN_LEN : Fld := ⟨0x20008, 0, 19⟩
abbrev IMAGE_CMD_PARTS : Fld := ⟨0x2000C, 16, 16⟩
abbrev IMAGE_CMD_OP : Fld := ⟨0x2000C, 0, 4⟩
abbrev IMAGE_EPOCH_LO_VT : Fld := ⟨0x20010, 0, 32⟩
abbrev IMAGE_EPOCH_HI_VT : Fld := ⟨0x20014, 0, 16⟩
abbrev IMAGE_STATUS_ACTIVE_GEN : Fld := ⟨0x20018, 24, 8⟩
abbrev IMAGE_STATUS_ARMED_PARTS_HI : Fld := ⟨0x20018, 16, 8⟩
abbrev IMAGE_STATUS_APPLY_FAIL : Fld := ⟨0x20018, 9, 1⟩
abbrev IMAGE_STATUS_DONE : Fld := ⟨0x20018, 8, 1⟩
abbrev IMAGE_STATUS_PARTIAL : Fld := ⟨0x20018, 7, 1⟩
abbrev IMAGE_STATUS_SIGNED : Fld := ⟨0x20018, 6, 1⟩
abbrev IMAGE_STATUS_ADMIT_COLD : Fld := ⟨0x20018, 5, 1⟩
abbrev IMAGE_STATUS_STATE : Fld := ⟨0x20018, 0, 3⟩
abbrev IMAGE_ERR_OFFSET : Fld := ⟨0x2001C, 8, 24⟩
abbrev IMAGE_ERR_AT_EPOCH : Fld := ⟨0x2001C, 7, 1⟩
abbrev IMAGE_ERR_STAGE : Fld := ⟨0x2001C, 5, 2⟩
abbrev IMAGE_ERR_CODE : Fld := ⟨0x2001C, 0, 5⟩
abbrev IMAGE_ADMIT_CHANNEL : Fld := ⟨0x20020, 21, 5⟩
abbrev IMAGE_ADMIT_HEADROOM : Fld := ⟨0x20020, 0, 21⟩
abbrev IMAGE_ACTIVE_ID_LO_ID : Fld := ⟨0x20024, 0, 32⟩
abbrev IMAGE_ACTIVE_ID_HI_ID : Fld := ⟨0x20028, 0, 32⟩
abbrev IMAGE_ALIVE_ENG_ALIVE (n : Nat) : Fld := ⟨0x20040 + 4 * n, 0, 32⟩
abbrev IMAGE_ALIVE_TX_ALIVE (n : Nat) : Fld := ⟨0x20050 + 4 * n, 0, 32⟩
abbrev IMAGE_ALIVE_RX_ALIVE (n : Nat) : Fld := ⟨0x20060 + 4 * n, 0, 32⟩
abbrev IMAGE_ALIVE_CHAN_ALIVE : Fld := ⟨0x20070, 0, 32⟩
abbrev IMAGE_ALIVE_MISC_GEN : Fld := ⟨0x20074, 16, 16⟩
abbrev IMAGE_ALIVE_MISC_CAP_SPARE_FREE : Fld := ⟨0x20074, 8, 1⟩
abbrev IMAGE_ALIVE_MISC_CAP_GROUPS : Fld := ⟨0x20074, 0, 8⟩
abbrev VT_NOW_LO_VT : Fld := ⟨0x10000, 0, 32⟩
abbrev VT_NOW_HI_VT : Fld := ⟨0x10004, 0, 16⟩
abbrev VT_TICK_PS_TICK_PS : Fld := ⟨0x10008, 0, 14⟩
abbrev VT_RATE_RATE : Fld := ⟨0x1000C, 0, 32⟩
abbrev VT_STATUS_TICK_REFUSED : Fld := ⟨0x10010, 6, 1⟩
abbrev VT_STATUS_VTSET_ARMED : Fld := ⟨0x10010, 5, 1⟩
abbrev VT_STATUS_TSYNC_MISS : Fld := ⟨0x10010, 4, 1⟩
abbrev VT_STATUS_VT_SLIP : Fld := ⟨0x10010, 3, 1⟩
abbrev VT_STATUS_STATE : Fld := ⟨0x10010, 0, 2⟩
abbrev VT_EDGE_SLIPS : Fld := ⟨0x10014, 24, 8⟩
abbrev VT_EDGE_MISSES : Fld := ⟨0x10014, 16, 8⟩
abbrev VT_EDGE_LAST_ERR : Fld := ⟨0x10014, 0, 16⟩
abbrev VT_SET_LO_VT : Fld := ⟨0x10018, 0, 32⟩
abbrev VT_SET_HI_VT : Fld := ⟨0x1001C, 0, 16⟩
abbrev VT_LEAD_LEAD : Fld := ⟨0x10020, 0, 20⟩
abbrev VT_HOL_START_LO_VT : Fld := ⟨0x10024, 0, 32⟩
abbrev VT_HOL_START_HI_PART : Fld := ⟨0x10028, 16, 8⟩
abbrev VT_HOL_START_HI_VT : Fld := ⟨0x10028, 0, 16⟩
abbrev VT_HOL_END_LO_VT : Fld := ⟨0x1002C, 0, 32⟩
abbrev VT_HOL_END_HI_VT : Fld := ⟨0x10030, 0, 16⟩
abbrev VT_COMMIT_HOLIDAY : Fld := ⟨0x10040, 2, 1⟩
abbrev VT_COMMIT_CAL : Fld := ⟨0x10040, 1, 1⟩
abbrev VT_COMMIT_VTSET : Fld := ⟨0x10040, 0, 1⟩
abbrev VT_COMMIT_ERR_CAUSE : Fld := ⟨0x10044, 16, 8⟩
abbrev VT_COMMIT_ERR_ENTRY : Fld := ⟨0x10044, 8, 6⟩
abbrev VT_COMMIT_ERR_HOLIDAY : Fld := ⟨0x10044, 2, 1⟩
abbrev VT_COMMIT_ERR_CAL : Fld := ⟨0x10044, 1, 1⟩
abbrev VT_COMMIT_ERR_VTSET : Fld := ⟨0x10044, 0, 1⟩
abbrev VT_CAL_FIRED0_FIRED : Fld := ⟨0x10048, 0, 32⟩
abbrev VT_CAL_FIRED1_FIRED : Fld := ⟨0x1004C, 0, 32⟩
abbrev VT_CAL_STAT_PAST : Fld := ⟨0x10050, 24, 8⟩
abbrev VT_CAL_STAT_DUP : Fld := ⟨0x10050, 16, 8⟩
abbrev VT_CAL_STAT_VOID : Fld := ⟨0x10050, 8, 8⟩
abbrev VT_CAL_STAT_EDGE_LATE : Fld := ⟨0x10050, 0, 8⟩
abbrev VT_CAL_FREE_FREE : Fld := ⟨0x10054, 0, 7⟩
abbrev VT_CAL_ENT_VT_LO (n : Nat) : Fld := ⟨0x10100 + 0x10 * n, 0, 32⟩
abbrev VT_CAL_ENT_PART (n : Nat) : Fld := ⟨0x10100 + 0x10 * n + 0x4, 24, 8⟩
abbrev VT_CAL_ENT_ACTION (n : Nat) : Fld := ⟨0x10100 + 0x10 * n + 0x4, 16, 8⟩
abbrev VT_CAL_ENT_VT_HI (n : Nat) : Fld := ⟨0x10100 + 0x10 * n + 0x4, 0, 16⟩
abbrev VT_CAL_ENT_ARG_LO (n : Nat) : Fld := ⟨0x10100 + 0x10 * n + 0x8, 0, 32⟩
abbrev VT_CAL_ENT_ARG_HI (n : Nat) : Fld := ⟨0x10100 + 0x10 * n + 0xC, 0, 32⟩
abbrev ENG_STATE_PART (e : Nat) : Fld := ⟨0x100000 + 0x1000 * e, 12, 4⟩
abbrev ENG_STATE_CLASS (e : Nat) : Fld := ⟨0x100000 + 0x1000 * e, 8, 3⟩
abbrev ENG_STATE_AUX (e : Nat) : Fld := ⟨0x100000 + 0x1000 * e, 4, 1⟩
abbrev ENG_STATE_INTRAP (e : Nat) : Fld := ⟨0x100000 + 0x1000 * e, 3, 1⟩
abbrev ENG_STATE_STATE (e : Nat) : Fld := ⟨0x100000 + 0x1000 * e, 0, 3⟩
abbrev ENG_CTRL_REARM (e : Nat) : Fld := ⟨0x100000 + 0x1000 * e + 0x4, 2, 1⟩
abbrev ENG_CTRL_STOP (e : Nat) : Fld := ⟨0x100000 + 0x1000 * e + 0x4, 1, 1⟩
abbrev ENG_CTRL_START (e : Nat) : Fld := ⟨0x100000 + 0x1000 * e + 0x4, 0, 1⟩
abbrev ENG_EVENT_SIGCODE (e : Nat) : Fld := ⟨0x100000 + 0x1000 * e + 0x8, 16, 8⟩
abbrev ENG_EVENT_HALT_REASON (e : Nat) : Fld := ⟨0x100000 + 0x1000 * e + 0x8, 8, 3⟩
abbrev ENG_EVENT_SIG (e : Nat) : Fld := ⟨0x100000 + 0x1000 * e + 0x8, 4, 1⟩
abbrev ENG_EVENT_START_LATE (e : Nat) : Fld := ⟨0x100000 + 0x1000 * e + 0x8, 3, 1⟩
abbrev ENG_EVENT_CMD_REFUSED (e : Nat) : Fld := ⟨0x100000 + 0x1000 * e + 0x8, 2, 1⟩
abbrev ENG_EVENT_TRAP_HALT (e : Nat) : Fld := ⟨0x100000 + 0x1000 * e + 0x8, 1, 1⟩
abbrev ENG_EVENT_HALTED (e : Nat) : Fld := ⟨0x100000 + 0x1000 * e + 0x8, 0, 1⟩
abbrev ENG_PC_PC (e : Nat) : Fld := ⟨0x100000 + 0x1000 * e + 0xC, 0, 24⟩
abbrev ENG_TRAP_LO_CAUSE (e : Nat) : Fld := ⟨0x100000 + 0x1000 * e + 0x10, 0, 32⟩
abbrev ENG_TRAP_HI_CAUSE (e : Nat) : Fld := ⟨0x100000 + 0x1000 * e + 0x14, 0, 32⟩
abbrev ENG_TRAPPC_TRAPPC (e : Nat) : Fld := ⟨0x100000 + 0x1000 * e + 0x18, 0, 24⟩
abbrev ENG_STIME_LO_STIME (e : Nat) : Fld := ⟨0x100000 + 0x1000 * e + 0x20, 0, 32⟩
abbrev ENG_STIME_HI_STIME (e : Nat) : Fld := ⟨0x100000 + 0x1000 * e + 0x24, 0, 16⟩
abbrev ENG_COUNT_TRAPS (e : Nat) : Fld := ⟨0x100000 + 0x1000 * e + 0x28, 16, 16⟩
abbrev ENG_COUNT_SRAM_CORR (e : Nat) : Fld := ⟨0x100000 + 0x1000 * e + 0x28, 0, 16⟩
abbrev ENG_STALL_ECLK (e : Nat) : Fld := ⟨0x100000 + 0x1000 * e + 0x2C, 0, 32⟩
abbrev ENG_GREG_LO_VALUE (e : Nat) (n : Nat) : Fld := ⟨0x100000 + 0x1000 * e + 0x100 + 8 * n, 0, 32⟩
abbrev ENG_GREG_HI_VALUE (e : Nat) (n : Nat) : Fld := ⟨0x100000 + 0x1000 * e + 0x104 + 8 * n, 0, 32⟩
abbrev ENG_STG_CFG_FLUSH_EN (e : Nat) : Fld := ⟨0x100000 + 0x1000 * e + 0x40, 16, 1⟩
abbrev ENG_STG_CFG_FLUSH_LEAD (e : Nat) : Fld := ⟨0x100000 + 0x1000 * e + 0x40, 0, 16⟩
abbrev ENG_STG_STATUS_SIG_BROKEN (e : Nat) : Fld := ⟨0x100000 + 0x1000 * e + 0x44, 28, 4⟩
abbrev ENG_STG_STATUS_DRAIN_ROW (e : Nat) : Fld := ⟨0x100000 + 0x1000 * e + 0x44, 16, 8⟩
abbrev ENG_STG_STATUS_FILL_ROW (e : Nat) : Fld := ⟨0x100000 + 0x1000 * e + 0x44, 8, 8⟩
abbrev ENG_STG_STATUS_HOLD_STALL (e : Nat) : Fld := ⟨0x100000 + 0x1000 * e + 0x44, 7, 1⟩
abbrev ENG_STG_STATUS_TRUNCATED (e : Nat) : Fld := ⟨0x100000 + 0x1000 * e + 0x44, 6, 1⟩
abbrev ENG_STG_STATUS_LATE (e : Nat) : Fld := ⟨0x100000 + 0x1000 * e + 0x44, 5, 1⟩
abbrev ENG_STG_STATUS_DRAIN_BANK (e : Nat) : Fld := ⟨0x100000 + 0x1000 * e + 0x44, 3, 1⟩
abbrev ENG_STG_STATUS_FILL_BANK (e : Nat) : Fld := ⟨0x100000 + 0x1000 * e + 0x44, 2, 1⟩
abbrev ENG_STG_STATUS_REPLAYING (e : Nat) : Fld := ⟨0x100000 + 0x1000 * e + 0x44, 1, 1⟩
abbrev ENG_STG_STATUS_MARKED (e : Nat) : Fld := ⟨0x100000 + 0x1000 * e + 0x44, 0, 1⟩
abbrev ENG_STG_MARK_REGION_ROWS (e : Nat) : Fld := ⟨0x100000 + 0x1000 * e + 0x48, 16, 9⟩
abbrev ENG_STG_MARK_BANK (e : Nat) : Fld := ⟨0x100000 + 0x1000 * e + 0x48, 8, 1⟩
abbrev ENG_STG_MARK_ROW (e : Nat) : Fld := ⟨0x100000 + 0x1000 * e + 0x48, 0, 8⟩
abbrev ENG_STG_PASSES_LEFT (e : Nat) : Fld := ⟨0x100000 + 0x1000 * e + 0x4C, 0, 32⟩
abbrev ENG_STG_COUNT_LATE (e : Nat) : Fld := ⟨0x100000 + 0x1000 * e + 0x50, 16, 16⟩
abbrev ENG_STG_COUNT_FLUSH (e : Nat) : Fld := ⟨0x100000 + 0x1000 * e + 0x50, 8, 8⟩
abbrev ENG_STG_COUNT_DISCARD (e : Nat) : Fld := ⟨0x100000 + 0x1000 * e + 0x50, 0, 8⟩
abbrev ENG_STG_CYC_LO_CYCLES (e : Nat) : Fld := ⟨0x100000 + 0x1000 * e + 0x54, 0, 32⟩
abbrev ENG_STG_CYC_HI_CYCLES (e : Nat) : Fld := ⟨0x100000 + 0x1000 * e + 0x58, 0, 16⟩
abbrev ENG_STG_SIG_SIG (e : Nat) (n : Nat) : Fld := ⟨0x100000 + 0x1000 * e + 0x60 + 4 * n, 0, 32⟩
abbrev VLANE_STATE_LOG_RX (k : Nat) : Fld := ⟨0x200000 + 0x1000 * k, 24, 8⟩
abbrev VLANE_STATE_LOG_TX (k : Nat) : Fld := ⟨0x200000 + 0x1000 * k, 16, 8⟩
abbrev VLANE_STATE_RX_STATE (k : Nat) : Fld := ⟨0x200000 + 0x1000 * k, 12, 4⟩
abbrev VLANE_STATE_TX_STATE (k : Nat) : Fld := ⟨0x200000 + 0x1000 * k, 8, 4⟩
abbrev VLANE_STATE_ATTEMPTS (k : Nat) : Fld := ⟨0x200000 + 0x1000 * k, 4, 4⟩
abbrev VLANE_STATE_ABSENT (k : Nat) : Fld := ⟨0x200000 + 0x1000 * k, 3, 1⟩
abbrev VLANE_STATE_SPARE (k : Nat) : Fld := ⟨0x200000 + 0x1000 * k, 2, 1⟩
abbrev VLANE_STATE_FAIL_CAUSE (k : Nat) : Fld := ⟨0x200000 + 0x1000 * k, 0, 2⟩
abbrev VLANE_CTRL_LB_FRAMES (k : Nat) : Fld := ⟨0x200000 + 0x1000 * k + 0x4, 16, 16⟩
abbrev VLANE_CTRL_LB_MODE (k : Nat) : Fld := ⟨0x200000 + 0x1000 * k + 0x4, 8, 2⟩
abbrev VLANE_CTRL_LB_STOP (k : Nat) : Fld := ⟨0x200000 + 0x1000 * k + 0x4, 4, 1⟩
abbrev VLANE_CTRL_LB_START (k : Nat) : Fld := ⟨0x200000 + 0x1000 * k + 0x4, 3, 1⟩
abbrev VLANE_CTRL_MOLT_RX (k : Nat) : Fld := ⟨0x200000 + 0x1000 * k + 0x4, 2, 1⟩
abbrev VLANE_CTRL_MOLT_TX (k : Nat) : Fld := ⟨0x200000 + 0x1000 * k + 0x4, 1, 1⟩
abbrev VLANE_CTRL_RETRAIN (k : Nat) : Fld := ⟨0x200000 + 0x1000 * k + 0x4, 0, 1⟩
abbrev VLANE_CFG_ERR_WINDOW_US (k : Nat) : Fld := ⟨0x200000 + 0x1000 * k + 0x8, 16, 16⟩
abbrev VLANE_CFG_ERR_LIMIT (k : Nat) : Fld := ⟨0x200000 + 0x1000 * k + 0x8, 0, 8⟩
abbrev VLANE_CREDIT_POOL (k : Nat) : Fld := ⟨0x200000 + 0x1000 * k + 0xC, 24, 8⟩
abbrev VLANE_CREDIT_AVAIL (k : Nat) : Fld := ⟨0x200000 + 0x1000 * k + 0xC, 16, 8⟩
abbrev VLANE_CREDIT_FIX (k : Nat) : Fld := ⟨0x200000 + 0x1000 * k + 0xC, 0, 16⟩
abbrev VLANE_TX_FRAMES_COUNT (k : Nat) : Fld := ⟨0x200000 + 0x1000 * k + 0x10, 0, 32⟩
abbrev VLANE_RX_FRAMES_COUNT (k : Nat) : Fld := ⟨0x200000 + 0x1000 * k + 0x14, 0, 32⟩
abbrev VLANE_RX_ERR_CRC (k : Nat) : Fld := ⟨0x200000 + 0x1000 * k + 0x18, 24, 8⟩
abbrev VLANE_RX_ERR_CODE (k : Nat) : Fld := ⟨0x200000 + 0x1000 * k + 0x18, 16, 8⟩
abbrev VLANE_RX_ERR_ALIGN (k : Nat) : Fld := ⟨0x200000 + 0x1000 * k + 0x18, 8, 8⟩
abbrev VLANE_RX_ERR_LOCK_LOSS (k : Nat) : Fld := ⟨0x200000 + 0x1000 * k + 0x18, 0, 8⟩
abbrev VLANE_RX_IGNORED_COUNT (k : Nat) : Fld := ⟨0x200000 + 0x1000 * k + 0x1C, 0, 16⟩
abbrev VLANE_PEER_VERSION (k : Nat) : Fld := ⟨0x200000 + 0x1000 * k + 0x20, 24, 8⟩
abbrev VLANE_PEER_FAR_LB (k : Nat) : Fld := ⟨0x200000 + 0x1000 * k + 0x20, 11, 1⟩
abbrev VLANE_PEER_P_SUPPORT (k : Nat) : Fld := ⟨0x200000 + 0x1000 * k + 0x20, 8, 3⟩
abbrev VLANE_PEER_ECHO_LOG (k : Nat) : Fld := ⟨0x200000 + 0x1000 * k + 0x20, 0, 8⟩
abbrev VLANE_PEER_LATE_LATE_CYCLES (k : Nat) : Fld := ⟨0x200000 + 0x1000 * k + 0x24, 0, 32⟩
abbrev VLANE_PEER_ERR_TX_DISCARDS (k : Nat) : Fld := ⟨0x200000 + 0x1000 * k + 0x28, 16, 16⟩
abbrev VLANE_PEER_ERR_SEQ_GAPS (k : Nat) : Fld := ⟨0x200000 + 0x1000 * k + 0x28, 0, 16⟩
abbrev VLANE_LB_FRAMES (k : Nat) : Fld := ⟨0x200000 + 0x1000 * k + 0x2C, 16, 16⟩
abbrev VLANE_LB_ERRORS (k : Nat) : Fld := ⟨0x200000 + 0x1000 * k + 0x2C, 0, 16⟩
abbrev VLANE_EVENT_LB_RUNNING (k : Nat) : Fld := ⟨0x200000 + 0x1000 * k + 0x30, 16, 1⟩
abbrev VLANE_EVENT_CMD_REFUSED (k : Nat) : Fld := ⟨0x200000 + 0x1000 * k + 0x30, 10, 1⟩
abbrev VLANE_EVENT_LB_FAIL (k : Nat) : Fld := ⟨0x200000 + 0x1000 * k + 0x30, 9, 1⟩
abbrev VLANE_EVENT_LB_DONE (k : Nat) : Fld := ⟨0x200000 + 0x1000 * k + 0x30, 8, 1⟩
abbrev VLANE_EVENT_CONFIG_REFUSED (k : Nat) : Fld := ⟨0x200000 + 0x1000 * k + 0x30, 7, 1⟩
abbrev VLANE_EVENT_CTRL_TIMEOUT (k : Nat) : Fld := ⟨0x200000 + 0x1000 * k + 0x30, 6, 1⟩
abbrev VLANE_EVENT_MOLT_OUT (k : Nat) : Fld := ⟨0x200000 + 0x1000 * k + 0x30, 5, 1⟩
abbrev VLANE_EVENT_MOLT_IN (k : Nat) : Fld := ⟨0x200000 + 0x1000 * k + 0x30, 4, 1⟩
abbrev VLANE_EVENT_ERR_RATE (k : Nat) : Fld := ⟨0x200000 + 0x1000 * k + 0x30, 3, 1⟩
abbrev VLANE_EVENT_LOCK_LOST (k : Nat) : Fld := ⟨0x200000 + 0x1000 * k + 0x30, 2, 1⟩
abbrev VLANE_EVENT_TRAIN_FAIL (k : Nat) : Fld := ⟨0x200000 + 0x1000 * k + 0x30, 1, 1⟩
abbrev VLANE_EVENT_TRAINED (k : Nat) : Fld := ⟨0x200000 + 0x1000 * k + 0x30, 0, 1⟩
abbrev CAP_STATUS_DUMP_DONE (u : Nat) : Fld := ⟨capBase u, 13, 1⟩
abbrev CAP_STATUS_CMD_REFUSED (u : Nat) : Fld := ⟨capBase u, 12, 1⟩
abbrev CAP_STATUS_GROUP (u : Nat) : Fld := ⟨capBase u, 8, 4⟩
abbrev CAP_STATUS_ECHO_FULL (u : Nat) : Fld := ⟨capBase u, 7, 1⟩
abbrev CAP_STATUS_DMA_HALT (u : Nat) : Fld := ⟨capBase u, 6, 1⟩
abbrev CAP_STATUS_STATE (u : Nat) : Fld := ⟨capBase u, 0, 3⟩
abbrev CAP_CTRL_PART (u : Nat) : Fld := ⟨capBase u + 0x4, 16, 4⟩
abbrev CAP_CTRL_RC_CLEAR (u : Nat) : Fld := ⟨capBase u + 0x4, 3, 1⟩
abbrev CAP_CTRL_RC_DUMP (u : Nat) : Fld := ⟨capBase u + 0x4, 2, 1⟩
abbrev CAP_CTRL_DMA_RESUME (u : Nat) : Fld := ⟨capBase u + 0x4, 1, 1⟩
abbrev CAP_CTRL_FLUSH (u : Nat) : Fld := ⟨capBase u + 0x4, 0, 1⟩
abbrev CAP_CFG_FLUSH_AGE_US (u : Nat) : Fld := ⟨capBase u + 0x8, 0, 16⟩
abbrev CAP_ECHO_UNMATCHED (u : Nat) : Fld := ⟨capBase u + 0xC, 16, 16⟩
abbrev CAP_ECHO_AHEAD (u : Nat) : Fld := ⟨capBase u + 0xC, 8, 8⟩
abbrev CAP_ECHO_FULL (u : Nat) : Fld := ⟨capBase u + 0xC, 0, 8⟩
abbrev CAP_FILL_PEAK_KIB (u : Nat) : Fld := ⟨capBase u + 0x10, 16, 10⟩
abbrev CAP_FILL_FILL_KIB (u : Nat) : Fld := ⟨capBase u + 0x10, 0, 10⟩
abbrev CAP_QUEUE_PEAK (u : Nat) : Fld := ⟨capBase u + 0x14, 16, 10⟩
abbrev CAP_QUEUE_DEPTH (u : Nat) : Fld := ⟨capBase u + 0x14, 0, 10⟩
abbrev CAP_RC_DUMP_LO_ADDR (u : Nat) : Fld := ⟨capBase u + 0x18, 6, 26⟩
abbrev CAP_RC_DUMP_HI_ADDR (u : Nat) : Fld := ⟨capBase u + 0x1C, 0, 4⟩
abbrev CAP_RC_IDX_PART (u : Nat) : Fld := ⟨capBase u + 0x20, 16, 4⟩
abbrev CAP_RC_IDX_INDEX (u : Nat) : Fld := ⟨capBase u + 0x20, 0, 16⟩
abbrev CAP_RC_DATA_ODD (u : Nat) : Fld := ⟨capBase u + 0x24, 16, 16⟩
abbrev CAP_RC_DATA_EVEN (u : Nat) : Fld := ⟨capBase u + 0x24, 0, 16⟩
abbrev CAP_PART_RC_LOST (u : Nat) (n : Nat) : Fld := ⟨capBase u + 0x400 + 0x40 * n, 9, 1⟩
abbrev CAP_PART_RC_DISTINCT (u : Nat) (n : Nat) : Fld := ⟨capBase u + 0x400 + 0x40 * n, 8, 1⟩
abbrev CAP_PART_MAP_CLEAN (u : Nat) (n : Nat) : Fld := ⟨capBase u + 0x400 + 0x40 * n, 7, 1⟩
abbrev CAP_PART_GAP (u : Nat) (n : Nat) : Fld := ⟨capBase u + 0x400 + 0x40 * n, 4, 1⟩
abbrev CAP_PART_MAP_LOST (u : Nat) (n : Nat) : Fld := ⟨capBase u + 0x400 + 0x40 * n, 3, 1⟩
abbrev CAP_PART_MAP_INCOMPLETE (u : Nat) (n : Nat) : Fld := ⟨capBase u + 0x400 + 0x40 * n, 2, 1⟩
abbrev CAP_PART_DROP_SEEN (u : Nat) (n : Nat) : Fld := ⟨capBase u + 0x400 + 0x40 * n, 1, 1⟩
abbrev CAP_PART_SERVED (u : Nat) (n : Nat) : Fld := ⟨capBase u + 0x400 + 0x40 * n, 0, 1⟩
abbrev CAP_PART_CLOSED (u : Nat) (n : Nat) : Fld := ⟨capBase u + 0x400 + 0x40 * n + 0x4, 16, 16⟩
abbrev CAP_PART_DROPPED (u : Nat) (n : Nat) : Fld := ⟨capBase u + 0x400 + 0x40 * n + 0x4, 0, 16⟩
abbrev CAP_PART_LOG_WR (u : Nat) (n : Nat) : Fld := ⟨capBase u + 0x400 + 0x40 * n + 0x8, 0, 32⟩
abbrev CAP_PART_LOG_RD (u : Nat) (n : Nat) : Fld := ⟨capBase u + 0x400 + 0x40 * n + 0xC, 0, 32⟩
abbrev CAP_PART_NREC (u : Nat) (n : Nat) : Fld := ⟨capBase u + 0x400 + 0x40 * n + 0x10, 0, 24⟩
abbrev CAP_PART_INC_FIRST_LO (u : Nat) (n : Nat) : Fld := ⟨capBase u + 0x400 + 0x40 * n + 0x14, 0, 32⟩
abbrev CAP_PART_INC_LAST_LO (u : Nat) (n : Nat) : Fld := ⟨capBase u + 0x400 + 0x40 * n + 0x18, 0, 32⟩
abbrev CAP_PART_INC_LAST_HI (u : Nat) (n : Nat) : Fld := ⟨capBase u + 0x400 + 0x40 * n + 0x1C, 16, 16⟩
abbrev CAP_PART_INC_FIRST_HI (u : Nat) (n : Nat) : Fld := ⟨capBase u + 0x400 + 0x40 * n + 0x1C, 0, 16⟩
abbrev CAP_PART_GAP_FIRST_LO (u : Nat) (n : Nat) : Fld := ⟨capBase u + 0x400 + 0x40 * n + 0x20, 0, 32⟩
abbrev CAP_PART_GAP_LAST_LO (u : Nat) (n : Nat) : Fld := ⟨capBase u + 0x400 + 0x40 * n + 0x24, 0, 32⟩
abbrev CAP_PART_GAP_LAST_HI (u : Nat) (n : Nat) : Fld := ⟨capBase u + 0x400 + 0x40 * n + 0x28, 16, 16⟩
abbrev CAP_PART_GAP_FIRST_HI (u : Nat) (n : Nat) : Fld := ⟨capBase u + 0x400 + 0x40 * n + 0x28, 0, 16⟩
abbrev CAP_PART_LOST_ADDR_LO (u : Nat) (n : Nat) : Fld := ⟨capBase u + 0x400 + 0x40 * n + 0x2C, 0, 32⟩
abbrev CAP_PART_LOST_ADDR_HI (u : Nat) (n : Nat) : Fld := ⟨capBase u + 0x400 + 0x40 * n + 0x30, 0, 4⟩
abbrev CAP_LANE_NOSAMPLE (u : Nat) (n : Nat) : Fld := ⟨capBase u + 0x100 + 4 * n, 16, 16⟩
abbrev CAP_LANE_DISCARD (u : Nat) (n : Nat) : Fld := ⟨capBase u + 0x100 + 4 * n, 0, 16⟩
abbrev CAP_PINCNT_FAILS (u : Nat) (n : Nat) : Fld := ⟨capBase u + 0x1000 + 4 * n, 0, 32⟩
abbrev MC_STATE_LOGICAL (c : Nat) : Fld := ⟨0x400000 + 0x1000 * c, 24, 6⟩
abbrev MC_STATE_TRIP (c : Nat) : Fld := ⟨0x400000 + 0x1000 * c, 11, 1⟩
abbrev MC_STATE_THROTTLE (c : Nat) : Fld := ⟨0x400000 + 0x1000 * c, 10, 1⟩
abbrev MC_STATE_OVER_RANGE (c : Nat) : Fld := ⟨0x400000 + 0x1000 * c, 9, 1⟩
abbrev MC_STATE_HOT (c : Nat) : Fld := ⟨0x400000 + 0x1000 * c, 8, 1⟩
abbrev MC_STATE_SELFREF (c : Nat) : Fld := ⟨0x400000 + 0x1000 * c, 5, 1⟩
abbrev MC_STATE_WINDOW (c : Nat) : Fld := ⟨0x400000 + 0x1000 * c, 4, 1⟩
abbrev MC_STATE_PREPARED (c : Nat) : Fld := ⟨0x400000 + 0x1000 * c, 3, 1⟩
abbrev MC_STATE_STATE (c : Nat) : Fld := ⟨0x400000 + 0x1000 * c, 0, 3⟩
abbrev MC_TEMP_EFFECTIVE (c : Nat) : Fld := ⟨0x400000 + 0x1000 * c + 0x4, 16, 12⟩
abbrev MC_TEMP_READ_FAIL (c : Nat) : Fld := ⟨0x400000 + 0x1000 * c + 0x4, 12, 1⟩
abbrev MC_TEMP_READ (c : Nat) : Fld := ⟨0x400000 + 0x1000 * c + 0x4, 0, 12⟩
abbrev MC_REF_STAT_DEBT_NOW (c : Nat) : Fld := ⟨0x400000 + 0x1000 * c + 0x8, 28, 4⟩
abbrev MC_REF_STAT_DEBT_MAX (c : Nat) : Fld := ⟨0x400000 + 0x1000 * c + 0x8, 24, 4⟩
abbrev MC_REF_STAT_FORCED (c : Nat) : Fld := ⟨0x400000 + 0x1000 * c + 0x8, 12, 12⟩
abbrev MC_REF_STAT_POSTPONED (c : Nat) : Fld := ⟨0x400000 + 0x1000 * c + 0x8, 0, 12⟩
abbrev MC_HOTCNT_TO_HOT (c : Nat) : Fld := ⟨0x400000 + 0x1000 * c + 0xC, 16, 16⟩
abbrev MC_HOTCNT_TO_BASE (c : Nat) : Fld := ⟨0x400000 + 0x1000 * c + 0xC, 0, 16⟩
abbrev MC_RAM_TNR (c : Nat) : Fld := ⟨0x400000 + 0x1000 * c + 0x10, 16, 16⟩
abbrev MC_RAM_LAST_PC (c : Nat) : Fld := ⟨0x400000 + 0x1000 * c + 0x14, 20, 1⟩
abbrev MC_RAM_LAST_BANK (c : Nat) : Fld := ⟨0x400000 + 0x1000 * c + 0x14, 15, 5⟩
abbrev MC_RAM_LAST_ROW (c : Nat) : Fld := ⟨0x400000 + 0x1000 * c + 0x14, 0, 15⟩
abbrev MC_QUEUE_RQ_PEAK (c : Nat) : Fld := ⟨0x400000 + 0x1000 * c + 0x18, 24, 8⟩
abbrev MC_QUEUE_RQ_DEPTH (c : Nat) : Fld := ⟨0x400000 + 0x1000 * c + 0x18, 16, 8⟩
abbrev MC_QUEUE_WB_PEAK (c : Nat) : Fld := ⟨0x400000 + 0x1000 * c + 0x18, 8, 8⟩
abbrev MC_QUEUE_WB_DEPTH (c : Nat) : Fld := ⟨0x400000 + 0x1000 * c + 0x18, 0, 8⟩
abbrev MC_TRAFFIC_FORWARDED (c : Nat) : Fld := ⟨0x400000 + 0x1000 * c + 0x1C, 16, 16⟩
abbrev MC_TRAFFIC_PARTIAL (c : Nat) : Fld := ⟨0x400000 + 0x1000 * c + 0x1C, 0, 16⟩
abbrev MC_CHMAP_PHYS (l : Nat) : Fld := ⟨0x430000 + 4 * (l / 4), 8 * (l % 4), 6⟩
abbrev MC_CHMAP_COMMIT_COMMIT_ERR : Fld := ⟨0x430020, 1, 1⟩
abbrev MC_CHMAP_COMMIT_COMMIT : Fld := ⟨0x430020, 0, 1⟩
abbrev MC_CHMAP_GEN_GEN : Fld := ⟨0x430024, 0, 8⟩
abbrev BW_STATUS_LAT_ALARM : Fld := ⟨0x500000, 8, 8⟩
abbrev BW_STATUS_DIVERGED : Fld := ⟨0x500000, 2, 1⟩
abbrev BW_STATUS_ADMIT_COLD : Fld := ⟨0x500000, 1, 1⟩
abbrev BW_STATUS_ANY_REDUCED : Fld := ⟨0x500000, 0, 1⟩
abbrev BW_CLASSMAP_ALMANAC_CLASS : Fld := ⟨0x500004, 4, 3⟩
abbrev BW_CLASSMAP_HOSTDMA_CLASS : Fld := ⟨0x500004, 0, 3⟩
abbrev BW_COMMIT_COMMIT : Fld := ⟨0x500008, 0, 1⟩
abbrev BW_COMMIT_ERR_CAUSE : Fld := ⟨0x50000C, 16, 8⟩
abbrev BW_COMMIT_ERR_CLASS : Fld := ⟨0x50000C, 13, 3⟩
abbrev BW_COMMIT_ERR_CHANNEL : Fld := ⟨0x50000C, 8, 5⟩
abbrev BW_COMMIT_ERR_COMMIT_ERR : Fld := ⟨0x50000C, 0, 1⟩
abbrev BW_LAT_LIMIT_LIMIT (n : Nat) : Fld := ⟨0x500020 + 4 * n, 0, 24⟩
abbrev BW_REDUCED_CHANNELS (n : Nat) : Fld := ⟨0x500040 + 4 * n, 0, 32⟩
abbrev BW_BREACH_CHANNELS (n : Nat) : Fld := ⟨0x500060 + 4 * n, 0, 32⟩
abbrev BW_RSV_CAP (n : Nat) : Fld := ⟨0x501000 + 8 * n, 8, 8⟩
abbrev BW_RSV_RESERVE (n : Nat) : Fld := ⟨0x501000 + 8 * n, 0, 8⟩
abbrev BW_SHARE_SHARE (n : Nat) : Fld := ⟨0x501004 + 8 * n, 0, 16⟩
abbrev BW_EFF_EFFECTIVE (n : Nat) : Fld := ⟨0x502000 + 4 * n, 0, 16⟩
abbrev BW_LAT_MAX (n : Nat) : Fld := ⟨0x503000 + 4 * n, 0, 24⟩
abbrev MC_ECC_CFG_LB_PERIOD (c : Nat) : Fld := ⟨0x400000 + 0x1000 * c + 0x40, 16, 16⟩
abbrev MC_ECC_CFG_LB_LIMIT (c : Nat) : Fld := ⟨0x400000 + 0x1000 * c + 0x40, 0, 16⟩
abbrev MC_ECC_STAT_LB_COUNT (c : Nat) : Fld := ⟨0x400000 + 0x1000 * c + 0x44, 16, 16⟩
abbrev MC_ECC_STAT_LB_OVF (c : Nat) : Fld := ⟨0x400000 + 0x1000 * c + 0x44, 2, 1⟩
abbrev MC_ECC_STAT_UE (c : Nat) : Fld := ⟨0x400000 + 0x1000 * c + 0x44, 1, 1⟩
abbrev MC_ECC_STAT_CE (c : Nat) : Fld := ⟨0x400000 + 0x1000 * c + 0x44, 0, 1⟩
abbrev MC_ECC_CNT_CORR (c : Nat) : Fld := ⟨0x400000 + 0x1000 * c + 0x48, 16, 16⟩
abbrev MC_ECC_CNT_UNCORR (c : Nat) : Fld := ⟨0x400000 + 0x1000 * c + 0x48, 8, 8⟩
abbrev MC_ECC_CNT_WB_SKIPPED (c : Nat) : Fld := ⟨0x400000 + 0x1000 * c + 0x48, 0, 8⟩
abbrev MC_ECC_LAST_SYMBOL (c : Nat) : Fld := ⟨0x400000 + 0x1000 * c + 0x4C, 26, 6⟩
abbrev MC_ECC_LAST_GRANULE (c : Nat) : Fld := ⟨0x400000 + 0x1000 * c + 0x4C, 0, 25⟩
abbrev MC_ECC_UE_ADDR_VALID (c : Nat) : Fld := ⟨0x400000 + 0x1000 * c + 0x50, 31, 1⟩
abbrev MC_ECC_UE_ADDR_GRANULE (c : Nat) : Fld := ⟨0x400000 + 0x1000 * c + 0x50, 0, 25⟩
abbrev MC_ECC_SYMHOT_SYM1 (c : Nat) : Fld := ⟨0x400000 + 0x1000 * c + 0x54, 26, 6⟩
abbrev MC_ECC_SYMHOT_CNT1 (c : Nat) : Fld := ⟨0x400000 + 0x1000 * c + 0x54, 16, 10⟩
abbrev MC_ECC_SYMHOT_SYM0 (c : Nat) : Fld := ⟨0x400000 + 0x1000 * c + 0x54, 10, 6⟩
abbrev MC_ECC_SYMHOT_CNT0 (c : Nat) : Fld := ⟨0x400000 + 0x1000 * c + 0x54, 0, 10⟩
abbrev MC_ECC_DQSUS_VALID1 (c : Nat) : Fld := ⟨0x400000 + 0x1000 * c + 0x58, 15, 1⟩
abbrev MC_ECC_DQSUS_SYM1 (c : Nat) : Fld := ⟨0x400000 + 0x1000 * c + 0x58, 9, 6⟩
abbrev MC_ECC_DQSUS_VALID0 (c : Nat) : Fld := ⟨0x400000 + 0x1000 * c + 0x58, 7, 1⟩
abbrev MC_ECC_DQSUS_SYM0 (c : Nat) : Fld := ⟨0x400000 + 0x1000 * c + 0x58, 1, 6⟩
abbrev MC_ECC_FLIP_SYM_ODD (c : Nat) (n : Nat) : Fld := ⟨0x400000 + 0x1000 * c + 0x80 + 4 * n, 16, 16⟩
abbrev MC_ECC_FLIP_SYM_EVEN (c : Nat) (n : Nat) : Fld := ⟨0x400000 + 0x1000 * c + 0x80 + 4 * n, 0, 16⟩
abbrev MC_ECC_FLIP_CTRL_DONE (c : Nat) : Fld := ⟨0x400000 + 0x1000 * c + 0xC8, 9, 1⟩
abbrev MC_ECC_FLIP_CTRL_ARMED (c : Nat) : Fld := ⟨0x400000 + 0x1000 * c + 0xC8, 8, 1⟩
abbrev MC_ECC_FLIP_CTRL_PCSEL (c : Nat) : Fld := ⟨0x400000 + 0x1000 * c + 0xC8, 2, 2⟩
abbrev MC_ECC_FLIP_CTRL_DISARM (c : Nat) : Fld := ⟨0x400000 + 0x1000 * c + 0xC8, 1, 1⟩
abbrev MC_ECC_FLIP_CTRL_ARM (c : Nat) : Fld := ⟨0x400000 + 0x1000 * c + 0xC8, 0, 1⟩
abbrev MC_ECC_FLIP_ADDR_GRANULE (c : Nat) : Fld := ⟨0x400000 + 0x1000 * c + 0xCC, 0, 25⟩
abbrev MC_REMAP_VALID (c : Nat) (n : Nat) : Fld := ⟨0x400000 + 0x1000 * c + 0x100 + 4 * n, 31, 1⟩
abbrev MC_REMAP_GRANULE (c : Nat) (n : Nat) : Fld := ⟨0x400000 + 0x1000 * c + 0x100 + 4 * n, 0, 25⟩
abbrev MC_REMAP_CTRL_USED (c : Nat) : Fld := ⟨0x400000 + 0x1000 * c + 0x140, 16, 5⟩
abbrev MC_REMAP_CTRL_ENTRY (c : Nat) : Fld := ⟨0x400000 + 0x1000 * c + 0x140, 12, 4⟩
abbrev MC_REMAP_CTRL_CAUSE (c : Nat) : Fld := ⟨0x400000 + 0x1000 * c + 0x140, 8, 4⟩
abbrev MC_REMAP_CTRL_AUTO (c : Nat) : Fld := ⟨0x400000 + 0x1000 * c + 0x140, 2, 1⟩
abbrev MC_REMAP_CTRL_COMMIT_ERR (c : Nat) : Fld := ⟨0x400000 + 0x1000 * c + 0x140, 1, 1⟩
abbrev MC_REMAP_CTRL_COMMIT (c : Nat) : Fld := ⟨0x400000 + 0x1000 * c + 0x140, 0, 1⟩
abbrev MC_REMAP_STAT_HITS (c : Nat) : Fld := ⟨0x400000 + 0x1000 * c + 0x144, 16, 16⟩
abbrev MC_REMAP_STAT_WANTED (c : Nat) : Fld := ⟨0x400000 + 0x1000 * c + 0x144, 1, 1⟩
abbrev MC_REMAP_STAT_FULL (c : Nat) : Fld := ⟨0x400000 + 0x1000 * c + 0x144, 0, 1⟩
abbrev MC_ROWREP_USED (c : Nat) : Fld := ⟨0x400000 + 0x1000 * c + 0x148, 16, 11⟩
abbrev MC_ROWREP_BANKS_FULL (c : Nat) : Fld := ⟨0x400000 + 0x1000 * c + 0x148, 8, 7⟩
abbrev MC_ROWREP_PENDING (c : Nat) : Fld := ⟨0x400000 + 0x1000 * c + 0x148, 0, 1⟩
abbrev MC_TRN_CTRL_FULL (c : Nat) : Fld := ⟨0x400000 + 0x1000 * c + 0x200, 1, 1⟩
abbrev MC_TRN_CTRL_REQ (c : Nat) : Fld := ⟨0x400000 + 0x1000 * c + 0x200, 0, 1⟩
abbrev MC_TRN_CFG_PERIOD_S (c : Nat) : Fld := ⟨0x400000 + 0x1000 * c + 0x204, 16, 16⟩
abbrev MC_TRN_CFG_OVERDUE_S (c : Nat) : Fld := ⟨0x400000 + 0x1000 * c + 0x204, 8, 8⟩
abbrev MC_TRN_CFG_TEMP_DELTA (c : Nat) : Fld := ⟨0x400000 + 0x1000 * c + 0x204, 4, 4⟩
abbrev MC_TRN_CFG_MIN_WIN (c : Nat) : Fld := ⟨0x400000 + 0x1000 * c + 0x204, 0, 4⟩
abbrev MC_TRN_STAT_FAIL (c : Nat) : Fld := ⟨0x400000 + 0x1000 * c + 0x208, 7, 1⟩
abbrev MC_TRN_STAT_OVERDUE (c : Nat) : Fld := ⟨0x400000 + 0x1000 * c + 0x208, 6, 1⟩
abbrev MC_TRN_STAT_ESCALATED (c : Nat) : Fld := ⟨0x400000 + 0x1000 * c + 0x208, 5, 1⟩
abbrev MC_TRN_STAT_RUNNING (c : Nat) : Fld := ⟨0x400000 + 0x1000 * c + 0x208, 4, 1⟩
abbrev MC_TRN_STAT_DUE (c : Nat) : Fld := ⟨0x400000 + 0x1000 * c + 0x208, 3, 1⟩
abbrev MC_TRN_STAT_LAST_KIND (c : Nat) : Fld := ⟨0x400000 + 0x1000 * c + 0x208, 0, 2⟩
abbrev MC_TRN_WORST_WIN1 (c : Nat) : Fld := ⟨0x400000 + 0x1000 * c + 0x20C, 24, 8⟩
abbrev MC_TRN_WORST_DQ1 (c : Nat) : Fld := ⟨0x400000 + 0x1000 * c + 0x20C, 16, 6⟩
abbrev MC_TRN_WORST_WIN0 (c : Nat) : Fld := ⟨0x400000 + 0x1000 * c + 0x20C, 8, 8⟩
abbrev MC_TRN_WORST_DQ0 (c : Nat) : Fld := ⟨0x400000 + 0x1000 * c + 0x20C, 0, 6⟩
abbrev MC_TRN_CA_WIDTH (c : Nat) : Fld := ⟨0x400000 + 0x1000 * c + 0x210, 8, 8⟩
abbrev MC_TRN_CA_CENTER (c : Nat) : Fld := ⟨0x400000 + 0x1000 * c + 0x210, 0, 8⟩
abbrev MC_TRN_AGE_SECONDS (c : Nat) : Fld := ⟨0x400000 + 0x1000 * c + 0x214, 12, 20⟩
abbrev MC_TRN_AGE_TEMP (c : Nat) : Fld := ⟨0x400000 + 0x1000 * c + 0x214, 0, 12⟩
abbrev MC_TRN_DQWIN_STRESS (c : Nat) (n : Nat) : Fld := ⟨0x400000 + 0x1000 * c + 0x280 + 4 * n, 31, 1⟩
abbrev MC_TRN_DQWIN_WR_WIDTH (c : Nat) (n : Nat) : Fld := ⟨0x400000 + 0x1000 * c + 0x280 + 4 * n, 24, 7⟩
abbrev MC_TRN_DQWIN_WR_CENTER (c : Nat) (n : Nat) : Fld := ⟨0x400000 + 0x1000 * c + 0x280 + 4 * n, 16, 7⟩
abbrev MC_TRN_DQWIN_RD_WIDTH (c : Nat) (n : Nat) : Fld := ⟨0x400000 + 0x1000 * c + 0x280 + 4 * n, 8, 7⟩
abbrev MC_TRN_DQWIN_RD_CENTER (c : Nat) (n : Nat) : Fld := ⟨0x400000 + 0x1000 * c + 0x280 + 4 * n, 0, 7⟩
abbrev MC_TSV_DQ_REP1_PC1 (c : Nat) : Fld := ⟨0x400000 + 0x1000 * c + 0x220, 24, 6⟩
abbrev MC_TSV_DQ_REP0_PC1 (c : Nat) : Fld := ⟨0x400000 + 0x1000 * c + 0x220, 16, 6⟩
abbrev MC_TSV_DQ_REP1_PC0 (c : Nat) : Fld := ⟨0x400000 + 0x1000 * c + 0x220, 8, 6⟩
abbrev MC_TSV_DQ_REP0_PC0 (c : Nat) : Fld := ⟨0x400000 + 0x1000 * c + 0x220, 0, 6⟩
abbrev MC_TSV_CA_REP (c : Nat) : Fld := ⟨0x400000 + 0x1000 * c + 0x224, 0, 4⟩
abbrev MC_TSV_STAT_REPAIRS (c : Nat) : Fld := ⟨0x400000 + 0x1000 * c + 0x228, 16, 16⟩
abbrev MC_TSV_STAT_CA_EXH (c : Nat) : Fld := ⟨0x400000 + 0x1000 * c + 0x228, 2, 1⟩
abbrev MC_TSV_STAT_DQ_EXH1 (c : Nat) : Fld := ⟨0x400000 + 0x1000 * c + 0x228, 1, 1⟩
abbrev MC_TSV_STAT_DQ_EXH0 (c : Nat) : Fld := ⟨0x400000 + 0x1000 * c + 0x228, 0, 1⟩
abbrev MC_MIG_PTR_ACTIVE (c : Nat) : Fld := ⟨0x400000 + 0x1000 * c + 0x230, 31, 1⟩
abbrev MC_MIG_PTR_POINTER (c : Nat) : Fld := ⟨0x400000 + 0x1000 * c + 0x230, 0, 25⟩
abbrev MC_MIG_LOST_COUNT (c : Nat) : Fld := ⟨0x400000 + 0x1000 * c + 0x234, 0, 32⟩
abbrev MC_MIG_LOSTFIRST_GRANULE (c : Nat) : Fld := ⟨0x400000 + 0x1000 * c + 0x238, 0, 25⟩
abbrev MC_LAYER_CTRL_SUBST : Fld := ⟨0x430030, 8, 1⟩
abbrev MC_LAYER_CTRL_LAYER : Fld := ⟨0x430030, 0, 5⟩
abbrev MC_LAYER_STAT_DONE : Fld := ⟨0x430034, 12, 1⟩
abbrev MC_LAYER_STAT_REFUSED : Fld := ⟨0x430034, 11, 1⟩
abbrev MC_LAYER_STAT_MIGRATING : Fld := ⟨0x430034, 10, 1⟩
abbrev MC_LAYER_STAT_SPARE_BAD : Fld := ⟨0x430034, 9, 1⟩
abbrev MC_LAYER_STAT_SPARE_FREE : Fld := ⟨0x430034, 8, 1⟩
abbrev MC_LAYER_STAT_SUBST_FROM : Fld := ⟨0x430034, 0, 5⟩
abbrev HLINK_STATUS_WIDTH : Fld := ⟨0x300000, 16, 4⟩
abbrev HLINK_STATUS_SPARE_RX_USED : Fld := ⟨0x300000, 11, 1⟩
abbrev HLINK_STATUS_SPARE_TX_USED : Fld := ⟨0x300000, 10, 1⟩
abbrev HLINK_STATUS_STATE : Fld := ⟨0x300000, 8, 2⟩
abbrev HLINK_STATUS_ATTEMPTS : Fld := ⟨0x300000, 4, 4⟩
abbrev HLINK_STATUS_CUBE_ID : Fld := ⟨0x300000, 0, 3⟩
abbrev HLINK_CTRL_RETRAIN : Fld := ⟨0x300004, 7, 1⟩
abbrev HLINK_CTRL_FRESH : Fld := ⟨0x300004, 6, 1⟩
abbrev HLINK_CTRL_MOLT_TX : Fld := ⟨0x300004, 5, 1⟩
abbrev HLINK_CTRL_MOLT_RX : Fld := ⟨0x300004, 4, 1⟩
abbrev HLINK_CTRL_LANE : Fld := ⟨0x300004, 0, 3⟩
abbrev HLINK_CFG_ERR_WINDOW_US : Fld := ⟨0x300008, 16, 16⟩
abbrev HLINK_CFG_REPLAY_TO : Fld := ⟨0x300008, 8, 8⟩
abbrev HLINK_CFG_ERR_LIMIT : Fld := ⟨0x300008, 0, 8⟩
abbrev HLINK_REPLAY_SENT : Fld := ⟨0x30000C, 16, 16⟩
abbrev HLINK_REPLAY_REQUESTED : Fld := ⟨0x30000C, 0, 16⟩
abbrev HLINK_DROP_CRC : Fld := ⟨0x300010, 24, 8⟩
abbrev HLINK_DROP_CUBE_ID : Fld := ⟨0x300010, 16, 8⟩
abbrev HLINK_DROP_PROTOCOL : Fld := ⟨0x300010, 8, 8⟩
abbrev HLINK_DROP_CREDIT : Fld := ⟨0x300010, 0, 8⟩
abbrev HLINK_DMA_HALTED : Fld := ⟨0x300014, 31, 1⟩
abbrev HLINK_DMA_RESUME : Fld := ⟨0x300014, 30, 1⟩
abbrev HLINK_DMA_CAUSE : Fld := ⟨0x300014, 8, 8⟩
abbrev HLINK_DMA_POSTED_DROPPED : Fld := ⟨0x300014, 0, 8⟩
abbrev HLINK_DMA_ADDR_LO_ADDR : Fld := ⟨0x300018, 0, 32⟩
abbrev HLINK_DMA_ADDR_HI_ADDR : Fld := ⟨0x30001C, 0, 4⟩
abbrev HLINK_EVQ_LOST : Fld := ⟨0x300020, 16, 16⟩
abbrev HLINK_EVQ_DEPTH : Fld := ⟨0x300020, 0, 9⟩
abbrev HLINK_EVENT_DMA_HALT : Fld := ⟨0x300024, 9, 1⟩
abbrev HLINK_EVENT_PROTOCOL : Fld := ⟨0x300024, 8, 1⟩
abbrev HLINK_EVENT_POSTED_ERR : Fld := ⟨0x300024, 7, 1⟩
abbrev HLINK_EVENT_ID_MISMATCH : Fld := ⟨0x300024, 6, 1⟩
abbrev HLINK_EVENT_FRESH : Fld := ⟨0x300024, 5, 1⟩
abbrev HLINK_EVENT_REPLAY_STORM : Fld := ⟨0x300024, 4, 1⟩
abbrev HLINK_EVENT_WIDTH_CHANGE : Fld := ⟨0x300024, 3, 1⟩
abbrev HLINK_EVENT_MOLT : Fld := ⟨0x300024, 2, 1⟩
abbrev HLINK_EVENT_DOWN : Fld := ⟨0x300024, 1, 1⟩
abbrev HLINK_EVENT_UP : Fld := ⟨0x300024, 0, 1⟩
abbrev HLINK_PEER_CRED_VC3 : Fld := ⟨0x300028, 16, 16⟩
abbrev HLINK_PEER_CRED_VC2 : Fld := ⟨0x300028, 0, 16⟩
abbrev HLINK_LANE_LOG_RX (n : Nat) : Fld := ⟨0x300100 + 4 * n, 24, 8⟩
abbrev HLINK_LANE_LOG_TX (n : Nat) : Fld := ⟨0x300100 + 4 * n, 16, 8⟩
abbrev HLINK_LANE_RX_STATE (n : Nat) : Fld := ⟨0x300100 + 4 * n, 12, 4⟩
abbrev HLINK_LANE_TX_STATE (n : Nat) : Fld := ⟨0x300100 + 4 * n, 8, 4⟩
abbrev HLINK_LANE_ERR (n : Nat) : Fld := ⟨0x300100 + 4 * n, 0, 8⟩
abbrev FUSE_STATUS_SEAL_FAIL : Fld := ⟨0x700000, 24, 8⟩
abbrev FUSE_STATUS_BLANK : Fld := ⟨0x700000, 16, 8⟩
abbrev FUSE_STATUS_MARGINAL : Fld := ⟨0x700000, 8, 8⟩
abbrev FUSE_STATUS_P_FAIL : Fld := ⟨0x700000, 7, 1⟩
abbrev FUSE_STATUS_T_FAIL : Fld := ⟨0x700000, 6, 1⟩
abbrev FUSE_STATUS_LOCK_MARGINAL : Fld := ⟨0x700000, 5, 1⟩
abbrev FUSE_STATUS_OVERRIDE : Fld := ⟨0x700000, 4, 1⟩
abbrev FUSE_STATUS_PGM_BUSY : Fld := ⟨0x700000, 3, 1⟩
abbrev FUSE_STATUS_UNPERSONALIZED : Fld := ⟨0x700000, 2, 1⟩
abbrev FUSE_STATUS_SENSED : Fld := ⟨0x700000, 0, 1⟩
abbrev FUSE_LOCKS_IN_EFFECT : Fld := ⟨0x700004, 8, 8⟩
abbrev FUSE_LOCKS_READ : Fld := ⟨0x700004, 0, 8⟩
abbrev FUSE_LIMITS_EXHAUSTED : Fld := ⟨0x700008, 31, 1⟩
abbrev FUSE_LIMITS_ARB_BAD : Fld := ⟨0x700008, 30, 1⟩
abbrev FUSE_LIMITS_ID_BAD : Fld := ⟨0x700008, 29, 1⟩
abbrev FUSE_LIMITS_ID_SLOTS_USED : Fld := ⟨0x700008, 20, 3⟩
abbrev FUSE_LIMITS_ID_OVR_VALID : Fld := ⟨0x700008, 19, 1⟩
abbrev FUSE_LIMITS_ID_OVR : Fld := ⟨0x700008, 16, 3⟩
abbrev FUSE_LIMITS_KEY_REVOKED : Fld := ⟨0x700008, 12, 3⟩
abbrev FUSE_LIMITS_SB_FW_UPDATE : Fld := ⟨0x700008, 10, 1⟩
abbrev FUSE_LIMITS_SIGN_REQUIRED : Fld := ⟨0x700008, 9, 1⟩
abbrev FUSE_LIMITS_FACTORY_LOCK : Fld := ⟨0x700008, 8, 1⟩
abbrev FUSE_LIMITS_ARB_VERSION : Fld := ⟨0x700008, 0, 7⟩
abbrev FUSE_PGM_ADDR_SETTING : Fld := ⟨0x700010, 8, 4⟩
abbrev FUSE_PGM_ADDR_TARGET : Fld := ⟨0x700010, 7, 1⟩
abbrev FUSE_PGM_ADDR_WORD : Fld := ⟨0x700010, 0, 7⟩
abbrev FUSE_PGM_DATA_DATA : Fld := ⟨0x700014, 0, 32⟩
abbrev FUSE_PGM_CMD_OP : Fld := ⟨0x700018, 0, 4⟩
abbrev FUSE_PGM_STAT_PULSES : Fld := ⟨0x70001C, 16, 4⟩
abbrev FUSE_PGM_STAT_BUSY_SEEN : Fld := ⟨0x70001C, 10, 1⟩
abbrev FUSE_PGM_STAT_ERR : Fld := ⟨0x70001C, 9, 1⟩
abbrev FUSE_PGM_STAT_DONE : Fld := ⟨0x70001C, 8, 1⟩
abbrev FUSE_PGM_STAT_CODE : Fld := ⟨0x70001C, 0, 8⟩
abbrev FUSE_OVR_HOLD : Fld := ⟨0x700020, 1, 1⟩
abbrev FUSE_OVR_ENABLE : Fld := ⟨0x700020, 0, 1⟩
abbrev FUSE_MARGINAL_WORDS (n : Nat) : Fld := ⟨0x700040 + 4 * n, 0, 32⟩
abbrev FUSE_SHADOW_VALUE (n : Nat) : Fld := ⟨0x700100 + 4 * n, 0, 32⟩
abbrev FUSE_ARRAY_VALUE (n : Nat) : Fld := ⟨0x700300 + 4 * n, 0, 32⟩
abbrev FUSE_TIGHT_VALUE (n : Nat) : Fld := ⟨0x700500 + 4 * n, 0, 32⟩
abbrev CLKPWR_STATUS_RAIL_DEGRADED : Fld := ⟨0x800000, 15, 1⟩
abbrev CLKPWR_STATUS_HKCK_ROSC : Fld := ⟨0x800000, 14, 1⟩
abbrev CLKPWR_STATUS_ALM_ROSC : Fld := ⟨0x800000, 13, 1⟩
abbrev CLKPWR_STATUS_PAUSED : Fld := ⟨0x800000, 12, 1⟩
abbrev CLKPWR_STATUS_HCK_LOST : Fld := ⟨0x800000, 9, 1⟩
abbrev CLKPWR_STATUS_SWITCHING : Fld := ⟨0x800000, 8, 1⟩
abbrev CLKPWR_STATUS_STANDBY_OK : Fld := ⟨0x800000, 5, 1⟩
abbrev CLKPWR_STATUS_PRIMARY : Fld := ⟨0x800000, 4, 1⟩
abbrev CLKPWR_STATUS_PLL1_RETIRED : Fld := ⟨0x800000, 3, 1⟩
abbrev CLKPWR_STATUS_PLL0_RETIRED : Fld := ⟨0x800000, 2, 1⟩
abbrev CLKPWR_STATUS_PLL1_LOCK : Fld := ⟨0x800000, 1, 1⟩
abbrev CLKPWR_STATUS_PLL0_LOCK : Fld := ⟨0x800000, 0, 1⟩
abbrev CLKPWR_NMI_ALERT : Fld := ⟨0x800004, 7, 1⟩
abbrev CLKPWR_NMI_T_FAIL : Fld := ⟨0x800004, 3, 1⟩
abbrev CLKPWR_NMI_RAIL_FAULT : Fld := ⟨0x800004, 2, 1⟩
abbrev CLKPWR_NMI_THERMAL_TRIP : Fld := ⟨0x800004, 1, 1⟩
abbrev CLKPWR_NMI_HCK_LOST : Fld := ⟨0x800004, 0, 1⟩
abbrev CLKPWR_MON_EXPECTED : Fld := ⟨0x800008, 16, 16⟩
abbrev CLKPWR_MON_LAST : Fld := ⟨0x800008, 0, 16⟩
abbrev CLKPWR_COUNT_SWITCHOVERS : Fld := ⟨0x80000C, 24, 8⟩
abbrev CLKPWR_COUNT_LOSSES : Fld := ⟨0x80000C, 16, 8⟩
abbrev CLKPWR_COUNT_BAD_WINDOWS : Fld := ⟨0x80000C, 8, 8⟩
abbrev CLKPWR_COUNT_PHASE_MOLTS : Fld := ⟨0x80000C, 0, 8⟩
abbrev CLKPWR_CFG_RESUME_WINDOWS : Fld := ⟨0x800010, 0, 8⟩
abbrev CLKPWR_GATE_COMMIT_ERR_BLOCK : Fld := ⟨0x800020, 16, 10⟩
abbrev CLKPWR_GATE_COMMIT_CAUSE : Fld := ⟨0x800020, 8, 4⟩
abbrev CLKPWR_GATE_COMMIT_DIVERGED : Fld := ⟨0x800020, 4, 1⟩
abbrev CLKPWR_GATE_COMMIT_COMMIT_ERR : Fld := ⟨0x800020, 3, 1⟩
abbrev CLKPWR_GATE_COMMIT_RETRY : Fld := ⟨0x800020, 2, 1⟩
abbrev CLKPWR_GATE_COMMIT_FORCE : Fld := ⟨0x800020, 1, 1⟩
abbrev CLKPWR_GATE_COMMIT_COMMIT : Fld := ⟨0x800020, 0, 1⟩
abbrev CLKPWR_GATE_STAT_REFUSED : Fld := ⟨0x800024, 24, 8⟩
abbrev CLKPWR_GATE_STAT_FORCED : Fld := ⟨0x800024, 16, 8⟩
abbrev CLKPWR_GATE_STAT_WAKES : Fld := ⟨0x800024, 8, 8⟩
abbrev CLKPWR_GATE_STAT_GATE_REFUSED : Fld := ⟨0x800024, 0, 1⟩
abbrev CLKPWR_GATE_WAITING (n : Nat) : Fld := ⟨0x801000 + 4 * n, 9, 1⟩
abbrev CLKPWR_GATE_GATED (n : Nat) : Fld := ⟨0x801000 + 4 * n, 8, 1⟩
abbrev CLKPWR_GATE_DEEP_EN (n : Nat) : Fld := ⟨0x801000 + 4 * n, 2, 1⟩
abbrev CLKPWR_GATE_SLEEP_EN (n : Nat) : Fld := ⟨0x801000 + 4 * n, 1, 1⟩
abbrev CLKPWR_GATE_RUN_EN (n : Nat) : Fld := ⟨0x801000 + 4 * n, 0, 1⟩
abbrev CLKPWR_RAIL_PHASES (n : Nat) : Fld := ⟨0x800100 + 4 * n, 24, 8⟩
abbrev CLKPWR_RAIL_MIN (n : Nat) : Fld := ⟨0x800100 + 4 * n, 20, 4⟩
abbrev CLKPWR_RAIL_FAULT (n : Nat) : Fld := ⟨0x800100 + 4 * n, 16, 1⟩
abbrev CLKPWR_RAIL_MV (n : Nat) : Fld := ⟨0x800100 + 4 * n, 0, 16⟩
abbrev CLKPWR_PHASE_STATE (n : Nat) : Fld := ⟨0x800200 + 4 * n, 30, 2⟩
abbrev CLKPWR_PHASE_RAIL (n : Nat) : Fld := ⟨0x800200 + 4 * n, 24, 3⟩
abbrev CLKPWR_PHASE_MA (n : Nat) : Fld := ⟨0x800200 + 4 * n, 0, 16⟩
abbrev ALM_STATUS_VERSION : Fld := ⟨0x900000, 16, 8⟩
abbrev ALM_STATUS_SLOT : Fld := ⟨0x900000, 4, 1⟩
abbrev ALM_STATUS_STATE : Fld := ⟨0x900000, 0, 3⟩
abbrev ALM_CMD_OP : Fld := ⟨0x900004, 0, 4⟩
abbrev ALM_FW_STAT_ERR : Fld := ⟨0x900008, 9, 1⟩
abbrev ALM_FW_STAT_DONE : Fld := ⟨0x900008, 8, 1⟩
abbrev ALM_FW_STAT_CODE : Fld := ⟨0x900008, 0, 8⟩
abbrev ALM_FW_OFFSET_BYTES : Fld := ⟨0x90000C, 0, 18⟩
abbrev ALM_FW_SRC_LO_ADDR : Fld := ⟨0x900010, 6, 26⟩
abbrev ALM_FW_SRC_HI_ADDR : Fld := ⟨0x900014, 0, 4⟩
abbrev ALM_FW_LEN_LEN : Fld := ⟨0x900018, 0, 21⟩
abbrev ALM_FW_ID_LO_ID : Fld := ⟨0x90001C, 0, 32⟩
abbrev ALM_FW_ID_HI_ID : Fld := ⟨0x900020, 0, 32⟩
abbrev ALM_FW_WIN_DATA : Fld := ⟨0x900040, 0, 32⟩
abbrev ALM_CAL_CTRL_STALE : Fld := ⟨0x900080, 12, 1⟩
abbrev ALM_CAL_CTRL_BUSY : Fld := ⟨0x900080, 11, 1⟩
abbrev ALM_CAL_CTRL_CAL_BAD : Fld := ⟨0x900080, 10, 1⟩
abbrev ALM_CAL_CTRL_DONE : Fld := ⟨0x900080, 9, 1⟩
abbrev ALM_CAL_CTRL_REQ : Fld := ⟨0x900080, 8, 1⟩
abbrev ALM_CAL_CTRL_RUNS : Fld := ⟨0x900080, 0, 8⟩
abbrev ALM_CAL_COEF_SLOPE (n : Nat) : Fld := ⟨0x900100 + 4 * n, 16, 16⟩
abbrev ALM_CAL_COEF_OFFSET (n : Nat) : Fld := ⟨0x900100 + 4 * n, 0, 16⟩
abbrev ALM_CAL_VCOEF_SLOPE (n : Nat) : Fld := ⟨0x900280 + 4 * n, 16, 16⟩
abbrev ALM_CAL_VCOEF_OFFSET (n : Nat) : Fld := ⟨0x900280 + 4 * n, 0, 16⟩
abbrev ALM_SITE_DISAGREE (n : Nat) : Fld := ⟨0x900300 + 4 * n, 19, 1⟩
abbrev ALM_SITE_STALE (n : Nat) : Fld := ⟨0x900300 + 4 * n, 18, 1⟩
abbrev ALM_SITE_PAIR (n : Nat) : Fld := ⟨0x900300 + 4 * n, 16, 2⟩
abbrev ALM_SITE_TEMP (n : Nat) : Fld := ⟨0x900300 + 4 * n, 0, 12⟩
abbrev ALM_LAYER_SUSPECT (n : Nat) : Fld := ⟨0x900400 + 4 * n, 31, 1⟩
abbrev ALM_LAYER_DELTA (n : Nat) : Fld := ⟨0x900400 + 4 * n, 16, 12⟩
abbrev ALM_LAYER_EST (n : Nat) : Fld := ⟨0x900400 + 4 * n, 0, 12⟩
abbrev ALM_LOG_NEXT : Fld := ⟨0x900480, 0, 32⟩
abbrev ALM_LOG_LOST_LOST : Fld := ⟨0x900484, 0, 16⟩
abbrev ALM_SB_I3C : Fld := ⟨0x900490, 16, 1⟩
abbrev ALM_SB_DYN_ADDR : Fld := ⟨0x900490, 8, 7⟩
abbrev ALM_SB_STATIC_ADDR : Fld := ⟨0x900490, 0, 7⟩
abbrev FAULT_STATUS_FENCED_NOW : Fld := ⟨0x600000, 8, 8⟩
abbrev FAULT_STATUS_CMD_REFUSED : Fld := ⟨0x600000, 1, 1⟩
abbrev FAULT_STATUS_OVERRUN : Fld := ⟨0x600000, 0, 1⟩
abbrev FAULT_CTRL_UNIT : Fld := ⟨0x600004, 16, 10⟩
abbrev FAULT_CTRL_RETIRE : Fld := ⟨0x600004, 2, 1⟩
abbrev FAULT_CTRL_UNFENCE : Fld := ⟨0x600004, 1, 1⟩
abbrev FAULT_CTRL_FENCE : Fld := ⟨0x600004, 0, 1⟩
abbrev FAULT_CFG_QUIET_US : Fld := ⟨0x600008, 12, 20⟩
abbrev FAULT_CFG_EVENT_MIN : Fld := ⟨0x600008, 0, 2⟩
abbrev FAULT_FE_STATUS_VALID : Fld := ⟨0x600010, 31, 1⟩
abbrev FAULT_FE_STATUS_ACCESS : Fld := ⟨0x600010, 28, 3⟩
abbrev FAULT_FE_STATUS_KIND : Fld := ⟨0x600010, 20, 8⟩
abbrev FAULT_FE_STATUS_SEVERITY : Fld := ⟨0x600010, 18, 2⟩
abbrev FAULT_FE_STATUS_REACTION : Fld := ⟨0x600010, 16, 2⟩
abbrev FAULT_FE_STATUS_SOURCE : Fld := ⟨0x600010, 0, 10⟩
abbrev FAULT_FE_ADDR_LO_ADDR : Fld := ⟨0x600014, 0, 32⟩
abbrev FAULT_FE_ADDR_HI_ADDR : Fld := ⟨0x600018, 0, 4⟩
abbrev FAULT_FE_MASTER_DETAIL : Fld := ⟨0x60001C, 16, 16⟩
abbrev FAULT_FE_MASTER_PORT : Fld := ⟨0x60001C, 10, 1⟩
abbrev FAULT_FE_MASTER_MASTER : Fld := ⟨0x60001C, 0, 10⟩
abbrev FAULT_FE_VT_LO_VT : Fld := ⟨0x600020, 0, 32⟩
abbrev FAULT_FE_VT_HI_VT : Fld := ⟨0x600024, 0, 16⟩
abbrev FAULT_FE_UPTIME_LO_UPTIME : Fld := ⟨0x600028, 0, 32⟩
abbrev FAULT_FE_UPTIME_HI_UPTIME : Fld := ⟨0x60002C, 0, 32⟩
abbrev FAULT_COUNT_LATER : Fld := ⟨0x600030, 16, 16⟩
abbrev FAULT_COUNT_TOTAL : Fld := ⟨0x600030, 0, 16⟩
abbrev FAULT_OVERRUN_COUNT : Fld := ⟨0x600034, 0, 16⟩
abbrev FAULT_PART_HEALTH (n : Nat) : Fld := ⟨0x600200 + 0x10 * n, 30, 2⟩
abbrev FAULT_PART_ALL_ALIVE (n : Nat) : Fld := ⟨0x600200 + 0x10 * n, 29, 1⟩
abbrev FAULT_PART_ACK (n : Nat) : Fld := ⟨0x600200 + 0x10 * n, 28, 1⟩
abbrev FAULT_PART_LAST_KIND (n : Nat) : Fld := ⟨0x600200 + 0x10 * n, 16, 8⟩
abbrev FAULT_PART_DATA_LOST (n : Nat) : Fld := ⟨0x600200 + 0x10 * n, 12, 1⟩
abbrev FAULT_PART_POLICY_STOP (n : Nat) : Fld := ⟨0x600200 + 0x10 * n, 0, 1⟩
abbrev FAULT_PART_LOST_CHANNEL (n : Nat) : Fld := ⟨0x600200 + 0x10 * n, 11, 1⟩
abbrev FAULT_PART_LOST_CAPTURE (n : Nat) : Fld := ⟨0x600200 + 0x10 * n, 10, 1⟩
abbrev FAULT_PART_LOST_LANE (n : Nat) : Fld := ⟨0x600200 + 0x10 * n, 9, 1⟩
abbrev FAULT_PART_LOST_ENGINE (n : Nat) : Fld := ⟨0x600200 + 0x10 * n, 8, 1⟩
abbrev FAULT_PART_LOSS_VT_LO (n : Nat) : Fld := ⟨0x600200 + 0x10 * n + 0x4, 0, 32⟩
abbrev FAULT_PART_LOSS_VT_HI (n : Nat) : Fld := ⟨0x600200 + 0x10 * n + 0x8, 0, 16⟩
abbrev FAULT_KIND_COUNT (n : Nat) : Fld := ⟨0x600400 + 4 * n, 16, 16⟩
abbrev FAULT_KIND_DEFAULT (n : Nat) : Fld := ⟨0x600400 + 4 * n, 2, 2⟩
abbrev FAULT_KIND_REACTION (n : Nat) : Fld := ⟨0x600400 + 4 * n, 0, 2⟩
abbrev FAULT_UNIT_STATE (n : Nat) : Fld := ⟨0x601000 + 4 * n, 30, 2⟩
abbrev FAULT_UNIT_SEEN (n : Nat) : Fld := ⟨0x601000 + 4 * n, 29, 1⟩
abbrev FAULT_UNIT_LAST_KIND (n : Nat) : Fld := ⟨0x601000 + 4 * n, 16, 8⟩
abbrev FAULT_UNIT_RECOVERY_COUNT (n : Nat) : Fld := ⟨0x601000 + 4 * n, 8, 8⟩
abbrev FAULT_UNIT_RECENT (n : Nat) : Fld := ⟨0x601000 + 4 * n, 4, 2⟩
abbrev ST_STATUS_RUNNING : Fld := ⟨0xA00000, 28, 4⟩
abbrev ST_STATUS_STARTUP_FAIL : Fld := ⟨0xA00000, 2, 1⟩
abbrev ST_STATUS_STARTUP_DONE : Fld := ⟨0xA00000, 1, 1⟩
abbrev ST_STATUS_HELD : Fld := ⟨0xA00000, 0, 1⟩
abbrev ST_CTRL_ABANDON : Fld := ⟨0xA00004, 1, 1⟩
abbrev ST_CTRL_HOLD : Fld := ⟨0xA00004, 0, 1⟩
abbrev ST_LAST_KIND : Fld := ⟨0xA00008, 24, 8⟩
abbrev ST_LAST_OUTCOME : Fld := ⟨0xA00008, 22, 2⟩
abbrev ST_LAST_TARGET : Fld := ⟨0xA00008, 0, 10⟩
abbrev ST_LAST_ADDR_LO_ADDR : Fld := ⟨0xA0000C, 0, 32⟩
abbrev ST_LAST_ADDR_HI_ADDR : Fld := ⟨0xA00010, 0, 4⟩
abbrev ST_STARTUP_KINDS_FAILED : Fld := ⟨0xA00014, 16, 8⟩
abbrev ST_STARTUP_DURATION_MS : Fld := ⟨0xA00014, 0, 16⟩
abbrev ST_KIND_BUDGET_US (n : Nat) : Fld := ⟨0xA00020 + 4 * n, 8, 8⟩
abbrev ST_KIND_ENABLE (n : Nat) : Fld := ⟨0xA00020 + 4 * n, 0, 1⟩
abbrev ST_GAP_MIN_GAP_MS (n : Nat) : Fld := ⟨0xA000C0 + 4 * n, 0, 32⟩
abbrev ST_CNT_RUNS (n : Nat) : Fld := ⟨0xA00060 + 4 * n, 16, 16⟩
abbrev ST_CNT_INCOMPLETE (n : Nat) : Fld := ⟨0xA00060 + 4 * n, 8, 8⟩
abbrev ST_CNT_FAILED (n : Nat) : Fld := ⟨0xA00060 + 4 * n, 0, 8⟩
abbrev ST_RVPTR_WRAPPED (n : Nat) : Fld := ⟨0xA00100 + 4 * n, 31, 1⟩
abbrev ST_RVPTR_POINTER (n : Nat) : Fld := ⟨0xA00100 + 4 * n, 0, 25⟩
abbrev GLOBAL_MODE_MODE : Fld := ⟨0x10, 0, 3⟩
abbrev GLOBAL_PMODE_DECLARED (p : Nat) : Fld := ⟨0x14 + 4 * (p / 8), 4 * (p % 8) + 3, 1⟩
abbrev GLOBAL_PMODE_MODE (p : Nat) : Fld := ⟨0x14 + 4 * (p / 8), 4 * (p % 8), 3⟩
abbrev GLOBAL_PDRAIN_WAKING : Fld := ⟨0x1C, 16, 16⟩
abbrev GLOBAL_PDRAIN_DRAINING : Fld := ⟨0x1C, 0, 16⟩
abbrev GLOBAL_MODE_CMD_PARTS : Fld := ⟨0x20, 16, 16⟩
abbrev GLOBAL_MODE_CMD_KEY : Fld := ⟨0x20, 8, 8⟩
abbrev GLOBAL_MODE_CMD_MODE : Fld := ⟨0x20, 4, 3⟩
abbrev GLOBAL_MODE_CMD_OP : Fld := ⟨0x20, 0, 4⟩
abbrev GLOBAL_START_ORIGIN_LO_VT : Fld := ⟨0x24, 0, 32⟩
abbrev GLOBAL_START_ORIGIN_HI_VT : Fld := ⟨0x28, 0, 16⟩
abbrev GLOBAL_MODE_STAT_CAUSE : Fld := ⟨0x2C, 16, 8⟩
abbrev GLOBAL_MODE_STAT_DEEP_EXITED : Fld := ⟨0x2C, 3, 1⟩
abbrev GLOBAL_MODE_STAT_MODE_CHANGED : Fld := ⟨0x2C, 2, 1⟩
abbrev GLOBAL_MODE_STAT_CMD_REFUSED : Fld := ⟨0x2C, 1, 1⟩
abbrev GLOBAL_BOOT_READY_MS : Fld := ⟨0x30, 16, 16⟩
abbrev GLOBAL_BOOT_WAIT_HOST : Fld := ⟨0x30, 8, 1⟩
abbrev GLOBAL_BOOT_STEP : Fld := ⟨0x30, 0, 4⟩
abbrev GLOBAL_RESET_CAUSE_WARM : Fld := ⟨0x34, 4, 1⟩
abbrev GLOBAL_RESET_CAUSE_HOST : Fld := ⟨0x34, 3, 1⟩
abbrev GLOBAL_RESET_CAUSE_SIDEBAND : Fld := ⟨0x34, 2, 1⟩
abbrev GLOBAL_RESET_CAUSE_PIN : Fld := ⟨0x34, 1, 1⟩
abbrev GLOBAL_RESET_CAUSE_POWER_UP : Fld := ⟨0x34, 0, 1⟩
abbrev GLOBAL_UPTIME_LO_UPTIME : Fld := ⟨0x38, 0, 32⟩
abbrev GLOBAL_UPTIME_HI_UPTIME : Fld := ⟨0x3C, 0, 32⟩
abbrev GLOBAL_PEND_DISCARDED : Fld := ⟨0x40, 16, 7⟩
abbrev GLOBAL_PEND_DIRTY : Fld := ⟨0x40, 0, 7⟩

end Sys2Proof.Machine.Csr
end

