-- ==== Sys2Proof/Machine/Cells.lean ====
section
/-! DEFINITION. Sparse memories in one canonical form: a list of (address, value) pairs, addresses strictly rising,
no entry equal to what an unlisted address reads as. The CSR file, the DRAM, the engines' local SRAM and the
counter RAMs are all of this form. -/
namespace Sys2Proof.Machine

/-- What address a of the list m reads as; d gives what an unlisted address reads as. -/
def cget {α : Type} (d : Nat → α) : List (Nat × α) → Nat → α
  | [], a => d a
  | (k, v) :: r, a => if a = k then v else if a < k then d a else cget d r a

/-- Put v at address a, keeping the canonical form: the default value is not listed. -/
def cput {α : Type} [DecidableEq α] (d : Nat → α) : List (Nat × α) → Nat → α → List (Nat × α)
  | [], a, v => if v = d a then [] else [(a, v)]
  | (k, w) :: r, a, v =>
    if a = k then (if v = d a then r else (a, v) :: r)
    else if a < k then (if v = d a then (k, w) :: r else (a, v) :: (k, w) :: r)
    else (k, w) :: cput d r a v

/-- The canonical form from a lower bound on: strictly rising addresses, no default listed. -/
def cwfFrom {α : Type} [DecidableEq α] (d : Nat → α) : Nat → List (Nat × α) → Bool
  | _, [] => true
  | lo, (k, v) :: r => decide (lo ≤ k) && decide (v ≠ d k) && cwfFrom d (k + 1) r

/-- The canonical form. -/
def cwf {α : Type} [DecidableEq α] (d : Nat → α) (m : List (Nat × α)) : Bool := cwfFrom d 0 m

/-- Put consecutive values from address a on. -/
def cputAll {α : Type} [DecidableEq α] (d : Nat → α) (m : List (Nat × α)) : Nat → List α → List (Nat × α)
  | _, [] => m
  | a, v :: r => cputAll d (cput d m a v) (a + 1) r

/-- Read n consecutive values from address a on. -/
def cgetAll {α : Type} (d : Nat → α) (m : List (Nat × α)) : Nat → Nat → List α
  | _, 0 => []
  | a, n + 1 => cget d m a :: cgetAll d m (a + 1) n

end Sys2Proof.Machine
end

