-- ==== Sys2Proof/Machine/ImageTypes.lean ====
section
/-! DEFINITION. The parsed form of a structure image (chapter 02): its header, its sections and their records. -/
namespace Sys2Proof.Machine

/-- The 64-byte task descriptor of an engine (R77). -/
structure TaskDesc where
  progBase : Nat
  entry : Nat
  trapEntry : Nat
  cls : Nat
  part : Nat
  ldiLen : Nat
  ldiSrc : Nat
  g1 : Nat
  g2 : Nat
  g3 : Nat
  g4 : Nat
deriving DecidableEq, Repr, Inhabited

/-- A record of section 0x01: a declared partition (R31). -/
structure PartRec where
  part : Nat
  m : Nat
  initMode : Nat
deriving DecidableEq, Repr, Inhabited

/-- A record of section 0x02: an engine and its task (R31). -/
structure EngRec where
  engine : Nat
  start : Nat
  desc : TaskDesc
deriving DecidableEq, Repr, Inhabited

/-- A record of section 0x03: the logical TX lanes of an engine's slots (R31). -/
structure LaneRec where
  engine : Nat
  tx : List Nat
deriving DecidableEq, Repr, Inhabited

/-- A record of section 0x04: (ROLE, INDEX) of pins 0 to 63 (R31). -/
structure PinRec where
  engine : Nat
  roles : List (Nat × Nat)
deriving DecidableEq, Repr, Inhabited

/-- A record of section 0x05: a memory region (R31). -/
structure Region where
  part : Nat
  kind : Nat
  interleave : Nat
  chanMask : Nat
  base : Nat
  size : Nat
deriving DecidableEq, Repr, Inhabited

/-- A record of section 0x06: reserve, cap and share of a class on channels (R31). -/
structure ClassRec where
  cls : Nat
  chanMask : Nat
  reserve : Nat
  cap : Nat
  share : Nat
deriving DecidableEq, Repr, Inhabited

/-- Section 0x06 (R31). -/
structure ClassSec where
  hostdma : Nat
  almanac : Nat
  recs : List ClassRec
deriving DecidableEq, Repr, Inhabited

/-- A record of section 0x07: capture routing and fail-map geometry of a partition (R31). -/
structure CapRec where
  part : Nat
  dmaClass : Nat
  mapClass : Nat
  enables : Nat
  rttMax : Nat
  xBits : Nat
  yBits : Nat
  zBits : Nat
  dqWidth : Nat
  rcKi : Nat
deriving DecidableEq, Repr, Inhabited

/-- Section 0x08: the quiet period and (KIND, REACTION) records (R31). -/
structure PolicySec where
  quietUs : Nat
  recs : List (Nat × Nat)
deriving DecidableEq, Repr, Inhabited

/-- A record of section 0x09: a self-test slice kind (R31). -/
structure SliceRec where
  slice : Nat
  enable : Nat
  budget : Nat
  gap : Nat
deriving DecidableEq, Repr, Inhabited

/-- A record of section 0x0A: gate enables of a block (R31). -/
structure GateRec where
  cls : Nat
  inst : Nat
  enables : Nat
deriving DecidableEq, Repr, Inhabited

/-- One Calendar entry: VT, ACTION, PART and ARG (R31, R58); ACTION 0 is an empty entry. -/
structure CalEnt where
  vt : Nat
  action : Nat
  part : Nat
  arg : Nat
deriving DecidableEq, Repr, Inhabited

/-- A structure image, parsed; an absent section is `none`. -/
structure Img where
  id : Nat
  tickPs : Nat
  cold : Bool
  signed : Bool
  parts : List PartRec
  engines : List EngRec
  ppl : List Nat
  lanes : List LaneRec
  pins : List PinRec
  regions : List Region
  classes : Option ClassSec
  caps : List CapRec
  policy : Option PolicySec
  selftest : Option (List SliceRec)
  gating : Option (List GateRec)
  cal : List CalEnt
  /-- The bodies of sections 0x06, 0x08, 0x09 and 0x0A, for the byte comparison of R37. -/
  devwide : List (Option (List Byte))
deriving DecidableEq, Repr, Inhabited

/-- What IMAGE_ERR reports: CODE, STAGE, OFFSET (R48). -/
structure ImgErr where
  code : Nat
  stage : Nat
  off : Nat
deriving DecidableEq, Repr, Inhabited

end Sys2Proof.Machine
end

