-- ==== Sys2Proof/Machine/Parts.lean ====
section
/-! DEFINITION. The parts of State that are not registers: the queues, buffers, memories and running activities the
spec gives the cube's units. Every field's default is its value right after RESET_N deasserts. -/
namespace Sys2Proof.Machine

/-- Time kept by the cube: FCLK cycles, uptime in microseconds since RESET_N deasserted (R364), and the FCLK cycles
within the microsecond (850 to the microsecond). -/
structure Clock where
  fclk : Nat := 0
  /-- FCLK cycles in which the data plane was not paused: request paths and regulators count these (R17, R221). -/
  live : Nat := 0
  uptime : Nat := 0
  sub : Nat := 0
deriving DecidableEq, Repr, Inhabited

/-- Why the data plane is paused (R17, R208, R321, R325, R338, R398); it runs when no cause holds. -/
structure Pauses where
  hck : Bool := false
  switchover : Bool := false
  trip : Bool := false
  rail : Bool := false
  deep : Bool := false
  /-- Uptime at which the pause began. -/
  since : Nat := 0
deriving DecidableEq, Repr, Inhabited

/-- An open holiday: its scope (a partition, or 0xFF) and its end (R64). -/
structure Window where
  scope : Nat
  stop : Nat
deriving DecidableEq, Repr, Inhabited

/-- Vector Time (R49 to R56), and the windows the Calendar has open (R64, R65). -/
structure VtUnit where
  vt : Nat := 0
  /-- The 24-bit fraction. -/
  frac : Nat := 0
  /-- Interpolated ticks, in units of 2^-24, that VT still has to wait out after a positive error (R53). -/
  owed : Nat := 0
  /-- E: the expected value at the next TSYNC edge (R53). -/
  edge : Nat := 0
  /-- FCLK cycles since the last TSYNC edge (R52). -/
  cyc : Nat := 0
  /-- An armed VTSET (R55). -/
  armed : Option Nat := none
  /-- The FCLK cycle of the last TSYNC pulse (R421). -/
  pulse : Option Nat := none
  /-- TASK_STOP entries that have stopped an engine and not fired, and whether late (R59). -/
  stopped : List (Nat × Bool) := []
  /-- CAP_OPEN and CAP_CLOSE entries committed after samples at or past their VT: the VT at which they act (R59). -/
  lateCaps : List (Nat × Nat) := []
  holidays : List Window := []
  norefs : List Window := []
deriving DecidableEq, Repr, Inhabited

/-- An edge of a partition's capture window (R59): the Vector Time at which it acts, its entry's VT, and whether it opens the
window. -/
structure CapEdge where
  part : Nat
  act : Nat
  vt : Nat
  opens : Bool
deriving DecidableEq, Repr, Inhabited

/-- The image unit: the PENDING slot, the armed apply and the bindings in effect (chapter 02). -/
structure ImageUnit where
  /-- Bytes held in the PENDING slot. -/
  slot : List Byte := []
  /-- Source address and length latched by the last LOAD (R25). -/
  src : Nat := 0
  len : Nat := 0
  /-- The image read from a VALID slot. -/
  parsed : Option Img := none
  /-- Epoch and PARTS of the armed apply, and who armed it: 0 the host, n + 1 Calendar entry n (R40, R61). -/
  epoch : Nat := 0
  parts : Nat := 0
  armedBy : Nat := 0
  /-- The bindings, regions, routing and device-wide sections in effect. -/
  active : Img
  /-- Bit p: partition p has entered RUN since it was bound (R42). -/
  entered : Nat := 0
  /-- Bit p: partition p's capture window was closed before the edges below (R66). -/
  winShut : Nat := 0
  /-- Capture-window edges that have fired and that samples still to come may precede (R59). -/
  capEdges : List CapEdge := []
  /-- The latest sample time handled for a partition (R59). -/
  lastSample : List (Nat × Nat) := []
  /-- The Vector Time at which a partition last closed its window or left RUN (R177). -/
  flushFrom : List (Nat × Nat) := []
deriving DecidableEq, Repr

/-- No image: nothing declared or bound (R10). -/
def Img.empty : Img where
  id := 0
  tickPs := 625
  cold := false
  signed := false
  parts := []
  engines := []
  ppl := List.replicate 16 0
  lanes := []
  pins := []
  regions := []
  classes := none
  caps := []
  policy := none
  selftest := none
  gating := none
  cal := []
  devwide := [none, none, none, none]

/-- A granule held in a write buffer or correction queue: its channel offset bits [30:6], its data, the FCLK it
entered (R194, R226). -/
structure WbEnt where
  gran : Nat
  data : List Byte
  stamp : Nat
  /-- Bits of the encoded granule that have flipped in the buffer (R225). -/
  mask : BitVec 576 := 0
deriving DecidableEq, Repr, Inhabited

/-- Who asks for a granule, and how (R364 MASTER and ACCESS, R209 class). -/
structure Acc where
  master : Nat
  port : Bool := false
  kind : Nat
  cls : Nat := 0
deriving DecidableEq, Repr, Inhabited

/-- A granule request: in a channel's request queue, or held at its master's port (R193, R210). -/
structure McReq where
  acc : Acc
  /-- Logical channel and granule number within the channel. -/
  chan : Nat
  gran : Nat
  write : Bool
  /-- Byte offset within the granule, and the bytes written; a full write has 64 of them. -/
  off : Nat := 0
  data : List Byte := []
  /-- FCLK at which it reached its port (R221). -/
  stamp : Nat
deriving DecidableEq, Repr, Inhabited

/-- What the last completed request of a channel gave its master. -/
inductive McDone where
  | data (acc : Acc) (gran : Nat) (bytes : List Byte)
  | written (acc : Acc) (gran : Nat)
  | uncorrectable (acc : Acc) (gran : Nat)
  | errorResponse (acc : Acc) (gran : Nat)
deriving DecidableEq, Repr

/-- A remap slot's stored granule: data and the mask of flipped bits (R233). -/
structure Slot where
  data : List Byte := List.replicate 64 0
  mask : BitVec 576 := 0
deriving DecidableEq, Repr, Inhabited

/-- One bank's row and refresh account (R193, R198, R204). -/
structure Bank where
  openRow : Option Nat := none
  lastUse : Nat := 0
  debt : Int := 0
  /-- Refreshes issued since the last due time: one for it, and one extra at most (R199). -/
  issued : Nat := 0
  /-- The refresh pointer: rows 4p to 4p + 3 are refreshed next. -/
  ptr : Nat := 0
deriving DecidableEq, Repr, Inhabited

/-- One physical channel controller (chapters 09, 11, 12). -/
structure Mc where
  rq : List McReq := []
  wb : List WbEnt := []
  cq : List WbEnt := []
  slots : Vector Slot 16 := Vector.replicate 16 {}
  banks : Vector Bank 64 := Vector.replicate 64 {}
  /-- Activations of a row in the bank's refresh window, by bank * 32768 + row (R204). -/
  acts : List (Nat × Nat) := []
  /-- Rows that reached 4096 activations and await their neighbour refresh. -/
  hammered : List Nat := []
  flipMask : BitVec 576 := 0
  flipSel : Nat := 0
  done : Option McDone := none
  /-- Uptime of the last ECC_CORRECTED message (R229). -/
  corrMsg : Option Nat := none
  /-- Corrections by pseudo-channel * 64 + symbol in the 1 ms window that began at symStart (R231). -/
  symCnt : List (Nat × Nat) := []
  symStart : Nat := 0
  /-- Corrections by pseudo-channel * 64 + symbol since MC_ECC_SYMHOT was read, and those of them in the FCLK cycle symAt
  (R8). -/
  symHot : List (Nat × Nat) := []
  symNow : List (Nat × Nat) := []
  symAt : Nat := 0
  /-- The repeat tracker, most recently updated first (R232). -/
  tracker : List (Nat × Nat) := []
  /-- Granules passed to the remap table and not yet handled (R232, R233). -/
  wanted : List Nat := []
  /-- Rows repaired, by bank * 32768 + row, with the spare row that stands in: the layer's repair fuses (R237). -/
  repaired : List (Nat × Nat) := []
  /-- Rows whose repair waits for a window, oldest first (R237). -/
  repairRows : List Nat := []
  /-- Uptime up to which the leaky bucket has leaked (R230). -/
  leakAt : Nat := 0
  /-- DQ positions (pseudo-channel, position) that are dead with both spares in use (R250). -/
  deadDq : List (Nat × Nat) := []
  /-- The CA signals' windows in use, width and centre (R241). -/
  caWin : List (Nat × Nat) := []
  /-- A full training runs in the field (R246). -/
  fullRun : Bool := false
  /-- A channel-map hold is in force (R191); the new physical channel. -/
  moving : Option Nat := none
  /-- Uptime of the last completed training, and since when DUE or ESCALATED has stood (R244, R247). -/
  trainedAt : Nat := 0
  dueSince : Nat := 0
  overdueMsg : Option Nat := none
  fullReq : Bool := false
  /-- A migration's destination, and the current run of poisoned granules (first, length) (R254). -/
  migTo : Option Nat := none
  lostRun : Option (Nat × Nat) := none
  /-- The migration has copied its last granule. -/
  migEnd : Bool := false
  /-- A retraining was requested while one runs (R244). -/
  reqAgain : Bool := false
  /-- The layer is hot, and over range (R206). -/
  hotNow : Bool := false
  overRange : Bool := false
  /-- The channel no longer answers commands (R254). -/
  dead : Bool := false
  /-- Spare rows (bank * 16 + row) and remap slots that failed a march: unusable until power-up (R386). -/
  badRows : List Nat := []
  badSlots : List Nat := []
  /-- Temperature rounds: consecutive low readings, consecutive good ones (R354). -/
  lowRounds : Nat := 0
  goodRounds : Nat := 0
deriving DecidableEq, Repr

/-- A transfer of a master that waits at its port for one of its channels (R210, R213). -/
structure PortWait where
  acc : Acc
  /-- The logical channel, and the first byte of the transfer. -/
  chan : Nat
  addr : Nat
  /-- Its length in bytes. -/
  len : Nat := 0
  /-- Granules of it that the regulator has released (R213, R214). -/
  paid : Nat := 0
  /-- The live FCLK at which it reached its port (R221). -/
  since : Nat
deriving DecidableEq, Repr, Inhabited

/-- The bandwidth regulators (chapter 10). -/
structure BwUnit where
  /-- Tokens of the (class, channel) buckets in 65 536ths, by 32 * class + channel; unlisted: none. -/
  tokens : List (Nat × Nat) := []
  /-- What each bucket with a share gains per FCLK (R213). -/
  gain : List (Nat × Nat) := []
  /-- Requests held at the ports, oldest first. -/
  held : List McReq := []
  /-- Transfers that wait at the ports: their granules are paid while their command is awaited. -/
  waits : List PortWait := []
  /-- The live FCLK at which a port last released a request of a channel on surplus, by (master, port, channel)
  (R214). -/
  surplusAt : List ((Nat × Bool × Nat) × Nat) := []
  /-- Uptime of the last BW_LATENCY message per pair (R222). -/
  latMsg : List (Nat × Nat) := []
  /-- Section 0x06 as the last device-wide apply installed it (R219). -/
  sec06 : Option ClassSec := none
deriving DecidableEq, Repr, Inhabited

/-- A fault message (R364). -/
structure Msg where
  src : Nat
  kind : Nat
  addr : Nat := 0
  detail : Nat := 0
  /-- For a fault on a memory access: [9:0] source ID of the requesting master, [10] PORT. -/
  master : Option Nat := none
  access : Nat := 0
  /-- The partition the raiser knows the fault to concern, if it does (R373). -/
  part : Option Nat := none
  /-- Every partition it concerns, where the raiser knows several (R254). -/
  also : List Nat := []
deriving DecidableEq, Repr, Inhabited

/-- MASTER of a message (R364): the requesting master of a memory access, else the raising unit. -/
def Msg.by (m : Msg) : Nat := m.master.getD m.src

/-- A message held by the Almanac during a pause, with its stamps (R366). -/
structure HeldMsg where
  msg : Msg
  vt : Nat
  uptime : Nat
  rosc : Bool := false
  /-- VT was not LOCKED when the message arose (R355). -/
  unlocked : Bool := false
deriving DecidableEq, Repr, Inhabited

/-- A fence in force on a unit: by the policy or by the host, the uptime its quiet period began (R374, R375), and the
state code the unit had before. -/
structure Fence where
  unit : Nat
  host : Bool
  since : Nat
  prev : Nat
deriving DecidableEq, Repr, Inhabited

/-- A source's reaction latch (R366): the strongest of L F R (0 1 2) not yet applied, with the kind it came for, and the
messages whose stop has not been applied. -/
structure Latch where
  src : Nat
  react : Nat := 0
  kind : Nat := 0
  stops : List Msg := []
deriving DecidableEq, Repr, Inhabited

/-- The fault collector (chapter 17). -/
structure FaultUnit where
  /-- Messages queued at their sources, in order of arrival; at most 4 per source (R366). -/
  queue : List Msg := []
  /-- The source the collector took from last (round robin). -/
  last : Nat := 0
  latches : List Latch := []
  /-- The FCLK cycle in which a message was last taken: one at most in each (R366). -/
  takenAt : Option Nat := none
  /-- The message last counted in LATER, the FCLK cycle in which it was taken and its reaction (R369). -/
  late : Option (Nat × HeldMsg × Nat) := none
  /-- The partitions that have lost a resource since they were HEALTHY (R377), as a mask. -/
  lost : Nat := 0
  intake : List HeldMsg := []
  fences : List Fence := []
  /-- Recoveries: unit and uptime (R374). -/
  recoveries : List (Nat × Nat) := []
  /-- Uptime of the last log entry of a (source, kind) pair (R370). -/
  logged : List ((Nat × Nat) × Nat) := []
  /-- Units the collector retired, with the FCLK cycle of the retirement (R19: a host write in it comes after). -/
  retiredAt : List (Nat × Nat) := []
deriving DecidableEq, Repr, Inhabited

/-- A log entry (R355). -/
structure LogEnt where
  vt : Nat
  uptime : Nat
  kind : Nat
  /-- Bytes 14 and 15: SOURCE, SEVERITY and the flags. -/
  word : Nat
  seq : Nat
  data : Nat := 0
deriving DecidableEq, Repr, Inhabited

/-- An event that waits to be sent, or the last one sent (R287, R289). -/
structure Event where
  /-- The sequence number, modulo 256 the TAG. -/
  seq : Nat := 0
  addr : Nat := 0
  vt : Nat
  code : Nat
  sub : Nat
  detail : Nat
  uptime : Nat
deriving DecidableEq, Repr, Inhabited

/-- One vector cycle in staging: the nibbles of pins 0 to 63, pin j in bits [4j+3:4j], and the 56-bit address stamp
AX, AY, AZ in bits [23:0], [47:24], [55:48] (R95, R112). -/
structure Cycle where
  nibs : BitVec 256
  stamp : BitVec 56
deriving DecidableEq, Repr, Inhabited

/-- A closed row that is not yet released: its number in fill order since task start (bank A holds rows 0 to 255,
bank B 256 to 511, and so on in turn), the Vector Time of its first cycle and its cycles (R112, R113). -/
structure Row where
  num : Nat
  vt0 : Nat
  cycles : List Cycle
deriving DecidableEq, Repr, Inhabited

/-- A stretch of the drain's work: `count` rows from `first` on, sent once as filled (passes 0), or replayed `passes`
times from stream time `base` on, each pass `cycles` cycles long (R117, R122). `limit` cuts the passes after that many
cycles, where a TASK_STOP stops them. -/
structure Seg where
  first : Nat
  count : Nat
  passes : Nat := 0
  base : Nat := 0
  cycles : Nat := 0
  limit : Option Nat := none
deriving DecidableEq, Repr, Inhabited

/-- Where the drain of one slot stands: segment number since task start, pass, row within the segment; the running
CRC-32 without its final exclusive-OR; the cycles of the stream sent or discarded; and the (cycles, CRC) pairs at frame boundaries not yet counted
by every slot, newest first (R117, R126, R127). -/
structure Slotc where
  seg : Nat := 0
  pass : Nat := 0
  row : Nat := 0
  crc : Nat := 0xFFFFFFFF
  sent : Nat := 0
  hist : List (Nat × Nat) := []
deriving DecidableEq, Repr, Inhabited

/-- An engine's staging buffer (chapter 06). -/
structure Staging where
  /-- Number of the fill row, its cycles so far and the Vector Time of its first cycle. -/
  fill : Nat := 0
  cur : List Cycle := []
  curVt : Nat := 0
  /-- FLUSH_LEAD as it stood when the row began (ENG_STG_CFG). -/
  lead : Nat := 0
  rows : List Row := []
  /-- The row a held mark lies at (R120). -/
  mark : Option Nat := none
  segs : List Seg := []
  /-- Segments already dropped from the front of `segs`. -/
  segBase : Nat := 0
  slots : Vector Slotc 4 := Vector.replicate 4 {}
  /-- Cycles of the stream that have gone to the drain since task start: of closed rows and of queued passes. -/
  total : Nat := 0
  /-- The cycles that every slot in service had sent when a frame last went out; `frozen` when the buffer has been emptied
  under the task, so that the count and the signatures stay (R126, R127). -/
  counted : Nat := 0
  frozen : Bool := false
  /-- The replayed row whose cycles were last written into the echo ring: segment, pass, row (R122). -/
  echoed : Nat × Nat × Nat := (0, 0, 0)
deriving DecidableEq, Repr

/-- AX or AY: value, limit, step and wrap, 24 bits each (R69). -/
structure Gen where
  val : BitVec 24 := 0
  lim : BitVec 24 := 0xFFFFFF
  step : BitVec 24 := 1
  wrap : BitVec 24 := 0
deriving DecidableEq, Repr, Inhabited

/-- An outstanding DRAM request of an engine (R90). -/
structure Drq where
  tag : Nat
  cube : Nat
  loc : Nat
  len : Nat
  write : Bool
  /-- The live FCLK of its issue (R221). -/
  since : Nat := 0
deriving DecidableEq, Repr, Inhabited

/-- An active VSTREAM: next granule to fetch, cycles not yet fetched whole, bytes fetched that do not make a whole cycle
yet, the stamp held at issue, and for MERGE the stored cycles that wait in the merge queue (R97 to R99, R115, R116). -/
structure VStream where
  pure : Bool
  next : Nat
  left : Nat
  buf : List Byte := []
  stamp : BitVec 56
  queue : List (BitVec 256) := []
  /-- Tags of the DRQ writes outstanding at issue: requests of the engine that come before the stream's (R91). -/
  before : List Nat := []
  /-- The live FCLK at which the next granule was asked for (R221). -/
  since : Nat := 0
deriving DecidableEq, Repr, Inhabited

/-- What an engine that does not issue waits for. -/
inductive EngWait where
  | none
  /-- EMIT or EMITN: opcode, source select, mask select, flags, cycles left (R96). -/
  | emit (op src mask flags left : Nat)
  /-- WAITVT STREAM padding up to a stream time (R102). -/
  | pad (target : Nat)
  | dwt (mask : Nat)
  | waitvt (target : Nat)
  | bar (mask id : Nat)
  /-- The wait of HALT, with the HALT_REASON the end of the task will report (R86, R80). -/
  | halt (reason : Nat)
  /-- The wait before TRAPPED (R107). -/
  | haltTrap
deriving DecidableEq, Repr

/-- A trap cause (R105). -/
structure TrapCause where
  code : Nat
  detail : Nat
  addr : Nat
deriving DecidableEq, Repr, Inhabited

/-- One pattern engine with its staging buffer (chapters 04 to 06). -/
structure Engine where
  g : Vector W64 16 := Vector.replicate 16 0
  /-- Byte offset of the next instruction. -/
  pc : BitVec 24 := 0
  /-- STATUS bits [5:0]: Z, N, C, AXC, AYC, AZC. INTRAP lives in ENG_STATE; MARKED, STREAM and TAGBUSY are formed on a
  read (R70). -/
  flags : BitVec 6 := 0
  trapcause : W64 := 0
  trappc : BitVec 24 := 0
  lc : Vector Word 4 := Vector.replicate 4 0
  lstart : Vector (BitVec 24) 4 := Vector.replicate 4 0
  ax : Gen := {}
  ay : Gen := {}
  az : Byte := 0
  azLim : Byte := 0xFF
  acfg : BitVec 15 := 0
  dg : W64 := 0
  dgcfg : BitVec 13 := 0
  stime : Nat := 0
  /-- The origin of the task (R57). -/
  origin : Nat := 0
  barto : Word := 1700000
  stack : List (BitVec 24) := []
  /-- Scramble tables: entry i of table t at 256 t + i; unlisted entries hold i (R69). -/
  scr : List (Nat × Byte) := []
  /-- Local SRAM words by byte address / 8; unlisted words are 0. -/
  sram : List (Nat × W64) := []
  icache : List (Nat × List Byte) := []
  drqs : List Drq := []
  vs : Option VStream := Option.none
  wait : EngWait := EngWait.none
  /-- Asynchronous trap causes that wait for an instruction boundary, oldest first (R92, R100, R106). -/
  async : List TrapCause := []
  /-- A stop that waits for the next instruction boundary, with its HALT_REASON. -/
  stopReq : Option Nat := Option.none
  /-- A start that waits for preparation, with its origin (R79). -/
  startWait : Option Nat := Option.none
  /-- The stop VT of a change out of RUN that the stream time has not reached yet (R393). -/
  stopVt : Option Nat := Option.none
  /-- The descriptor of the bound task (R77). -/
  desc : TaskDesc := default
  stg : Staging := {}
deriving DecidableEq, Repr

/-- An entry of an echo ring (R160): the engine's cycle, its expect codes (two bits a pin), its stamp and the slots
already answered. -/
structure EchoEnt where
  engine : Nat
  part : Nat
  vt : Nat
  expects : BitVec 128
  stamp : BitVec 56
  /-- (VT - origin) / M modulo 2^32 (R168). -/
  cycle : Nat
  slots : Nat
  answered : Nat := 0
  size : Nat
  /-- The unit held it when its fence lifted: no sample is compared with it (R372). -/
  stale : Bool := false
deriving DecidableEq, Repr, Inhabited

/-- A queued fail record (R168) and the partition, cycle and lane it concerns. -/
structure FailRec where
  part : Nat
  vt : Nat
  lane : Nat
  bits : BitVec 256
deriving DecidableEq, Repr, Inhabited

/-- An open run of gap evidence (R169); slot 15 stands for the whole engine (MOLT_LOSS). -/
structure GapRun where
  engine : Nat
  part : Nat
  slot : Nat
  cause : Nat
  first : Nat
  last : Nat
  count : Nat
  mask : Nat
  lane : Nat
  stamp : BitVec 56
  cycle : Nat
  /-- Uptime at which its first cycle was observed. -/
  since : Nat
deriving DecidableEq, Repr, Inhabited

/-- A fail-map update of one granule (R175, R176): the bits it sets, the entry's bit range within the granule, the
counters it may count against, and for a straddling entry the tag it shares with its other half. -/
structure MapUpd where
  gran : Nat
  part : Nat
  bits : BitVec 512
  lo : Nat
  hi : Nat
  vt : Nat
  lane : Nat
  row : Nat
  col : Nat
  /-- Counts in DISTINCT mode (R183). -/
  counts : Bool
  tag : Option Nat := none
deriving DecidableEq, Repr, Inhabited

/-- A line of the write-combine cache, or a write-back on its way (R176 to R178). -/
structure MapLine where
  gran : Nat
  part : Nat
  data : BitVec 512 := 0
  filling : Bool := false
  /-- Uptime at which it became dirty. -/
  dirty : Option Nat := none
  /-- Vector Time range of the updates since the last successful write-back. -/
  range : Option (Nat × Nat) := none
  /-- The live FCLK at which its fill or its write-back was asked for (R221). -/
  since : Nat := 0
deriving DecidableEq, Repr, Inhabited

/-- A segment of a partition's fail log (R170 to R172). -/
structure LogSeg where
  part : Nat
  /-- Records queued (WR of R172), records written to DRAM, records dropped, RD last read. -/
  queued : Nat := 0
  written : Nat := 0
  dropped : Nat := 0
  rd : Nat := 0
  /-- The zero header of the apply is still due. -/
  zeroDue : Bool := true
  /-- Unit 8 has taken the segment over and has yet to read of it (R187): 1 the header, 2 the first record of the granule that
  the next record goes to, 0 nothing. -/
  adopt : Nat := 0
  /-- WR and DROPPED in the header last written, and its uptime. -/
  hdrWr : Nat := 0
  hdrDropped : Nat := 0
  hdrAt : Nat := 0
  readAt : Nat := 0
  dropBefore : Bool := false
  /-- The record at the last even position, for the granule's second write. -/
  half : BitVec 256 := 0
deriving DecidableEq, Repr, Inhabited

/-- A capture unit (chapter 08). -/
structure CaptureUnit where
  ring : List EchoEnt := []
  /-- The room in bytes that the entry lacked which found the ring full, while ECHO_FULL stands (R162). -/
  need : Nat := 0
  /-- The Vector Time of each engine's newest entry (R165). -/
  newest : List (Nat × Nat) := []
  queue : List FailRec := []
  runs : List GapRun := []
  /-- Cached lines, least recently used first; at most 256. -/
  lines : List MapLine := []
  /-- Write-backs on their way, oldest first. -/
  wbs : List MapLine := []
  /-- Updates that wait for a fill; at most 64. -/
  upds : List MapUpd := []
  /-- Straddling entries with one half merged or dropped: tag, and whether that half still reads as all zero. -/
  halves : List (Nat × Bool) := []
  nextTag : Nat := 0
  /-- Row and column counters by partition * 65536 + index; unlisted 0. -/
  rc : List (Nat × Nat) := []
  /-- Partitions whose counters the host cleared, with the FCLK cycle of the clear (R185). -/
  rcCleared : List (Nat × Nat) := []
  segs : List LogSeg := []
  /-- Vector Times of the entries discarded while the unit is fenced, per partition (R372). -/
  missed : List (Nat × (Nat × Nat)) := []
  /-- A running counter dump: partition and cube address (R184). -/
  dump : Option (Nat × Nat) := none
  /-- The group that the retired unit served and that no unit has taken yet (R429). -/
  orphan : Option Nat := none
deriving DecidableEq, Repr, Inhabited

/-- A frame on a vector lane (R134, R136, R137); nibble i of the payload in bits [4i+3:4i]. -/
structure Frame where
  typ : Nat
  count : Nat := 0
  vt : Nat := 0
  /-- SEQ of a TX frame. -/
  seq : Nat := 0
  payload : BitVec 1024 := 0
deriving DecidableEq, Repr, Inhabited

/-- A frame on a host-link lane (R262). -/
structure HostFrame where
  typ : Nat
  fseq : Nat
  ack : Nat
  lane : Nat
  payload : BitVec 1024 := 0
deriving DecidableEq, Repr, Inhabited

/-- What a TX lane sends: a frame, or a training set TA or TB with its logical lane, physical lane and cube ID (R134,
R146, R262). -/
inductive LineOut where
  | frame (f : Frame)
  | host (f : HostFrame)
  | set (tb : Bool) (logical physical cube : Nat)
deriving DecidableEq, Repr, Inhabited

/-- A control request that waits for its answer (R143): its opcode, tag, argument bytes from payload byte 2 on, the TX
lane it goes out on, and how often it has been sent. -/
structure CtrlReq where
  op : Nat
  tag : Nat
  args : List Nat
  on : Nat
  sends : Nat := 1
deriving DecidableEq, Repr, Inhabited

/-- A loopback (R152): mode, frames to compare (0: until LB_STOP), frames compared, and whether the companion's answer is
still awaited. -/
structure Loop where
  mode : Nat
  frames : Nat
  done : Nat := 0
  waiting : Bool
  /-- The PRBS31 register, the payloads sent and not yet returned, and how many test frames were sent. -/
  prbs : Nat := 1
  flying : List (BitVec 1024) := []
  sent : Nat := 0
deriving DecidableEq, Repr, Inhabited

/-- Physical lane k: its TX and its RX direction (chapter 07). What belongs to a logical pair is kept with its TX
lane. -/
structure Lane where
  /-- TX: what was sent last, none in electrical idle; its code groups, and the running disparity after them (true:
  positive) (R132). -/
  out : Option LineOut := none
  line : List (BitVec 10) := []
  disp : Bool := false
  seq : Nat := 0
  /-- TX: data frames sent and buffers freed since the pair entered ACTIVE. -/
  sent : Nat := 0
  freed : Nat := 0
  reqs : List CtrlReq := []
  nextTag : Nat := 1
  /-- TX: the tag of a LANE_CONFIG not yet acknowledged; no data frame goes out before (R145). -/
  cfgTag : Option Nat := none
  lb : Option Loop := none
  /-- TX: an apply changed the lane's binding during a loopback (R145). -/
  rebound : Bool := false
  /-- TX, RX: the spare that a molt in progress moves this direction to (R155, R156). -/
  moltTx : Option Nat := none
  moltRx : Option Nat := none
  /-- A host molt waits for ACTIVE or a training failure. -/
  wantTx : Bool := false
  wantRx : Bool := false
  /-- Errors in each direction's window: uptime and number (R154). -/
  txErrs : List (Nat × Nat) := []
  rxErrs : List (Nat × Nat) := []
  /-- TX: TX_DISCARDS of the last STATUS. -/
  discards : Nat := 0
  /-- RX: frames in a row without K28.5 at symbol 0 (R153). -/
  noComma : Nat := 0
  /-- Training of the pair (R146 to R148), kept with its TX lane. -/
  bitLock : Bool := false
  symLock : Bool := false
  sets : Nat := 0
  tbs : Nat := 0
  tbSent : Nat := 0
  sawTa : Bool := false
  sawTb : Bool := false
  mismatch : Bool := false
  badCrc : Bool := false
  block : Option (BitVec 128) := none
  blocks : Nat := 0
  /-- The lane is in electrical idle because its partition sleeps without SLEEP_EN (R391, R396). -/
  gatedIdle : Bool := false
  /-- Host-link lanes: failed attempts (R265). -/
  attempts : Nat := 0
deriving DecidableEq, Repr, Inhabited

/-- A running self-test slice (chapter 18): its kind, its target's source ID, what of the target it tests (an SRAM
segment, a logical channel, the layer), and the uptime of its start. -/
structure Slice where
  kind : Nat
  target : Nat
  part : Nat
  since : Nat
  budget : Nat
  /-- It belongs to the start-up set, which has no budget (R388). -/
  startup : Bool := false
  /-- A loopback slice: 0 near end, 1 far end (R379). -/
  stage : Nat := 0
deriving DecidableEq, Repr, Inhabited

/-- The self-test scheduler (chapter 18). -/
structure SelfTest where
  slices : List Slice := []
  /-- Uptime in µs at which the last run of a kind on a target and part ended. -/
  ended : List ((Nat × Nat × Nat) × Nat) := []
  /-- The start-up set runs, since this uptime (R388). -/
  setRuns : Option Nat := none
  /-- The slices of the start-up set that have run to their end: kind, target, part (R388). -/
  setDone : List (Nat × Nat × Nat) := []
  /-- Kinds that failed in the start-up set, bit k - 1 for kind k. -/
  failedKinds : Nat := 0
deriving DecidableEq, Repr, Inhabited

/-- A mode command that waits for the frame boundary (R392, R394). -/
inductive ModeCmd where
  | setMode (mode parts : Nat)
  | start (parts origin : Nat)
deriving DecidableEq, Repr

/-- What a reset with PWROK high leaves for BOOT to restore (R236, R249, R256, R259, R404): shift and remap registers, the
substituted layer and the channel map, retired channels, engines and capture units, molted lane directions. -/
structure Kept where
  regs : List (Nat × Word) := []
  subst : Option Nat := none
  map : List Nat := []
  spareBad : Bool := false
  chans : List Nat := []
  engines : List Nat := []
  caps : List Nat := []
  lanesTx : List Nat := []
  lanesRx : List Nat := []
  hostTx : List Nat := []
  hostRx : List Nat := []
deriving DecidableEq, Repr, Inhabited

/-- Modes and start-up (chapter 19). -/
structure ModeUnit where
  /-- Commands that passed their first check and wait for the boundary, oldest first. -/
  cmds : List ModeCmd := []
  /-- A DEEP exit runs (R399). -/
  exiting : Bool := false
  /-- The uptime at which its last step, the training of lanes and host link, began (R399). -/
  retrains : Option Nat := none
  /-- A reset that the host's RESET command (true) or the sideband's REQ_RESET has asked for, until the write or the response has
  completed (R406). -/
  resetDue : Option Bool := none
  /-- Memory training has completed: DRAM space is served (R295). -/
  memReady : Bool := false
  /-- DRAM contents have been lost since they were last written whole: the next start-up read-verify writes (R388). -/
  coldDram : Bool := true
  kept : Kept := {}
deriving DecidableEq, Repr, Inhabited

/-- Clock gating (R330, R331): refused requests with the power state at which they were refused, and blocks woken on
demand with the FCLK of their last request. -/
structure GateUnit where
  refused : List (Nat × Nat) := []
  woken : List (Nat × Nat) := []
deriving DecidableEq, Repr, Inhabited

/-- Clocks (chapter 15): good monitor windows in a row while HCK is lost, and whether a PLL that lost lock still tries. -/
structure ClkUnit where
  goodWindows : Nat := 0
  trying0 : Bool := false
  trying1 : Bool := false
  /-- A PLL has relocked with none locked, and the monitor window then in progress has not ended (R326). -/
  skipWin : Bool := false
  /-- VLANE is switched off in DEEP (R334). -/
  vlaneOff : Bool := false
deriving DecidableEq, Repr, Inhabited

/-- A command of the fuse sequencer (R310 to R315). -/
structure FuseCmd where
  op : Nat
  lockRow : Bool
  word : Nat
  setting : Nat
  data : Nat
  /-- The Almanac issued it (R344). -/
  almanac : Bool := false
deriving DecidableEq, Repr, Inhabited

/-- The fuse array (R296): the two physical copies of each of the 128 words and of the lock row, as blown. -/
structure FuseUnit where
  words : Vector Word 128
  twins : Vector Word 128
  locks : Nat
  lockTwins : Nat
  /-- The command that runs. -/
  cmd : Option FuseCmd := none
  /-- The next sensing is skipped and the shadows stay (R317). -/
  held : Bool := false
deriving DecidableEq, Repr

/-- Pins and straps the cube reads. -/
structure Pins where
  /-- CUBE_ID[2:0] as latched when RESET_N deasserted (R290). -/
  straps : Nat := 0
  resetN : Bool := true
  pwrok : Bool := true
deriving DecidableEq, Repr, Inhabited

/-- What drives the output pins (R389): the core, the boundary-scan cells, nothing, or a test signal of IEEE 1149.6 on the
AC-coupled pins. -/
inductive Drive where
  | core
  | cells
  | highZ
  | pulse
  | train
deriving DecidableEq, Repr, Inhabited

/-- Where the TAP controller stands, as far as TDO shows it (R427, IEEE 1149.1). -/
inductive TapState where
  | other
  | shiftDr
  | shiftIr
deriving DecidableEq, Repr, Inhabited

/-- The test access port (R389): the instruction in effect, what its data register captured, the boundary-scan cells, the
layer and the engine whose wrappers are selected. -/
structure TapUnit where
  ir : Nat := 0x01
  dr : Nat := 0x116646B3
  /-- What the cells sampled, and what they were loaded with. -/
  sampled : List Bool := []
  cells : List Bool := []
  drive : Drive := .core
  layer : Option Nat := none
  wrap : Option Nat := none
  /-- The engine that a WRAP_SEL access waits for while a slice tests it. -/
  waits : Option Nat := none
  /-- A command shifts its instruction and data and leaves the shift states (log 203). -/
  ctl : TapState := .other
deriving DecidableEq, Repr, Inhabited

/-- Work of the firmware on an image that waits for DRAM: the overlay of OVERLAY, or the update of UPDATE or FW_END, from
len bytes at cube address src (R342, R345, R363). -/
inductive FwJob where
  | overlay (src len : Nat)
  | update (src len : Nat) (sideband : Bool)
deriving DecidableEq, Repr, Inhabited

/-- A firmware update in progress (R345): the header of the new image, its slot, the uptime since which it waits for a
quiet point, whether it came by the sideband, and the uptime of the restart. -/
structure FwUpd where
  hdr : List Byte
  slot : Nat
  since : Nat
  sideband : Bool
  restarted : Option Nat := none
deriving DecidableEq, Repr, Inhabited

/-- The sideband target (R358 to R363). -/
structure Sideband where
  ptr : Nat := 0
  req : List Byte := List.replicate 64 0
  /-- The request that is being served: SB_REQ as it stood at the doorbell. -/
  cur : List Byte := []
  resp : List Byte := List.replicate 64 0
  busy : Bool := false
  ready : Bool := false
  /-- The bytes the target has driven in its last answer, or the byte it was read last (R358, R359). -/
  out : List Byte := []
  /-- IBIs are enabled (ENEC), and the payload of the last one raised. -/
  ibiOn : Bool := false
  ibi : Option Nat := none
  /-- A firmware transfer: image length and the next offset expected. -/
  fw : Option (Nat × Nat) := none
deriving DecidableEq, Repr, Inhabited

/-- A base-die site (R347, R348): its value now in 1/8 °C, samples in a row with the selected pair apart, and with some
pair agreeing. -/
structure Site where
  temp : Int := 0
  apart : Nat := 0
  agree : Nat := 0
deriving DecidableEq, Repr, Inhabited

/-- A molt or repair that fell due while the Almanac restarted (R346): it starts when the Almanac is back. -/
inductive Later where
  | laneTx (k : Nat)
  | laneRx (k : Nat)
  | hostTx (l : Nat)
  | hostRx (l : Nat)
  | engine (e : Nat)
  | capture
  | layer (n : Nat) (cs : List Nat)
  | subst (n : Nat)
  /-- Phase p of rail r has been disabled; the phase map before it. -/
  | phase (p r before : Nat)
deriving DecidableEq, Repr, Inhabited

/-- The management subsystem (chapter 16). -/
structure AlmUnit where
  /-- The SRAM log ring, oldest first; at most 512 entries (R356). -/
  log : List LogEnt := []
  /-- The SEQ the DRAM log copy has reached. -/
  copied : Nat := 0
  /-- Entries dropped and not yet reported: the first lost SEQ and the count (R356). -/
  gap : Option (Nat × Nat) := none
  /-- Log entries raised by hardware while the Almanac restarts; at most 64 (R346). -/
  intake : List LogEnt := []
  /-- Entries that found the intake queue full (R346, R356). -/
  intakeLost : Nat := 0
  /-- The firmware has formed effective temperatures since reset (R353). -/
  rounds : Bool := false
  /-- Stage 1 of a firmware load: is a load open, and the bytes received since OPEN (R341). -/
  fwOpen : Bool := false
  fwIn : List Byte := []
  /-- The header of the firmware in force, and of the firmware before an update (R342, R345). -/
  hdr : List Byte := []
  former : List Byte := []
  upd : Option FwUpd := none
  job : Option FwJob := none
  /-- The anti-rollback version the firmware in force has yet to advance to (R344). -/
  advance : Option Nat := none
  sb : Sideband := {}
  /-- Live effective temperatures of the layers (R353) and the live site values, whatever is reported. -/
  eff : Vector Int 17 := Vector.replicate 17 0
  sites : Vector Site 32 := Vector.replicate 32 {}
  /-- Since when every temperature has been at or below 95.0 °C (R208). -/
  coolSince : Option Nat := none
  /-- VIN in mV and input power in units of 100 mW, as last measured. -/
  vin : Nat := 0
  /-- VIN in mV as it is, whether or not reported values are held (R310). -/
  vinNow : Nat := 0
  power : Nat := 0
  /-- A layer has been SUSPECT during the calibration that runs (R352). -/
  calSuspect : Bool := false
  /-- A calibration has been asked for (R349). -/
  calReq : Bool := false
  /-- The entry last copied into the DRAM ring (R356). -/
  lastCopied : Option LogEnt := none
  /-- What waits for the end of a restart, oldest first (R346). -/
  later : List Later := []
deriving DecidableEq, Repr

/-- A data link frame kept for replay (R268): its FSEQ, its payload bytes, the offsets in it at which a RESPONSE ends, and how
often it has been replayed. -/
structure TxLinkFrame where
  fseq : Nat
  bytes : List Byte
  ends : List Nat
  tries : Nat := 0
deriving DecidableEq, Repr, Inhabited

/-- The byte stream that the host's data link frames deliver (R269, R274). -/
structure RxStream where
  /-- The bytes from the first byte of the oldest packet that is not complete on. -/
  bytes : List Byte := []
  /-- The frames that hold them, oldest first: FSEQ, payload bytes, and how many of these are among `bytes`. -/
  frames : List (Nat × Nat × Nat) := []
  /-- Bytes to be skipped in the frames that come next: a replay brings them again. -/
  skip : Nat := 0
  /-- The packets delivered to the packet layer and not yet taken by it, oldest first: TYPE and packet (R270, R278). -/
  got : List (Nat × Pkt) := []
deriving DecidableEq, Repr, Inhabited

/-- The last link frame sent (R262): type, FSEQ, ACK, payload bytes. -/
structure LinkOut where
  typ : Nat
  fseq : Nat
  ack : Nat
  bytes : List Byte
deriving DecidableEq, Repr, Inhabited

/-- A RESPONSE that waits for VC2 credit (R282, R285). -/
structure Resp where
  tag : Nat
  status : Nat
  csr : Bool
  addr : Nat
  count : Nat
  data : List Byte
deriving DecidableEq, Repr, Inhabited

/-- What a host request does. -/
inductive HKind where
  | read
  | write
  | posted
  | vtset
deriving DecidableEq, Repr, Inhabited

/-- A request accepted from the host that has not been executed (R281). -/
structure HReq where
  kind : HKind
  pkt : Pkt
  /-- Accepted before the link restarted with FRESH = 1: it completes, and its response is discarded (R294). -/
  stale : Bool := false
deriving DecidableEq, Repr

/-- The host link (chapter 13). -/
structure Hlink where
  /-- Events that await VC3 credit or a link that is UP, oldest first; at most 256 (R289). -/
  evq : List Event := []
  /-- The next event sequence number. -/
  evSeq : Nat := 0
  /-- An event was lost since the last one sent: the next EVENT carries FLAGS.LOST (R289). -/
  evLost : Bool := false
  /-- Physical lanes 0 to 8, training as of a vector pair. -/
  lanes : Vector Lane 9 := Vector.replicate 9 {}
  /-- The cube holds no link-layer state: it sends FRESH = 1 (R294). -/
  fresh : Bool := true
  /-- The FSEQ expected next, the last FSEQ the cube acknowledges, and whether a requested replay is awaited. -/
  rxNext : Nat := 0
  ackOut : Nat := 0xFFF
  await : Bool := false
  /-- The FSEQ of the next data link frame, the frames kept for replay, and how many were acknowledged since FRESH. -/
  txNext : Nat := 0
  buf : List TxLinkFrame := []
  acked : Nat := 0
  /-- Responses queued; requests accepted and not executed. -/
  rsp : List Resp := []
  waiting : List HReq := []
  /-- Units of VC0 and VC1 the host may still spend, and units to be returned. -/
  free0 : Nat := 4096
  free1 : Nat := 4096
  owe0 : Nat := 0
  owe1 : Nat := 0
  /-- Units of VC2 and VC3 the cube may spend. -/
  cred2 : Nat := 0
  cred3 : Nat := 0
  /-- An unanswered MOLT (R272): the request, the logical lane, the old lane, and whether it is a cube TX molt. -/
  molt : Option (CtrlReq × Nat × Nat × Bool) := none
  nextTag : Nat := 1
  /-- Molts that wait for the link to be UP or for the one that runs to end (R404): cube TX or not, logical lane, and whether
  the lane has failed (else a command asks for the molt). -/
  wants : List (Bool × Nat × Bool) := []
  /-- The byte stream received. -/
  rx : RxStream := {}
  /-- A LINK event about a width change is owed, with the status after the change (R430). -/
  widthEvt : Bool := false
  /-- The width at which the link was UP last; 0 before. -/
  lastWidth : Nat := 0
  /-- Uptime of the last LINK event about a cube-ID mismatch (R290). -/
  idEvent : Option Nat := none
  out : Option LinkOut := none
deriving DecidableEq, Repr, Inhabited

end Sys2Proof.Machine
end

