-- ==== Sys2Proof/Machine/State.lean ====
section
/-! DEFINITION. The state of the cube, the ways a command can stop, and the state after reset. -/
namespace Sys2Proof.Machine

/-- Why the machine stops with a fault: the spec gives the cube no such behaviour, so there is no reason. -/
inductive Fault where
deriving DecidableEq, Repr

/-- Why a command has no meaning. -/
inductive Refusal where
  /-- The command named has no meaning in this model yet. Raised by the dispatcher alone; safe: the run stops. -/
  | notModelled (mnemonic : String)
deriving DecidableEq, Repr

/-- The cube: registers, memories, queues and running activities, and the commands that wait, first in first out. -/
structure State where
  /-- Commands that wait, the front first. -/
  pending : List Instr
  /-- What a read of CSR space returns, where it differs from the reset value; for an RWP register the pending copy. -/
  csr : List (Nat × Word)
  /-- The value in effect of RWP registers (R5, R9), where it differs from the reset value. -/
  eff : List (Nat × Word)
  /-- What events have brought to a register in the present FCLK cycle (R7, R8): its word before the first of them, and
  the bits they set or the amounts they counted, in the register's own places. -/
  fresh : List (Nat × Option (Word × Word))
  clk : Clock
  pauses : Pauses
  vt : VtUnit
  img : ImageUnit
  /-- DRAM bytes by physical channel * 2^31 + channel offset, where they differ from what an unlisted byte reads as. -/
  dram : List Host.Cell
  /-- Flipped bits of stored granules by physical channel * 2^25 + granule number; unlisted: none (R240). -/
  masks : List (Nat × BitVec 576)
  /-- Bit c: the start-up read-verify has written every host-usable granule of physical channel c since power-up
  (R388). -/
  filled : Nat
  engs : Vector Engine 72
  mcs : Vector Mc 34
  caps : Vector CaptureUnit 9
  lanes : Vector Lane 100
  bw : BwUnit
  pins : Pins
  gates : GateUnit
  clocks : ClkUnit
  st : SelfTest
  modes : ModeUnit
  faults : FaultUnit
  alm : AlmUnit
  fuses : FuseUnit
  hl : Hlink
  tap : TapUnit
  /-- The model's own field, not the spec's: how many free values have been drawn. -/
  free : Nat
deriving DecidableEq, Repr

/-- The seal of a block (R302): the CRC-32 of words 0 to 14, little-endian in word order. -/
def fuseSeal (ws : List Word) : Word := BitVec.ofNat 32 (crc32 ((ws.take 15).flatMap fun w => natLe 4 w.toNat))

/-- The fuse array at shipment (R297): B0, B1, B4, B5 and B6 sealed, L1, L4, L5 and L6 set, B2, B3 and B7 blank; no
repair, no trim, no limited setting; B1 holds a FIRMWARE key. The spec gives neither the key digest nor the contents of
the factory words: those here are the model's (DESIGN CHOICE, log 6). -/
def fuseShipment : FuseUnit :=
  let ws : Vector Word 128 :=
    let zero : List Word := List.replicate 15 0
    let key : List Word := 1 :: List.replicate 11 0 ++ [1, 0, 0]
    let z := (upFrom 0 15).foldl (fun (v : Vector Word 128) i =>
      v.setIfInBounds (16 + i) (key.getD i 0)) (Vector.replicate 128 0)
    let z := [0, 4, 5, 6].foldl (fun (v : Vector Word 128) b => v.setIfInBounds (16 * b + 15) (fuseSeal zero)) z
    z.setIfInBounds 31 (fuseSeal key)
  { words := ws, twins := ws, locks := 0x72, lockTwins := 0x72 }

/-- The machine right after RESET_N deasserts at power-up: every register at its reset value, every queue empty;
GLOBAL_RESET_CAUSE says that PWROK rose. -/
def State.reset : State where
  pending := []
  csr := [(0x34, 1)]
  eff := []
  fresh := []
  clk := {}
  pauses := {}
  vt := {}
  img := { active := Img.empty }
  dram := []
  masks := []
  filled := 0
  engs := Vector.replicate 72 {}
  mcs := Vector.replicate 34 {}
  caps := Vector.replicate 9 {}
  lanes := Vector.replicate 100 {}
  bw := {}
  pins := {}
  gates := {}
  clocks := {}
  st := {}
  modes := {}
  faults := {}
  alm := {}
  fuses := fuseShipment
  hl := {}
  tap := {}
  free := 0

end Sys2Proof.Machine
end

