-- ==== Sys2Proof/Machine/Ops.lean ====
section
/-! DEFINITION. The named operations every meaning is built from: registers and their fields, time, free values, log
entries, events, fault messages, the alive mask and the partitions' modes. -/
namespace Sys2Proof.Machine
open Csr

/-- The register at address a, as a read without side effects returns it. -/
def State.reg (s : State) (a : Nat) : Word := cget csrReset s.csr a

/-- The register file is canonical: so it is in State.reset, and every command keeps it so. -/
abbrev State.regsOk (s : State) : Prop := cwf csrReset s.csr = true

/-- Replace the register at address a. -/
def State.setReg (s : State) (a : Nat) (w : Word) : State := { s with csr := cput csrReset s.csr a w }

/-- A field of a register. -/
def State.rd (s : State) (f : Fld) : Nat := bits (s.reg f.addr).toNat f.lo f.w

/-- A one-bit field. -/
def State.flag (s : State) (f : Fld) : Bool := s.rd f ≠ 0

/-- Put a value into a field, whatever its access code: the cube's own update. -/
def State.put (s : State) (f : Fld) (v : Nat) : State :=
  s.setReg f.addr (BitVec.ofNat 32 (putBits (s.reg f.addr).toNat f.lo f.w v))

/-- Put a two's complement value into a field. -/
def State.puti (s : State) (f : Fld) (v : Int) : State := s.put f (ofInt f.w v)

/-- What events have brought to the register at address a in the present FCLK cycle. -/
def State.freshAt (s : State) (a : Nat) : Option (Word × Word) := cget (fun _ => none) s.fresh a

/-- An event brings something to a field (R7, R8): kept until the FCLK cycle ends. -/
def State.noteEvent (s : State) (f : Fld) (v : Nat → Nat) : State :=
  let x := (s.freshAt f.addr).getD (s.reg f.addr, 0)
  let y := BitVec.ofNat 32 (putBits x.2.toNat f.lo f.w (v (bits x.2.toNat f.lo f.w)))
  { s with fresh := cput (fun _ => none) s.fresh f.addr (some (x.1, y)) }

/-- An event sets a one-bit field. -/
def State.on (s : State) (f : Fld) : State := (s.noteEvent f fun _ => 1).put f 1

/-- An event sets bit i of a field whose bits are each of their own. -/
def State.onBit (s : State) (f : Fld) (i : Nat) : State :=
  (s.noteEvent f fun m => putBit m i true).put f (putBit (s.rd f) i true)

/-- Clear a one-bit field. -/
def State.off (s : State) (f : Fld) : State := s.put f 0

/-- Set a one-bit field to a truth value. -/
def State.putb (s : State) (f : Fld) (b : Bool) : State := s.put f (b2n b)

/-- Add to a counter field that saturates at its largest value. -/
def State.add (s : State) (f : Fld) (n : Nat) : State :=
  (s.noteEvent f fun m => satAdd f.w m n).put f (satAdd f.w (s.rd f) n)

/-- Add 1 to a counter field that saturates. -/
def State.inc (s : State) (f : Fld) : State := s.add f 1

/-- Raise a peak field to at least v. -/
def State.peak (s : State) (f : Fld) (v : Nat) : State :=
  (s.noteEvent f fun m => max m (min v (2 ^ f.w - 1))).put f (max (s.rd f) (min v (2 ^ f.w - 1)))

/-- Add 1 to a field that wraps (IMAGE_STATUS.ACTIVE_GEN and its like). -/
def State.incMod (s : State) (f : Fld) : State := s.put f (s.rd f + 1)

/-- The word in effect of an RWP register (R5, R9). -/
def State.effReg (s : State) (a : Nat) : Word := cget csrReset s.eff a

/-- A field of the word in effect. -/
def State.erd (s : State) (f : Fld) : Nat := bits (s.effReg f.addr).toNat f.lo f.w

/-- Replace the word in effect. -/
def State.setEff (s : State) (a : Nat) (w : Word) : State := { s with eff := cput csrReset s.eff a w }

/-- Set both the pending copy and the word in effect (R9, R412). -/
def State.setBoth (s : State) (a : Nat) (w : Word) : State := (s.setReg a w).setEff a w

/-- Make the word in effect equal the pending copy, for each address (a commit that passes, R9). -/
def State.commitAll (s : State) : List Nat → State
  | [] => s
  | a :: r => (s.setEff a (s.reg a)).commitAll r

/-- Does some pending copy differ from the word in effect (R412)? -/
def State.dirty (s : State) (as : List Nat) : Bool := as.any fun a => s.reg a ≠ s.effReg a

/-- A fold that threads the state through a list. -/
def State.each {α : Type} (s : State) (l : List α) (f : State → α → State) : State := l.foldl f s

/-- Change the state where a test holds. -/
def State.when (s : State) (c : Bool) (f : State → State) : State := if c then f s else s

/-! Free values -/

/-- Draw a free number below a bound (bound 0: any number). -/
def State.draw (s : State) (bound : Nat) : Nat × State :=
  let v := Config.freeNat s.free
  (if bound = 0 then v else v % bound, { s with free := s.free + 1 })

/-- Draw a free bit. -/
def State.drawBit (s : State) : Bool × State := (Config.freeBit s.free, { s with free := s.free + 1 })

/-! Time and pauses -/

/-- Is the data plane paused (R17)? -/
def Pauses.any (p : Pauses) : Bool := p.hck || p.switchover || p.trip || p.rail || p.deep

/-- Does the data plane stand still: paused (R17), or in reset in HOLD (R390)? -/
def State.paused (s : State) : Bool :=
  s.pauses.any || bits (cget csrReset s.csr 0x10).toNat 0 3 = 0

/-- Microseconds since RESET_N deasserted. -/
def State.now (s : State) : Nat := s.clk.uptime

/-- Has the cube's VT reached v (R49)? -/
def State.reached (s : State) (v : Nat) : Bool := vtGe s.vt.vt v

/-- VT_STATUS.STATE: VT is FREE (R51). -/
def vtFree : Nat := 0

/-- The nominal VT_RATE for a tick period of t ps: 10^6 / (850 t) ticks per FCLK in 8.24 fixed point, rounded to
nearest (R50, R53). -/
def nominalRate (t : Nat) : Nat := (2 * 2 ^ 24 * 1000000 + 850 * t) / (2 * (850 * t))

/-- VT enters FREE, where it advances at the nominal rate and waits out no correction (R50, R51). -/
def State.vtFreeRun (s : State) : State :=
  let s : State := { s with vt := { s.vt with owed := 0 } }
  (s.put VT_RATE_RATE (nominalRate (s.rd VT_TICK_PS_TICK_PS))).put VT_STATUS_STATE vtFree

/-! The log (R355, R356) -/

/-- Is time kept on ROSC now (R325)? -/
def State.roscTimed (s : State) : Bool := s.flag CLKPWR_STATUS_HKCK_ROSC

/-- Bytes 14 and 15 of a log entry (R355): source, severity, ROSC_TIMED, VT_UNLOCKED, CONT. -/
def logWordOf (src sev : Nat) (rosc unlocked cont : Bool) : Nat :=
  src % 1024 + sev * 2 ^ 10 + b2n rosc * 2 ^ 12 + b2n unlocked * 2 ^ 13 + b2n cont * 2 ^ 14

/-- Is VT not LOCKED (R355)? -/
def State.vtUnlocked (s : State) : Bool := s.rd VT_STATUS_STATE ≠ 1

/-- Those bytes of an entry that arises now. -/
def State.logWord (s : State) (src sev : Nat) (rosc cont : Bool) : Nat := logWordOf src sev rosc s.vtUnlocked cont

/-- Append an entry to the SRAM ring of 512; an uncopied entry that would be overwritten is dropped and counted. -/
def State.ringPut (s : State) (e : LogEnt) : State :=
  let l := s.alm.log ++ [e]
  if l.length ≤ 512 then { s with alm := { s.alm with log := l } }
  else
    let old := l.headD e
    let s := { s with alm := { s.alm with log := l.drop 1 } }
    if s.alm.copied ≤ old.seq then
      let s := s.inc ALM_LOG_LOST_LOST
      { s with alm := { s.alm with
          gap := some (match s.alm.gap with | some (f, n) => (f, n + 1) | none => (old.seq, 1))
          copied := old.seq + 1 } }
    else s

/-- Append an entry under the next SEQ. -/
def State.ringAdd (s : State) (vt up kind word data : Nat) : State :=
  let seq := s.rd ALM_LOG_NEXT
  (s.ringPut (LogEnt.mk vt up kind word seq data)).put ALM_LOG_NEXT (seq + 1)

/-- When there is room again, the LOG_GAP entry that reports dropped entries (R356). -/
def State.logGapFlush (s : State) : State :=
  match s.alm.gap with
  | some (f, n) =>
    if s.alm.log.length < 512 || (match s.alm.log with | e :: _ => e.seq < s.alm.copied | [] => true) then
      let s := { s with alm := { s.alm with gap := none } }
      s.ringAdd s.vt.vt s.now 0x0109 (s.logWord 0x380 0 s.roscTimed false)
        (Config.logData 0x0109 (f + n * 2 ^ 32) % 2 ^ 96)
    else s
  | none => s

/-- Write a log entry with the stamps given; while the Almanac restarts it waits in the 64-entry intake queue, which held
fault messages share, and one that finds it full is lost (R346, R356). -/
def State.logStamped (s : State) (vt up kind word data : Nat) : State :=
  if s.rd ALM_STATUS_STATE = 3 then
    if s.faults.intake.length + s.alm.intake.length < 64 then
      { s with alm := { s.alm with intake := s.alm.intake ++ [LogEnt.mk vt up kind word 0 data] } }
    else
      let s := s.inc ALM_LOG_LOST_LOST
      { s with alm := { s.alm with intakeLost := s.alm.intakeLost + 1 } }
  else (s.logGapFlush).ringAdd vt up kind word data

/-- Write a log entry of a log kind (R357): source, contents of DATA. -/
def State.log (s : State) (kind src data : Nat) : State :=
  s.logStamped s.vt.vt s.now kind (s.logWord src 0 s.roscTimed false) (Config.logData kind data % 2 ^ 96)

/-- Write a before-and-after record: an entry and its continuation (R355). -/
def State.log2 (s : State) (kind src before after : Nat) : State :=
  let s := s.log kind src before
  s.logStamped s.vt.vt s.now kind (s.logWord src 0 s.roscTimed true)
    (Config.logData kind after % 2 ^ 96)

/-- Entries lost before they reached the ring take the next n SEQs, which a LOG_GAP reports (R356). -/
def State.logSkip (s : State) (n : Nat) : State :=
  if n = 0 then s
  else
    let seq := s.rd ALM_LOG_NEXT
    let s := { s with alm := { s.alm with
      gap := some (match s.alm.gap with | some (f, m) => (f, m + n) | none => (seq, n)) } }
    (s.put ALM_LOG_NEXT (seq + n)).logGapFlush

/-- Move the entries of the intake queue into the ring when the Almanac is ready again (R346); those it had no room for
come after them. -/
def State.logDrainIntake (s : State) : State :=
  let es := s.alm.intake
  let lost := s.alm.intakeLost
  let s := { s with alm := { s.alm with intake := [], intakeLost := 0 } }
  (s.each es fun s e => (s.logGapFlush).ringAdd e.vt e.uptime e.kind e.word e.data).logSkip lost

/-- Does the Almanac restart, so that no molt, repair or remap allocation starts (R346)? -/
def State.restarting (s : State) : Bool := s.rd ALM_STATUS_STATE = 3

/-- What ALM_STATUS.STATE shows (R345): RESTARTING for 20 ms at most; afterwards, until the new firmware reports ready or the
former one serves again, LOADER (DESIGN CHOICE, log 198). -/
def State.almState (s : State) : Nat :=
  if s.restarting && (s.alm.upd.bind FwUpd.restarted).any (fun t => t + 20000 < s.now) then 0 else s.rd ALM_STATUS_STATE

/-- Have the blocks left reset: the fuses are sensed, or sensing has failed and the ROM loader alone runs (R301, R305)? -/
def State.sensed (s : State) : Bool := s.flag FUSE_STATUS_SENSED || s.flag FUSE_STATUS_T_FAIL

/-- A molt or repair waits for the end of the restart. -/
def State.defer (s : State) (x : Later) : State :=
  { s with alm := { s.alm with later := s.alm.later.filter (fun y => y ≠ x) ++ [x] } }

/-! Events (R287 to R289) -/

/-- Queue an event; one that finds 256 queued is lost and counted. -/
def State.event (s : State) (code sub detail addr : Nat) : State :=
  let e := { seq := s.hl.evSeq, addr := addr, vt := s.vt.vt, code := code, sub := sub % 256,
             detail := detail % 2 ^ 64, uptime := s.now : Event }
  let s := { s with hl := { s.hl with evSeq := s.hl.evSeq + 1 } }
  if s.hl.evq.length < 256 then
    let s := { s with hl := { s.hl with evq := s.hl.evq ++ [e] } }
    s.put HLINK_EVQ_DEPTH s.hl.evq.length
  else
    let s := { s with hl := { s.hl with evLost := true } }
    s.inc HLINK_EVQ_LOST

/-- The image event (R288): SUB 0 done with IMAGE_STATUS, 1 failed with IMAGE_ERR, 2 alive change with GEN as DETAIL
(DEDUCED, log 78: the three DETAILs go with the three SUBs in order). -/
def State.imageEvent (s : State) (sub : Nat) : State :=
  s.event 0x01 sub
    (if sub = 0 then (s.reg 0x20018).toNat else if sub = 1 then (s.reg 0x2001C).toNat else s.rd IMAGE_ALIVE_MISC_GEN) 0

/-- The VT event (R288): SUB the new state, DETAIL VT_EDGE. -/
def State.vtEvent (s : State) : State := s.event 0x03 (s.rd VT_STATUS_STATE) (s.reg 0x10014).toNat 0

/-- A LINK event (R430): SUB the bit of HLINK_EVENT. -/
def State.linkEvent (s : State) (sub lo hi addr : Nat) : State :=
  s.event 0x06 sub (lo % 2 ^ 32 + hi % 2 ^ 32 * 2 ^ 32) addr

/-! Fault messages (R364 to R367) -/

/-- Source IDs (R365): (class << 7) | instance. -/
def srcEng (e : Nat) : Nat := e
def srcCap (u : Nat) : Nat := 0x080 + u
def srcMc (c : Nat) : Nat := 0x100 + c
def srcLane (k : Nat) : Nat := 0x180 + k
def srcHlane (n : Nat) : Nat := 0x200 + n
def srcFabric : Nat := 0x281
def srcCollector : Nat := 0x300
def srcScheduler : Nat := 0x301
def srcVt : Nat := 0x302
def srcImage : Nat := 0x303
def srcAlmanac : Nat := 0x380
def srcFuse : Nat := 0x381
def srcSideband : Nat := 0x382
def srcMonitor : Nat := 0x383
def srcRegulator : Nat := 0x384
def srcSensors : Nat := 0x386

/-- The fixed severity of a kind (R367). -/
def kindSeverity (k : Nat) : Nat :=
  if k = 0x36 || k = 0x37 || k = 0x61 then 0
  else if [0x21, 0x22, 0x30, 0x31, 0x32, 0x34, 0x38, 0x39, 0x3C, 0x40, 0x41, 0x64, 0x69, 0x6A].contains k then 1
  else if k = 0x3A || k = 0x3F || k = 0x60 then 3
  else 2

/-- Does the message come from an always-on source (R366)? -/
def alwaysOn (m : Msg) : Bool := m.src / 128 = 7 || [0x36, 0x37, 0x38, 0x39, 0x3A].contains m.kind

/-- Add a message's reaction (0 L, 1 F, 2 R, 3 S) to its source's reaction latch (R366). -/
def latchAdd (l : List Latch) (m : Msg) (react : Nat) : List Latch :=
  let old := (l.find? (fun x => x.src = m.src)).getD { src := m.src }
  let new := if react = 3 then { old with stops := old.stops ++ [m] }
    else if old.react < react then { old with react := react, kind := m.kind }
    else old
  if new.react = 0 && new.stops.isEmpty then l else new :: l.filter (fun x => x.src ≠ m.src)

/-- The source unit has sent a message: SEEN and LAST_KIND (R376). -/
def State.noteUnit (s : State) (m : Msg) : State :=
  (s.on (FAULT_UNIT_SEEN m.src)).put (FAULT_UNIT_LAST_KIND m.src) m.kind

/-- A message that finds its queue full: counted, and its reaction latched (R366). -/
def State.overrun (s : State) (m : Msg) : State :=
  let s := (((s.noteUnit m).inc (FAULT_KIND_COUNT m.kind)).inc FAULT_OVERRUN_COUNT).on FAULT_STATUS_OVERRUN
  let s := s.inc FAULT_COUNT_TOTAL
  { s with faults := { s.faults with latches := latchAdd s.faults.latches m (s.rd (FAULT_KIND_REACTION m.kind)) } }

/-- A message with the stamps of this moment. -/
def State.stamped (s : State) (m : Msg) : HeldMsg := HeldMsg.mk m s.vt.vt s.now s.roscTimed s.vtUnlocked

/-- Send a fault message to the collector (R366): into its source's queue of 4; during a pause an always-on source's
message goes to the Almanac's intake queue with its stamps, and a data-plane source sends none. -/
def State.raise (s : State) (m : Msg) : State :=
  if s.paused then
    if alwaysOn m then
      if s.faults.intake.length + s.alm.intake.length < 64 then
        { s with faults := { s.faults with
            intake := s.faults.intake ++ [s.stamped m] } }
      else s.overrun m
    else s
  else if (s.faults.queue.filter (fun x => x.src = m.src)).length < 4 then
    { s with faults := { s.faults with queue := s.faults.queue ++ [m] } }
  else s.overrun m

/-- A message with an ADDRESS and a DETAIL. -/
def State.raiseKD (s : State) (src kind addr detail : Nat) : State :=
  s.raise { src := src, kind := kind, addr := addr % 2 ^ 36, detail := detail % 2 ^ 16 }

/-! Units -/

/-- Channel controller c. -/
def State.mc (s : State) (c : Nat) : Mc := s.mcs.getD c {}

/-- Change channel controller c. -/
def State.updMc (s : State) (c : Nat) (f : Mc → Mc) : State := { s with mcs := s.mcs.setIfInBounds c (f (s.mc c)) }

/-- Engine e. -/
def State.eng (s : State) (e : Nat) : Engine := s.engs.getD e {}

/-- Change engine e. -/
def State.updEng (s : State) (e : Nat) (f : Engine → Engine) : State :=
  { s with engs := s.engs.setIfInBounds e (f (s.eng e)) }

/-! Modes (chapter 19) and partitions -/

/-- Device mode codes (GLOBAL_MODE.MODE) and partition mode codes. -/
def modeHold : Nat := 0
def modeBoot : Nat := 1
def modeReady : Nat := 2
def modeRun : Nat := 3
def modeIndex : Nat := 4
def modeMaint : Nat := 5
def modeSleep : Nat := 6
def modeDeep : Nat := 7

/-- The device mode. -/
def State.devMode (s : State) : Nat := s.rd GLOBAL_MODE_MODE

/-- Partition p's mode. -/
def State.pmode (s : State) (p : Nat) : Nat := s.rd (GLOBAL_PMODE_MODE p)

/-- Does the ACTIVE image declare partition p (R10)? -/
def State.declared (s : State) (p : Nat) : Bool := s.img.active.parts.any (fun r => r.part = p)

/-- The declared partitions in ascending number. -/
def State.partsList (s : State) : List Nat := (upFrom 0 16).filter s.declared

/-- M of partition p in the ACTIVE image (1 where it declares none). -/
def State.mPart (s : State) (p : Nat) : Nat :=
  match s.img.active.parts.find? (fun r => r.part = p) with
  | some r => r.m
  | none => 1

/-- P of partition p in the ACTIVE image. -/
def State.pPart (s : State) (p : Nat) : Nat := s.img.active.ppl.getD p 0

/-- The lanes the ACTIVE image gives engine e; none for an auxiliary engine. -/
def State.engLanes (s : State) (e : Nat) : List Nat :=
  match s.img.active.lanes.find? (fun l => l.engine = e) with
  | some l => l.tx
  | none => []

/-- The task record the ACTIVE image gives engine e. -/
def State.engRec (s : State) (e : Nat) : Option EngRec := s.img.active.engines.find? (fun r => r.engine = e)

/-- The partition engine e is bound to. -/
def State.engPart (s : State) (e : Nat) : Option Nat := (s.engRec e).map (·.desc.part)

/-- The engines bound to partition p. -/
def State.partEngs (s : State) (p : Nat) : List Nat :=
  (s.img.active.engines.filter (fun r => r.desc.part = p)).map (·.engine)

/-- The regions of partition p. -/
def State.partRegions (s : State) (p : Nat) : List Region := s.img.active.regions.filter (fun g => g.part = p)

/-- The logical channels under partition p's regions. -/
def State.partChans (s : State) (p : Nat) : Nat := (s.partRegions p).foldl (fun m g => m ||| g.chanMask) 0

/-- The partitions with a region on logical channel k. -/
def State.chanParts (s : State) (k : Nat) : List Nat := s.partsList.filter fun p => bit (s.partChans p) k

/-- The logical lanes of partition p. -/
def State.partLanes (s : State) (p : Nat) : List Nat := (s.partEngs p).flatMap s.engLanes

/-- The capture record of partition p. -/
def State.capRec (s : State) (p : Nat) : Option CapRec := s.img.active.caps.find? (fun c => c.part = p)

/-! The alive-resources mask (R46) -/

/-- Is physical engine e alive? -/
def State.aliveEng (s : State) (e : Nat) : Bool := (s.reg (0x20040 + 4 * (e / 32))).toNat.testBit (e % 32)
/-- Is logical TX lane l alive? -/
def State.aliveTx (s : State) (l : Nat) : Bool := (s.reg (0x20050 + 4 * (l / 32))).toNat.testBit (l % 32)
/-- Is logical RX lane l alive? -/
def State.aliveRx (s : State) (l : Nat) : Bool := (s.reg (0x20060 + 4 * (l / 32))).toNat.testBit (l % 32)
/-- Is logical channel k alive? -/
def State.aliveChan (s : State) (k : Nat) : Bool := (s.reg 0x20070).toNat.testBit k
/-- Is capture group g served by a working unit? -/
def State.aliveCap (s : State) (g : Nat) : Bool := (s.rd IMAGE_ALIVE_MISC_CAP_GROUPS).testBit g

/-- A command to block n (R331): on a gated block it changes nothing, its sender sees FABRIC_ERROR. -/
def State.clocked (s : State) (n : Nat) (f : State → State) : State := if s.flag (CLKPWR_GATE_GATED n) then s else f s

/-- Set bit b of the alive register at an address; a change increments GEN and sends an image event (R46). -/
def State.setAlive (s : State) (addr b : Nat) (v : Bool) : State :=
  let w := (s.reg addr).toNat
  if w.testBit b = v then s
  else ((s.setReg addr (BitVec.ofNat 32 (putBit w b v))).incMod IMAGE_ALIVE_MISC_GEN).imageEvent 2

end Sys2Proof.Machine
end

