-- ==== Sys2Proof/Machine/Addr.lean ====
section
/-! DEFINITION. Cube addresses and regions (R192), the channel map, and who must wait at a port (R191, R207, R372). -/
namespace Sys2Proof.Machine
open Csr

/-! Addresses -/

/-- The logical channel of a cube address (bits [35:31]). -/
def chanOf (addr : Nat) : Nat := addr / 2 ^ 31 % 32
/-- The channel offset of a cube address (bits [30:0]). -/
def offOf (addr : Nat) : Nat := addr % 2 ^ 31
/-- The granule number within the channel. -/
def granOf (addr : Nat) : Nat := offOf addr / 64
/-- The cube address of a granule of a logical channel. -/
def cubeAddr (k gran : Nat) : Nat := k * 2 ^ 31 + gran * 64
/-- Bank of a granule: pseudo-channel * 32 + bank. -/
def bankOf (gran : Nat) : Nat := gran / 2 ^ 24 * 32 + gran / 16 % 32
/-- Row of a granule. -/
def rowOf (gran : Nat) : Nat := gran / 512 % 32768
/-- Pseudo-channel of a granule. -/
def pcOf (gran : Nat) : Nat := gran / 2 ^ 24
/-- Does the channel offset lie in the system region (R21)? -/
def inSysRegion (off : Nat) : Bool := decide (0x7F000000 ≤ off)

/-- Bytes a region holds (R192). -/
def Region.total (g : Region) : Nat := g.size * popCount 32 g.chanMask

/-- The cube address of region byte offset o (R192). -/
def Region.addr (g : Region) (o : Nat) : Nat :=
  let cs := maskBits 32 g.chanMask
  let n := cs.length
  let unit := if g.interleave = 1 then 1024 else if g.interleave = 2 then 4096 else 65536
  let jl := if g.interleave = 0 then (o / g.size, o % g.size)
    else (o / unit % n, o / (unit * n) * unit + o % unit)
  cs.getD jl.1 0 * 2 ^ 31 + g.base + jl.2

/-- Does the cube address lie in the region? -/
def Region.has (g : Region) (addr : Nat) : Bool :=
  addr < 2 ^ 36 && bit g.chanMask (chanOf addr) && inRange (offOf addr) g.base (g.base + g.size)

/-- Do all n bytes from addr on lie in regions of partition p of the kinds allowed? Granule by granule. -/
def State.inRegions (s : State) (p : Nat) (kinds : List Nat) (addr n : Nat) : Bool :=
  let gs := (s.partRegions p).filter (fun g => kinds.contains g.kind)
  addr + n ≤ 2 ^ 36 &&
    (upFrom 0 ((addr % 64 + n + 63) / 64)).all fun i => gs.any fun g => g.has (addr / 64 * 64 + 64 * i)

/-- Do all n bytes from addr on lie in one region of partition p of a kind? Granule by granule. -/
def State.inRegion (s : State) (p kind addr n : Nat) : Bool :=
  addr + n ≤ 2 ^ 36 && (s.partRegions p).any fun g => g.kind = kind &&
    (upFrom 0 ((addr % 64 + n + 63) / 64)).all fun i => g.has (addr / 64 * 64 + 64 * i)

/-- The partition that owns the region a cube address lies in. -/
def State.ownerOf (s : State) (addr : Nat) : Option Nat :=
  (s.img.active.regions.find? (fun g => g.has addr)).map (·.part)

/-! Channels -/

/-- The physical channel that carries logical channel k under the map in effect (R12, R189). -/
def State.physOf (s : State) (k : Nat) : Nat := s.erd (MC_CHMAP_PHYS k)

/-- MC_STATE.STATE of a physical channel. -/
def State.mcState (s : State) (c : Nat) : Nat := s.rd (MC_STATE_STATE c)

/-- Must new requests of a master to logical channel k wait at their port: the channel is fenced (R372), held for a
map switch (R191), being retrained (R245) or waiting to be gated (R330)? -/
def State.chanHeld (s : State) (k : Nat) : Bool :=
  let c := s.physOf k
  s.mcState c = 3 || (s.mc c).moving.isSome || s.flag (MC_TRN_STAT_RUNNING c) || s.flag (CLKPWR_GATE_WAITING (2 * 128 + c))

/-- The block whose port a master's requests leave (R328, R365). -/
def masterBlock (m : Nat) : Nat := if m = srcFabric then 5 * 128 + 1 else m

/-- A request reaches block n: it wakes where it is gated (R331), and a woken block has been used. A fenced or retired block
stays gated (R329). -/
def State.wake (s : State) (n : Nat) : State :=
  if s.rd (FAULT_UNIT_STATE n) ≠ 0 then s
  else if s.flag (CLKPWR_GATE_GATED n) then
    let s := (s.off (CLKPWR_GATE_GATED n)).inc CLKPWR_GATE_STAT_WAKES
    { s with gates := { s.gates with woken := (n, s.clk.fclk) :: s.gates.woken.filter fun x => x.1 ≠ n } }
  else if s.gates.woken.any (fun x => x.1 = n) then
    { s with gates := { s.gates with woken := (n, s.clk.fclk) :: s.gates.woken.filter fun x => x.1 ≠ n } }
  else s

/-- Is partition p stalled by a throttled layer under one of its regions (R207)? -/
def State.throttled (s : State) (p : Nat) : Bool :=
  (maskBits 32 (s.partChans p)).any fun k => s.flag (MC_STATE_THROTTLE (s.physOf k))

/-- Is engine e held: the data plane paused (R17) or its partition stalled by a throttle (R207)? -/
def State.engHeld (s : State) (e : Nat) : Bool :=
  s.paused || match s.engPart e with
    | some p => s.throttled p
    | Option.none => false

end Sys2Proof.Machine
end

