-- ==== Sys2Proof/Machine/Port.lean ====
section
/-! DEFINITION. The master ports (chapter 10): the class group, token buckets, admission to a request queue, latency, and
the transfers that wait at a port. -/
namespace Sys2Proof.Machine
open Csr

/-! The class group (R211, R213, R218) -/

/-- Pair number of a class and a logical channel. -/
def pairN (c k : Nat) : Nat := 32 * c + k

/-- The address of the RESERVE and CAP register of a pair. -/
def rsvAddr (n : Nat) : Nat := 0x501000 + 8 * n
/-- The address of the SHARE register of a pair. -/
def shareAddr (n : Nat) : Nat := 0x501004 + 8 * n

/-- The group's registers. -/
def bwAddrs : List Nat := (upFrom 0 256).flatMap fun n => [rsvAddr n, shareAddr n]

/-- RESERVE, CAP and SHARE in a copy of the group. -/
structure BwCopy where
  rsv : Nat → Nat
  share : Nat → Nat

/-- RESERVE of a pair. -/
def BwCopy.reserve (b : BwCopy) (n : Nat) : Nat := b.rsv n % 256
/-- CAP of a pair. -/
def BwCopy.cap (b : BwCopy) (n : Nat) : Nat := bits (b.rsv n) 8 8

/-- The copies in effect. -/
def State.bwEff (s : State) : BwCopy := ⟨fun n => (s.effReg (rsvAddr n)).toNat, fun n => (s.effReg (shareAddr n)).toNat % 65536⟩
/-- The pending copies. -/
def State.bwPend (s : State) : BwCopy := ⟨fun n => (s.reg (rsvAddr n)).toNat, fun n => (s.reg (shareAddr n)).toNat % 65536⟩

/-- Tokens of a bucket, in 65 536ths. -/
def State.tokens (s : State) (n : Nat) : Nat := cget (fun _ => 0) s.bw.tokens n

/-- Whole tokens of a bucket. -/
def State.whole (s : State) (n : Nat) : Nat := s.tokens n / 65536

/-- Spend whole tokens of a bucket, as far as it has them. -/
def State.spend (s : State) (n k : Nat) : State :=
  if k = 0 then s
  else { s with bw := { s.bw with tokens := cput (fun _ => 0) s.bw.tokens n (s.tokens n - k * 65536) } }

/-- May a request of class c enter channel k's queue (R211)? -/
def State.queueAdmits (s : State) (k c : Nat) : Bool :=
  let q := (s.mc (s.physOf k)).rq
  let n := fun d => (q.filter fun r => r.acc.cls = d).length
  let b := s.bwEff
  let others := (upFrom 0 8).foldl (fun a d => if d = c then a else a + (b.reserve (pairN d k) - n d)) 0
  q.length < 64 && (n c < b.reserve (pairN c k) || (n c < b.cap (pairN c k) && others < 64 - q.length))

/-! Ports -/

/-- The port an access goes through: the Almanac and the self-test scheduler share one (R18). -/
def Acc.portId (a : Acc) : Nat × Bool := (if a.master = srcScheduler then srcAlmanac else a.master, a.port)

/-- The class of a master's request for a granule of logical channel k (R209); none where the cube has no such port, or
the granule lies in no region of a partition that the capture unit serves. -/
def State.portClass (s : State) (master : Nat) (port : Bool) (k gran : Nat) : Option Nat :=
  if master < 72 then (if port then none else (s.engRec master).map fun _ => (s.eng master).desc.cls)
  else if inRange master 0x80 0x89 then
    ((s.ownerOf (cubeAddr k gran)).bind s.capRec).map fun c => if port then c.mapClass else c.dmaClass
  else if port then none
  else if master = srcFabric then some (s.rd BW_CLASSMAP_HOSTDMA_CLASS)
  else if master = srcAlmanac || master = srcScheduler then some (s.rd BW_CLASSMAP_ALMANAC_CLASS)
  else none

/-- Must a request of a master for channel k wait whatever its tokens: the channel is held, the master waits to be gated, or
it is an engine that a throttle stalls (R191, R207, R330, R372)? -/
def State.accHeld (s : State) (a : Acc) (k : Nat) : Bool :=
  s.chanHeld k || s.flag (CLKPWR_GATE_WAITING (masterBlock a.master)) || (a.master < 72 && match s.engPart a.master with
    | some p => s.throttled p
    | none => false)

/-- Is the transfer behind a recorded wait still wanted: the engine's, the capture unit's or host DMA's request is
there? -/
def State.waitLive (s : State) (w : PortWait) : Bool :=
  let m := w.acc.master
  if m < 72 then
    let g := s.eng m
    let st := s.rd (ENG_STATE_STATE m)
    g.drqs.any (fun d => d.cube = w.addr) || g.vs.any (fun v => v.next = w.addr) || (st = 1 && g.desc.ldiSrc = w.addr) ||
      (w.acc.kind = 3 && st = 3 && (g.desc.progBase + g.pc.toNat) / 64 * 64 = w.addr)
  else if inRange m 0x80 0x89 then
    let c := s.caps.toList.getD (m - 0x80) {}
    if w.acc.port then c.lines.any (fun l => l.filling && l.gran = w.addr) || c.wbs.any (fun l => l.gran = w.addr)
    else ! c.segs.isEmpty || c.dump.any (fun d => d.2 = w.addr)
  else if m = srcFabric then
    s.hl.waiting.any (fun q => q.pkt.addr.toNat = w.addr) || s.img.src = w.addr
  else true

/-! Transfers (R210, R213, R214). A command that moves data stands for the whole transfer: each granule of it is a request
of its own, and the transfer goes when its last one may. -/

/-- Does a write of n bytes from addr on write the granule at g only in part (R196)? -/
def partialAt (a : Acc) (addr n g : Nat) : Bool := a.kind = 2 && (g < addr || addr + n < g + 64)

/-- What the granules of channel k cost in a transfer of n bytes from addr on, in order: two tokens for a partial write
(R213). -/
def xferCosts (a : Acc) (addr n k : Nat) : List Nat :=
  (((upFrom 0 ((addr % 64 + n + 63) / 64)).map fun i => addr / 64 * 64 + 64 * i).filter fun g => chanOf g = k).map fun g =>
    if partialAt a addr n g then 2 else 1

/-- What a recorded wait still has at its port: the costs of the granules that no regulator has released. -/
def PortWait.left (w : PortWait) : List Nat := (xferCosts w.acc w.addr w.len w.chan).drop w.paid

/-- Does a granule of a recorded wait stand at its port, and does its master still want it? -/
def State.stands (s : State) (w : PortWait) : Bool := ! w.left.isEmpty && s.waitLive w

/-- The classes whose requests for channel k hold a whole token and wait at a port (R214). -/
def State.holders (s : State) (k : Nat) : List Nat :=
  (upFrom 0 8).filter fun c => 1 ≤ s.whole (pairN c k) &&
    (s.bw.held.any (fun r => r.acc.cls = c && r.chan = k && ! s.accHeld r.acc k) ||
      s.bw.waits.any fun w => w.acc.cls = c && w.chan = k && ! s.accHeld w.acc k && s.stands w)

/-- Does a request of a lower class, which the queue would admit, wait at the port for channel k (R214)? -/
def State.lowerWaits (s : State) (a : Acc) (k : Nat) : Bool :=
  s.bw.held.any (fun r => r.acc.portId = a.portId && r.chan = k && r.acc.cls < a.cls && ! s.accHeld r.acc k &&
    s.queueAdmits k r.acc.cls) ||
  s.bw.waits.any fun w => w.acc.portId = a.portId && w.chan = k && w.acc.cls < a.cls && ! s.accHeld w.acc k &&
    s.queueAdmits k w.acc.cls && s.stands w

/-- Is channel k's surplus free for an access: no token-holding request waits, no lower class at its port, and the port has
released none of the channel in this FCLK cycle (R214)? -/
def State.surplusFree (s : State) (a : Acc) (k : Nat) (holds : Nat → Bool) : Bool :=
  ! (s.holders k).any holds && ! s.lowerWaits a k && ! s.bw.surplusAt.contains ((a.portId.1, a.portId.2, k), s.clk.live)

/-- A port has released a request of channel k on surplus in this FCLK cycle. -/
def State.surplusUsed (s : State) (a : Acc) (k : Nat) : State :=
  let key := (a.portId.1, a.portId.2, k)
  { s with bw := { s.bw with surplusAt := (key, s.clk.live) :: s.bw.surplusAt.filter fun x => x.1 ≠ key } }

/-! Latency (R221, R222) -/

/-- A granule request of class c for channel k that reached its port at a live FCLK completes. -/
def State.latencyAt (s : State) (c k since : Nat) : State :=
  let n := pairN c k
  let l := s.clk.live - since
  let s := s.peak (BW_LAT_MAX n) l
  let lim := s.rd (BW_LAT_LIMIT_LIMIT c)
  if lim = 0 || l ≤ lim then s
  else
    let s := s.onBit BW_STATUS_LAT_ALARM c
    let send := fun (s : State) =>
      ({ s with bw := { s.bw with latMsg := (n, s.now) :: s.bw.latMsg.filter fun x => x.1 ≠ n } }).raiseKD srcFabric 0x41 k c
    match s.bw.latMsg.find? (fun x => x.1 = n) with
    | some (_, t) => if s.now < t + 1000 then s else send s
    | none => send s

/-- The logical channels of n bytes from addr on. -/
def xferChans (addr n : Nat) : List Nat :=
  if n = 0 then [] else [chanOf addr, chanOf (addr + n - 1)].eraseDups

/-- The transfers that wait at the ports are those listed. -/
def State.setWaits (s : State) (l : List PortWait) : State := { s with bw := { s.bw with waits := l } }

/-- The recorded wait of a transfer for channel k. -/
def State.waitOf (s : State) (a : Acc) (addr k : Nat) : Option PortWait :=
  s.bw.waits.find? fun w => w.acc = a && w.addr = addr && w.chan = k

/-- The live FCLK at which a transfer reached its port, where its unit keeps it: a DRQ and a vector stream's granule from
their issue on, a map line from its fill or write-back on (R221, log 148). -/
def State.arrived (s : State) (a : Acc) (addr : Nat) : Option Nat :=
  if a.master < 72 then
    let g := s.eng a.master
    match g.drqs.find? fun d => d.cube = addr && d.write = decide (a.kind = 2) with
    | some d => some d.since
    | none => match g.vs with
      | some v => if v.next = addr then some v.since else none
      | none => none
  else if inRange a.master 0x80 0x89 && a.port then
    let c := s.caps.toList.getD (a.master - 0x80) {}
    (((if a.kind = 4 then c.lines.filter (·.filling) else c.wbs).find? fun l => l.gran = addr)).map (·.since)
  else none

/-- The live FCLK since which a transfer has been at its port. -/
def State.sinceOf (s : State) (a : Acc) (addr k : Nat) : Option Nat :=
  match s.waitOf a addr k with
  | some w => some w.since
  | none => s.arrived a addr

/-- Does an older request of its queue at the port wait before it (R210)? -/
def State.portBehind (s : State) (a : Acc) (addr k : Nat) : Bool :=
  let older := fun (t : Nat) => match s.sinceOf a addr k with
    | some x => decide (t < x)
    | none => true
  s.bw.held.any (fun r => r.acc.portId = a.portId && r.acc.cls = a.cls && r.chan = k && older r.stamp) ||
  s.bw.waits.any fun w => w.acc.portId = a.portId && w.acc.cls = a.cls && w.chan = k && older w.since && s.stands w

/-- Does a queued request of one of the transfer's granules come before it (R195): a write, or for a write a read too? -/
def State.rqBehind (s : State) (a : Acc) (addr n k : Nat) : Bool :=
  (s.mc (s.physOf k)).rq.any fun r => (r.write || a.kind = 2) && cubeAddr k r.gran < addr + n &&
    addr < cubeAddr k r.gran + 64

/-- May the transfer's granules for channel k go now if the regulator lets them: the channel is not held, its queue admits
the class, and nothing older comes first (R191, R195, R210, R211, R372)? -/
def State.portOpen (s : State) (a : Acc) (addr n k : Nat) : Bool :=
  ! s.chanHeld k && s.queueAdmits k a.cls && ! s.portBehind a addr k && ! s.rqBehind a addr n k

/-- Pay granules of the costs given with h whole tokens, each as long as one whole token is there: the tokens spent, the
granules paid, the costs of the rest (R213). -/
def payTokens : List Nat → Nat → Nat × Nat × List Nat
  | [], _ => (0, 0, [])
  | c :: r, h =>
    if h = 0 then (0, 0, c :: r)
    else
      let x := payTokens r (h - min c h)
      (min c h + x.1, x.2.1 + 1, x.2.2)

/-- What a regulator does for a transfer at its port in one FCLK cycle: the tokens it spends, the granules it releases,
whether one of them goes on surplus, and whether none is left. -/
structure PortPlan where
  spend : Nat
  grans : Nat
  surplus : Bool
  done : Bool

/-- The plan for a transfer of n bytes from addr on, for channel k (R213, R214): the granules that find a token, and one more
on surplus. -/
def State.portPlan (s : State) (a : Acc) (addr n k : Nat) : PortPlan :=
  if ! s.portOpen a addr n k then { spend := 0, grans := 0, surplus := false, done := false }
  else
    let left := (xferCosts a addr n k).drop (((s.waitOf a addr k).map (·.paid)).getD 0)
    let x := payTokens left (s.whole (pairN a.cls k))
    if ! x.2.2.isEmpty && s.surplusFree a k (fun c => c ≠ a.cls) then
      { spend := x.1, grans := x.2.1 + 1, surplus := true, done := (x.2.2.drop 1).isEmpty }
    else { spend := x.1, grans := x.2.1, surplus := false, done := x.2.2.isEmpty }

/-- Does logical channel k answer every request with an error response at once: retired, or it answers no more? -/
def State.chanGone (s : State) (k : Nat) : Bool := s.mcState (s.physOf k) = 4 || (s.mc (s.physOf k)).dead

/-- Must a transfer of n bytes from addr on wait at its port? -/
def State.memHeld (s : State) (a : Acc) (addr n : Nat) : Bool :=
  (xferChans addr n).any fun k => ! s.chanGone k && ! (s.portPlan a addr n k).done

/-- The regulator carries out its plan for a transfer that waits for channel k; requests that reach a gated channel wake it
(R331). -/
def State.portPay (s : State) (w : PortWait) : State :=
  let p := s.portPlan w.acc w.addr w.len w.chan
  let s := (s.spend (pairN w.acc.cls w.chan) p.spend).when p.surplus fun s => s.surplusUsed w.acc w.chan
  let s := s.setWaits (s.bw.waits.map fun x => if x = w then { w with paid := w.paid + p.grans } else x)
  s.wake (2 * 128 + s.physOf w.chan)

/-- The transfer waits on: the granules that the regulators release meanwhile are paid. -/
def State.portWait (s : State) (a : Acc) (addr n : Nat) : State :=
  s.each ((xferChans addr n).filter fun k => ! s.chanGone k) fun s k =>
    match s.waitOf a addr k with
    | some w => s.portPay w
    | none =>
      let w : PortWait := { acc := a, chan := k, addr := addr, len := n, since := (s.arrived a addr).getD s.clk.live }
      (s.setWaits (s.bw.waits ++ [w])).portPay w

/-- The transfer goes: what is left of it is paid, its latency is noted, and it waits no more. -/
def State.portTake (s : State) (a : Acc) (addr n : Nat) : State :=
  s.each (xferChans addr n) fun s k =>
    let p := s.portPlan a addr n k
    let since := s.sinceOf a addr k
    let s := (s.spend (pairN a.cls k) p.spend).when p.surplus fun s => s.surplusUsed a k
    let s := s.setWaits (s.bw.waits.filter fun x => ! (x.acc = a && x.addr = addr && x.chan = k))
    let s := s.when (! s.chanGone k) fun s => s.wake (2 * 128 + s.physOf k)
    match since with
    | some t => s.latencyAt a.cls k t
    | none => s

/-- One FCLK of the ports: each regulator looks at the transfers that wait; those that their masters want no more are
gone. -/
def State.portsTick (s : State) : State :=
  let s := if s.bw.waits.all s.waitLive then s else s.setWaits (s.bw.waits.filter s.waitLive)
  s.each s.bw.waits fun s w => if s.chanGone w.chan then s else s.portPay w

/-- The Almanac's access (R209, R365). -/
def State.almAcc (s : State) (kind : Nat) : Acc :=
  { master := srcAlmanac, kind := kind, cls := s.rd BW_CLASSMAP_ALMANAC_CLASS }

/-- The self-test scheduler's access, through the port it shares with the Almanac (R18, R365). -/
def State.schedAcc (s : State) (kind : Nat) : Acc := { s.almAcc kind with master := srcScheduler }

end Sys2Proof.Machine
end

