-- ==== Sys2Proof/Machine/Dram.lean ====
section
/-! DEFINITION. Access to stored granules: the array, the write buffer and forwarding (R194 to R197), the code's evidence
(R225 to R232, R239), the flip (R240) and row activations (R204). -/
namespace Sys2Proof.Machine
open Csr

/-! The array -/

/-- What an unlisted DRAM byte reads as: 0xA5 in host-usable granules the start-up read-verify has written since
power-up (R388), else 0 (the spec gives DRAM no contents at power-up). -/
def dramDflt (filled : Nat) (a : Nat) : Byte :=
  if bit filled (a / 2 ^ 31) && ! inSysRegion (a % 2 ^ 31) then 0xA5 else 0

/-- The array key of a granule of a physical channel. -/
def granKey (c gran : Nat) : Nat := c * 2 ^ 25 + gran

/-- The data bytes the array holds for a granule. -/
def State.arrBytes (s : State) (c gran : Nat) : List Byte :=
  cgetAll (dramDflt s.filled) s.dram (granKey c gran * 64) 64

/-- The flipped bits the array holds for a granule. -/
def State.arrMask (s : State) (c gran : Nat) : BitVec 576 := cget (fun _ => 0) s.masks (granKey c gran)

/-- Store a granule and its flipped bits in the array. -/
def State.arrPut (s : State) (c gran : Nat) (data : List Byte) (mask : BitVec 576) : State :=
  { s with
    dram := cputAll (dramDflt s.filled) s.dram (granKey c gran * 64) (slice data 0 64)
    masks := cput (fun _ => 0) s.masks (granKey c gran) mask }

/-- The remap slot in effect that covers a granule (R233). -/
def State.slotOf (s : State) (c gran : Nat) : Option Nat :=
  (upFrom 0 16).find? fun n => s.erd (MC_REMAP_VALID c n) = 1 && s.erd (MC_REMAP_GRANULE c n) = gran

/-- The bits stored for a granule, slot or array: data and mask. -/
def State.stored (s : State) (c gran : Nat) : List Byte × BitVec 576 :=
  match s.slotOf c gran with
  | some n => ((((s.mc c).slots.getD n {}).data), (((s.mc c).slots.getD n {}).mask))
  | none => (s.arrBytes c gran, s.arrMask c gran)

/-- The row of bank b closes when no queued request hits it, or 128 FCLK after its last access (R193); requests of one FCLK
cycle find it open. -/
def State.rowSettle (s : State) (c b : Nat) : State :=
  let m := s.mc c
  let bk := m.banks.getD b {}
  match bk.openRow with
  | none => s
  | some r =>
    let hit := m.rq.any fun x => bankOf x.gran = b && rowOf x.gran = r
    if bk.lastUse + 128 ≤ s.clk.live || (bk.lastUse < s.clk.live && ! hit) then
      s.updMc c fun m => { m with banks := m.banks.setIfInBounds b { bk with openRow := none } }
    else s

/-- An array access activates a row of its bank unless the row is open; a row that reaches 4096 activations in the bank's
refresh window awaits a neighbour refresh (R204). -/
def State.activate (s : State) (c gran : Nat) : State :=
  let b := bankOf gran
  let r := rowOf gran
  let key := b * 32768 + r
  let s := s.rowSettle c b
  let bk := (s.mc c).banks.getD b {}
  let s1 := s.updMc c fun m => { m with banks := m.banks.setIfInBounds b { bk with openRow := some r, lastUse := s.clk.live } }
  if bk.openRow = some r then s1
  else
    let n := cget (fun _ => 0) (s.mc c).acts key + 1
    s1.updMc c fun m => { m with
      acts := cput (fun _ => 0) m.acts key n
      hammered := if n ≥ 4096 && ! m.hammered.contains key then m.hammered ++ [key] else m.hammered }

/-- The flipped bits of the next write of a granule: an armed flip applies to an eligible write and is then over
(R240). -/
def State.flipTake (s : State) (c gran : Nat) : BitVec 576 × State :=
  let sel := (s.mc c).flipSel
  if s.flag (MC_ECC_FLIP_CTRL_ARMED c) && (2 ≤ sel || sel = pcOf gran) && ! inSysRegion (gran * 64) then
    ((s.mc c).flipMask,
      ((s.off (MC_ECC_FLIP_CTRL_ARMED c)).on (MC_ECC_FLIP_CTRL_DONE c)).put (MC_ECC_FLIP_ADDR_GRANULE c) gran)
  else (0, s)

/-- An array write: the encoded granule with the given flipped bits and an armed flip (R204, R240). -/
def State.arrayStore (s : State) (c gran : Nat) (data : List Byte) (mask : BitVec 576) : State :=
  let r := s.flipTake c gran
  (r.2.activate c gran).arrPut c gran data (mask ^^^ r.1)

/-- A write to remap slot n, which holds a granule: base-die SRAM, so no row opens (R233, R240). -/
def State.slotStore (s : State) (c n gran : Nat) (data : List Byte) (mask : BitVec 576) : State :=
  let r := s.flipTake c gran
  r.2.updMc c fun m => { m with slots := m.slots.setIfInBounds n (Slot.mk (slice data 0 64) (mask ^^^ r.1)) }

/-- A write to a granule where it lives, slot or array. -/
def State.granStore (s : State) (c gran : Nat) (data : List Byte) (mask : BitVec 576) : State :=
  match s.slotOf c gran with
  | some n => (s.slotStore c n gran data mask).inc (MC_REMAP_STAT_HITS c)
  | none => s.arrayStore c gran data mask

/-! The write buffer -/

/-- WB_DEPTH and WB_PEAK follow the buffer. -/
def State.wbCount (s : State) (c : Nat) : State :=
  let n := (s.mc c).wb.length
  (s.put (MC_QUEUE_WB_DEPTH c) n).peak (MC_QUEUE_WB_PEAK c) n

/-- RQ_DEPTH and RQ_PEAK follow the request queue. -/
def State.rqCount (s : State) (c : Nat) : State :=
  let n := (s.mc c).rq.length
  (s.put (MC_QUEUE_RQ_DEPTH c) n).peak (MC_QUEUE_RQ_PEAK c) n

/-- A write-back waiting in the correction queue enters the buffer when there is room (R227), unless the buffer holds a
newer write of the granule (R226). -/
def State.cqAdvance (s : State) (c : Nat) : State :=
  match (s.mc c).cq with
  | e :: r =>
    if (s.mc c).wb.any (fun x => x.gran = e.gran) then s.updMc c fun m => { m with cq := r }
    else if (s.mc c).wb.length < 32 then
      (s.updMc c fun m => { m with wb := m.wb ++ [{ e with stamp := s.clk.live }], cq := r }).wbCount c
    else s
  | [] => s

/-- Drain the buffered granule at a position to the array, in the form the buffer holds it in (R197, R225). -/
def State.drainAt (s : State) (c i : Nat) : State :=
  match (s.mc c).wb[i]? with
  | some e =>
    let s := s.updMc c fun m => { m with wb := m.wb.eraseIdx i }
    ((s.granStore c e.gran e.data e.mask).wbCount c).cqAdvance c
  | none => s

/-- Drain the oldest granules until at most n are left; the fuel is the buffer's length. -/
def State.drainTo (s : State) (c n : Nat) : Nat → State
  | 0 => s
  | k + 1 => if n < (s.mc c).wb.length then (s.drainAt c 0).drainTo c n k else s

/-- Put a granule into the write buffer: in place when it is held already (R195), else appended. A full buffer drains to 8
first, as the controller does from 24 granules on (R197). A waiting write-back of the granule is replaced too (R226). -/
def State.wbPut (s : State) (c gran : Nat) (data : List Byte) : State :=
  let s := s.updMc c fun m => { m with cq := m.cq.filter (fun e => e.gran ≠ gran) }
  match findIx (fun e : WbEnt => e.gran = gran) (s.mc c).wb with
  | some i => s.updMc c fun m => { m with wb := modAt m.wb i fun e => { e with data := data, mask := 0 } }
  | none =>
    let s := if (s.mc c).wb.length < 32 then s else s.drainTo c 8 36
    (s.updMc c fun m => { m with wb := m.wb ++ [{ gran := gran, data := data, stamp := s.clk.live }] }).wbCount c

/-- What the write buffer holds for a granule. -/
def State.wbFind (s : State) (c gran : Nat) : Option WbEnt := (s.mc c).wb.find? (fun e => e.gran = gran)

/-! The code's evidence -/

/-- Is a correction under this access quiet (R228)? -/
def State.quietAcc (s : State) (a : Acc) : Bool :=
  s.devMode = modeBoot || a.master = srcAlmanac || a.master = srcScheduler ||
    (a.master < 72 && match s.engPart a.master with
      | some p => s.pmode p = modeMaint
      | none => false)

/-- MASTER of a fault message (R364). -/
def Acc.word (a : Acc) : Nat := a.master + b2n a.port * 1024

/-- Is a symbol of a pseudo-channel marked suspect (R231)? -/
def State.suspect (s : State) (c pc sym : Nat) : Bool :=
  if pc = 0 then s.flag (MC_ECC_DQSUS_VALID0 c) && s.rd (MC_ECC_DQSUS_SYM0 c) = sym
  else s.flag (MC_ECC_DQSUS_VALID1 c) && s.rd (MC_ECC_DQSUS_SYM1 c) = sym

/-- The channel becomes due for retraining (R244). -/
def State.setDue (s : State) (c : Nat) : State :=
  let s := if s.flag (MC_TRN_STAT_DUE c) || s.flag (MC_TRN_STAT_ESCALATED c) then s
    else s.updMc c fun m => { m with dueSince := s.now }
  s.on (MC_TRN_STAT_DUE c)

/-- MC_ECC_SYMHOT: the symbol of each pseudo-channel with the most corrections since the last read, and their number; what
the present FCLK cycle brings is kept apart for the next read (R8, R231). -/
def State.hotCount (s : State) (c pc sym : Nat) : State :=
  let key := pc * 64 + sym
  let m := s.mc c
  let of := fun l k => cget (fun _ => 0) l k
  let now := if m.symAt = s.clk.fclk then m.symNow else []
  let fs := if pc = 0 then MC_ECC_SYMHOT_SYM0 c else MC_ECC_SYMHOT_SYM1 c
  let fc := if pc = 0 then MC_ECC_SYMHOT_CNT0 c else MC_ECC_SYMHOT_CNT1 c
  let topNow := match s.freshAt fs.addr with
    | some x => of now (pc * 64 + bits x.2.toNat fs.lo fs.w)
    | none => 0
  let s := s.when (topNow < of now key + 1) fun s =>
    (s.noteEvent fs fun _ => sym).noteEvent fc fun _ => min (of now key + 1) 1023
  let s := s.when (of m.symHot (pc * 64 + s.rd fs) < of m.symHot key + 1) fun s =>
    (s.put fs sym).put fc (min (of m.symHot key + 1) 1023)
  s.updMc c fun m => { m with
    symHot := cput (fun _ => 0) m.symHot key (of m.symHot key + 1)
    symNow := cput (fun _ => 0) now key (of now key + 1)
    symAt := s.clk.fclk }

/-- MC_ECC_SYMHOT has been read: what the present FCLK cycle brought stays for the next read (R8, R231). -/
def State.hotRead (s : State) (c : Nat) : State :=
  s.updMc c fun m => { m with symHot := if m.symAt = s.clk.fclk then m.symNow else [] }

/-- Count a correction by symbol: the 1 ms window of R231 and MC_ECC_SYMHOT. -/
def State.symCount (s : State) (c pc sym : Nat) : State :=
  let s := s.hotCount c pc sym
  let key := pc * 64 + sym
  let m := s.mc c
  let fresh := m.symStart + 1000 ≤ s.now
  let cnt := (if fresh then 0 else cget (fun _ => 0) m.symCnt key) + 1
  let s := s.updMc c fun m => { m with
    symStart := if fresh then s.now else m.symStart
    symCnt := cput (fun _ => 0) (if fresh then [] else m.symCnt) key cnt }
  let fv := if pc = 0 then MC_ECC_DQSUS_VALID0 c else MC_ECC_DQSUS_VALID1 c
  let fq := if pc = 0 then MC_ECC_DQSUS_SYM0 c else MC_ECC_DQSUS_SYM1 c
  if cnt = 16 && ! s.flag fv then
    (((s.on fv).put fq sym).raiseKD (srcMc c) 0x32 0 (pc * 256 + sym)).setDue c
  else s

/-- The repeat tracker of 32 entries (R232): a granule that reaches 3 corrections goes to the remap table. -/
def State.track (s : State) (c gran : Nat) : State :=
  let t := (s.mc c).tracker
  let n := ((t.find? (fun e => e.1 = gran)).map (·.2)).getD 0 + 1
  let rest := t.filter (fun e => e.1 ≠ gran)
  if 3 ≤ n then s.updMc c fun m => { m with
      tracker := rest, wanted := if m.wanted.contains gran then m.wanted else m.wanted ++ [gran] }
  else s.updMc c fun m => { m with tracker := ((gran, n) :: rest).take 32 }

/-- The leaks of channel c's bucket that have fallen due (R230): one per LB_PERIOD µs. -/
def State.leak (s : State) (c : Nat) : State :=
  let p := s.rd (MC_ECC_CFG_LB_PERIOD c)
  let n := if p = 0 then 0 else (s.now - (s.mc c).leakAt) / p
  if n = 0 then s
  else (s.put (MC_ECC_STAT_LB_COUNT c) (s.rd (MC_ECC_STAT_LB_COUNT c) - n)).updMc c fun m => { m with
    leakAt := m.leakAt + n * p }

/-- A correction: counted, reported as a normal or a quiet one, written back and tracked (R226 to R232). -/
def State.corrected (s : State) (a : Acc) (k c gran : Nat) (data : List Byte) (dq : Nat) : State :=
  let pc := pcOf gran
  let sus := s.suspect c pc dq
  let s := ((((s.on (MC_ECC_STAT_CE c)).inc (MC_ECC_CNT_CORR c)).put (MC_ECC_LAST_SYMBOL c) dq).put
    (MC_ECC_LAST_GRANULE c) gran)
  -- the write-back, unless a newer write of the granule waits already (R226, R227)
  let e := { gran := gran, data := data, stamp := s.clk.live : WbEnt }
  let s := if sus || ((s.mc c).wb ++ (s.mc c).cq).any (fun x => x.gran = gran) then s
    else if (s.mc c).wb.length < 32 then (s.updMc c fun m => { m with wb := m.wb ++ [e] }).wbCount c
    else if (s.mc c).cq.length < 4 then s.updMc c fun m => { m with cq := m.cq ++ [e] }
    else s.inc (MC_ECC_CNT_WB_SKIPPED c)
  -- normal or quiet (R228 to R230)
  let s := s.leak c
  let limit := s.rd (MC_ECC_CFG_LB_LIMIT c)
  let s := if s.quietAcc a && limit ≠ 0 then
      if limit < s.rd (MC_ECC_STAT_LB_COUNT c) + 1 then
        ((s.on (MC_ECC_STAT_LB_OVF c)).raiseKD (srcMc c) 0x31 0 0).put (MC_ECC_STAT_LB_COUNT c) 0
      else s.inc (MC_ECC_STAT_LB_COUNT c)
    else if (s.mc c).corrMsg = some s.now then s
    else
      (s.updMc c fun m => { m with corrMsg := some s.now }).raise
        { src := srcMc c, kind := 0x30, addr := cubeAddr k gran, detail := dq, master := some a.word, access := a.kind }
  let s := s.symCount c pc dq
  if sus then s else s.track c gran

/-- An uncorrectable read: counted, recorded, reported (R239). -/
def State.uncorrected (s : State) (a : Acc) (k c gran : Nat) : State :=
  let s := (s.inc (MC_ECC_CNT_UNCORR c)).on (MC_ECC_STAT_UE c)
  let s := if s.flag (MC_ECC_UE_ADDR_VALID c) then s
    else (s.put (MC_ECC_UE_ADDR_GRANULE c) gran).on (MC_ECC_UE_ADDR_VALID c)
  s.raise { src := srcMc c, kind := 0x33, addr := cubeAddr k gran, master := some a.word, access := a.kind }

/-- What an access gives its master. -/
inductive GranRes where
  | data (bytes : List Byte)
  | uncorrectable
  | error
deriving DecidableEq, Repr

/-- Classify a stored word that a read of a granule finds, and act on it (R225). -/
def State.wordRead (s : State) (a : Acc) (k c gran : Nat) (data : List Byte) (mask : BitVec 576) : State × GranRes :=
  match (if mask = 0 then ReadRes.clean data else readStored (storedSyms data mask)) with
  | .clean d => (s, .data d)
  | .corrected d dq => (s.corrected a k c gran d dq, .data d)
  | .uncorrectable => (s.uncorrected a k c gran, .uncorrectable)

/-- Read a granule of physical channel c from slot or array; `upset` adds flipped bits the store has picked up. -/
def State.arrayRead (s : State) (a : Acc) (k c gran : Nat) (upset : BitVec 576) : State × GranRes :=
  let st := s.stored c gran
  let mask := st.2 ^^^ upset
  let s := match s.slotOf c gran with
    | some n => (if upset = 0 then s
        else s.updMc c fun m => { m with slots := m.slots.setIfInBounds n (Slot.mk st.1 mask) }).inc (MC_REMAP_STAT_HITS c)
    | none =>
      let s := s.activate c gran
      if upset = 0 then s else { s with masks := cput (fun _ => 0) s.masks (granKey c gran) mask }
  s.wordRead a k c gran st.1 mask

/-- The granule that the write buffer holds, checked by the code as it stands there (R225): a correction mends the buffered
copy. -/
def State.wbCheck (s : State) (a : Acc) (k c : Nat) (e : WbEnt) : State × GranRes :=
  match s.wordRead a k c e.gran e.data e.mask with
  | (t, .data d) =>
    (if e.mask = 0 then t else t.updMc c fun m => { m with
      wb := m.wb.map fun x => if x.gran = e.gran then { x with data := d, mask := 0 } else x }, .data d)
  | r => r

/-- A read that the write buffer serves (R195). -/
def State.wbRead (s : State) (a : Acc) (k c : Nat) (e : WbEnt) : State × GranRes :=
  (s.inc (MC_TRAFFIC_FORWARDED c)).wbCheck a k c e

/-- Read a granule at controller c: from the write buffer, else from the array. -/
def State.mcRead (s : State) (a : Acc) (k c gran : Nat) (upset : BitVec 576) : State × GranRes :=
  match s.wbFind c gran with
  | some e => s.wbRead a k c e
  | none => s.arrayRead a k c gran upset

/-- Read a granule of logical channel k: an error response from a channel that is retired or no longer answers. -/
def State.readGran (s : State) (a : Acc) (k gran : Nat) : State × GranRes :=
  let s := s.wake (2 * 128 + s.physOf k)
  if s.chanGone k then (s, .error) else s.mcRead a k (s.physOf k) gran 0

/-- Write to the migration destination too when the granule lies below the copy pointer (R253). -/
def State.migrateWrite (s : State) (c gran : Nat) (data : List Byte) : State :=
  match (s.mc c).migTo with
  | some d => if (s.mc c).migEnd || gran < s.rd (MC_MIG_PTR_POINTER c) then s.arrayStore d gran data 0 else s
  | none => s

/-- A full granule enters the write buffer of controller c (R194, R253). -/
def State.mcWrite (s : State) (c gran : Nat) (data : List Byte) : State := (s.wbPut c gran data).migrateWrite c gran data

/-- Write a full granule of logical channel k (R194). -/
def State.writeGran (s : State) (k gran : Nat) (data : List Byte) : State × GranRes :=
  let s := s.wake (2 * 128 + s.physOf k)
  if s.chanGone k then (s, .error) else (s.mcWrite (s.physOf k) gran (slice data 0 64), .data [])

/-- Replace the bytes from an offset on. -/
def mergeBytes (base : List Byte) (off : Nat) (new : List Byte) : List Byte :=
  (slice base 0 off) ++ new ++ base.drop (off + new.length)

/-- Merge a partial write into a granule (R196); it counts in PARTIAL when it is merged. -/
def State.mergeWrite (s : State) (a : Acc) (k c gran off : Nat) (new : List Byte) (upset : BitVec 576) : State × GranRes :=
  let a := { a with kind := 4 }
  match (match s.wbFind c gran with
    | some e => s.wbCheck a k c e
    | none => s.arrayRead a k c gran upset) with
  | (s, .data d) => ((s.inc (MC_TRAFFIC_PARTIAL c)).mcWrite c gran (mergeBytes d off new), .data [])
  | r => r

/-- Write part of a granule of logical channel k: read, merge, write (R196). -/
def State.writePart (s : State) (a : Acc) (k gran off : Nat) (new : List Byte) : State × GranRes :=
  if new.length = 64 then s.writeGran k gran new
  else
    let s := s.wake (2 * 128 + s.physOf k)
    if s.chanGone k then (s, .error) else s.mergeWrite a k (s.physOf k) gran off new 0

/-- Why a transfer ended early: the cube address, and whether the granule was uncorrectable (else an error response). -/
structure XferErr where
  addr : Nat
  uncorrectable : Bool
deriving DecidableEq, Repr

/-- Read n whole granules from a 64-aligned cube address on. -/
def State.readGrans (s : State) (a : Acc) : Nat → Nat → List Byte → State × List Byte × Option XferErr
  | _, 0, acc => (s, acc, none)
  | addr, n + 1, acc =>
    match s.readGran a (chanOf addr) (granOf addr) with
    | (s', .data d) => s'.readGrans a (addr + 64) n (acc ++ d)
    | (s', .uncorrectable) => (s', acc, some (XferErr.mk addr true))
    | (s', .error) => (s', acc, some (XferErr.mk addr false))

/-- Read n whole granules from a 64-aligned cube address on, with the tokens that takes (R213): what was read, and where it
ended early. -/
def State.readWhole (s : State) (a : Acc) (addr n : Nat) : State × List Byte × Option XferErr :=
  (s.portTake a addr (64 * n)).readGrans a addr n []

/-- Read n bytes from a cube address on, with the tokens that takes (R213). -/
def State.readMem (s : State) (a : Acc) (addr n : Nat) : State × List Byte × Option XferErr :=
  let base := addr / 64 * 64
  let r := (s.portTake a addr n).readGrans a base ((addr - base + n + 63) / 64) []
  (r.1, slice r.2.1 (addr - base) n, r.2.2)

/-- Write bytes from a cube address on: full granules whole, the ends as partial writes. -/
def State.writeMem (s : State) (a : Acc) : Nat → Nat → List Byte → State × Option XferErr
  | 0, _, _ => (s, none)
  | fuel + 1, addr, bs =>
    if bs.isEmpty then (s, none)
    else
      let off := addr % 64
      let n := min (64 - off) bs.length
      match s.writePart a (chanOf addr) (granOf addr) off (bs.take n) with
      | (s', .data _) => s'.writeMem a fuel (addr + n) (bs.drop n)
      | (s', .uncorrectable) => (s', some (XferErr.mk addr true))
      | (s', .error) => (s', some (XferErr.mk addr false))

/-- Write bytes from a cube address on, with the tokens that takes (R213). -/
def State.writeAll (s : State) (a : Acc) (addr : Nat) (bs : List Byte) : State × Option XferErr :=
  (s.portTake a addr bs.length).writeMem a (bs.length + 1) addr bs

end Sys2Proof.Machine
end

