-- ==== Sys2Proof/Machine/Cal.lean ====
section
/-! DEFINITION. The Calendar's entries (R58 to R63): the copies, firing, the edges that act at cycle precision, and
what a throttle stalls (R207). -/
namespace Sys2Proof.Machine
open Csr

/-- An entry read from four words. -/
def calWords (w : Nat → Word) (n : Nat) : CalEnt :=
  let a := 0x10100 + 16 * n
  let w1 := (w (a + 4)).toNat
  CalEnt.mk ((w a).toNat + bits w1 0 16 * 2 ^ 32) (bits w1 16 8) (bits w1 24 8)
    ((w (a + 8)).toNat + (w (a + 12)).toNat * 2 ^ 32)

/-- Calendar entry n in effect. -/
def State.calEff (s : State) (n : Nat) : CalEnt := calWords s.effReg n

/-- The pending copy of Calendar entry n. -/
def State.calPend (s : State) (n : Nat) : CalEnt := calWords s.reg n

/-- The action code (R58); 0 is an empty entry. -/
def CalEnt.code (e : CalEnt) : Nat := e.action % 128

/-- The NOTIFY bit (R58). -/
def CalEnt.notify (e : CalEnt) : Bool := 128 ≤ e.action

/-- The four words of an entry. -/
def CalEnt.words (e : CalEnt) : List Nat :=
  [e.vt % 2 ^ 32, e.vt / 2 ^ 32 % 2 ^ 16 + e.action % 256 * 2 ^ 16 + e.part % 256 * 2 ^ 24,
   e.arg % 2 ^ 32, e.arg / 2 ^ 32 % 2 ^ 32]

/-- The empty entry. -/
def CalEnt.none : CalEnt := CalEnt.mk 0 0 0 0

/-- Write the entry in effect. -/
def State.calSetEff (s : State) (n : Nat) (e : CalEnt) : State :=
  s.each (e.words.zip (upFrom 0 4)) fun s x => s.setEff (0x10100 + 16 * n + 4 * x.2) (BitVec.ofNat 32 x.1)

/-- Write the pending copy of an entry. -/
def State.calSetPend (s : State) (n : Nat) (e : CalEnt) : State :=
  s.each (e.words.zip (upFrom 0 4)) fun s x => s.setReg (0x10100 + 16 * n + 4 * x.2) (BitVec.ofNat 32 x.1)

/-- Write both copies of an entry. -/
def State.calSet (s : State) (n : Nat) (e : CalEnt) : State := (s.calSetEff n e).calSetPend n e

/-- Is entry n empty in both copies (VT_CAL_FREE, R64)? -/
def State.calEmpty (s : State) (n : Nat) : Bool := (s.calEff n).code = 0 && (s.calPend n).code = 0

/-- How many entries are empty in both copies (VT_CAL_FREE). -/
def State.calFree (s : State) : Nat := ((upFrom 0 64).filter s.calEmpty).length

/-- The entries in effect that are not empty, with their numbers. -/
def State.calLive (s : State) : List (Nat × CalEnt) :=
  ((upFrom 0 64).map fun n => (n, s.calEff n)).filter fun x => x.2.code ≠ 0

/-- Is the entry one that the Calendar compares with VT? -/
def CalEnt.onVt (e : CalEnt) : Bool := ! (e.code = 7 || e.code = 8 || e.code = 0x0A)

/-- The entries compared with VT that are due (R59). -/
def State.calDue (s : State) : List (Nat × CalEnt) := s.calLive.filter fun x => x.2.onVt && s.reached x.2.vt

/-- Has the fault collector done what it does in this FCLK cycle: it has taken a message, or none waits (R19, R366)? -/
def State.reacted (s : State) : Bool :=
  s.faults.takenAt = some s.clk.fclk || (s.faults.queue.isEmpty && s.faults.latches.isEmpty && s.faults.intake.isEmpty)

/-- Slot states (IMAGE_STATUS.STATE, R23). -/
def slotEmpty : Nat := 0
def slotLoading : Nat := 1
def slotLoaded : Nat := 2
def slotValidating : Nat := 3
def slotValid : Nat := 4
def slotArmed : Nat := 5
def slotFailed : Nat := 6

/-- The state of the PENDING slot. -/
def State.slotState (s : State) : Nat := s.rd IMAGE_STATUS_STATE

/-- Is nothing left of this frame boundary that comes before a mode command or a slice (R19, R383, R394): no due Calendar
entry, no apply whose epoch has come, no fault reaction? -/
def State.boundaryDone (s : State) : Bool :=
  s.reacted && s.calDue.isEmpty && ! (s.slotState = slotArmed && s.img.armedBy = 0 && s.reached s.img.epoch)

/-- Entry n fires (R60): FIRED, the event a NOTIFY asks for (R58, R288: its DETAIL holds ACTION, PART and ARG; DEDUCED of their
places, log 77), and the copies emptied. -/
def State.calFire (s : State) (n : Nat) : State :=
  let e := s.calEff n
  let f := if n < 32 then VT_CAL_FIRED0_FIRED else VT_CAL_FIRED1_FIRED
  let s := s.onBit f (n % 32)
  let s := s.when e.notify fun s => s.event 0x02 n (e.action % 2 ^ 8 + e.part % 2 ^ 8 * 2 ^ 8 + e.arg % 2 ^ 48 * 2 ^ 16) 0
  let same := s.calPend n = e
  let s := s.calSetEff n CalEnt.none
  let s := { s with vt := { s.vt with
    stopped := s.vt.stopped.filter fun x => x.1 ≠ n
    lateCaps := s.vt.lateCaps.filter fun x => x.1 ≠ n } }
  if same then s.calSetPend n CalEnt.none else s

/-- DATA of the log entries about entry n: its number, ACTION, PART and a VT. -/
def CalEnt.logData (e : CalEnt) (n vt : Nat) : Nat := n + e.action * 2 ^ 8 + e.part * 2 ^ 16 + vt * 2 ^ 32

/-- An entry fires void (R62): it fires, and is counted and logged. -/
def State.calVoid (s : State) (n : Nat) : State :=
  let e := s.calEff n
  ((s.calFire n).inc VT_CAL_STAT_VOID).log 0x0119 srcVt (e.logData n e.vt)

/-- An edge of entry n applied late, at Vector Time v (R59). -/
def State.edgeLate (s : State) (n : Nat) (e : CalEnt) (v : Nat) : State :=
  (s.inc VT_CAL_STAT_EDGE_LATE).log 0x011A srcVt (e.logData n v)

/-- Is there a TASK_STOP in effect for partition p whose VT the stream time v has reached (R59)? -/
def State.stopDue (s : State) (p v : Nat) : Bool :=
  s.calLive.any fun x => x.2.code = 0x0A && x.2.part = p && vtGe v x.2.vt

/-- The earliest TASK_STOP VT in effect for partition p (R59). -/
def State.stopVt (s : State) (p : Nat) : Option Nat :=
  (s.calLive.filter fun x => x.2.code = 0x0A && x.2.part = p).foldl
    (fun m x => match m with
      | some v => some (if vtGe x.2.vt v then v else x.2.vt)
      | Option.none => some x.2.vt) Option.none

/-- The TASK_STOP in effect that comes first for partition p: its entry number and VT. -/
def State.firstStop (s : State) (p : Nat) : Option (Nat × CalEnt) :=
  s.calLive.find? fun x => x.2.code = 0x0A && x.2.part = p && s.stopVt p = some x.2.vt

/-- RTT_MAX of partition p; 8 µs without a record (R159). -/
def State.rttMax (s : State) (p : Nat) : Nat :=
  match s.capRec p with
  | some c => c.rttMax
  | Option.none => 8000000 / s.rd VT_TICK_PS_TICK_PS

/-- Does edge y decide over edge x: it acts later, of those that act at one time it has the later VT, and at one VT a close
decides (R59)? -/
def CapEdge.over (y x : CapEdge) : Bool :=
  if y.act ≠ x.act then vtGe y.act x.act
  else if y.vt ≠ x.vt then vtGe y.vt x.vt
  else ! y.opens

/-- The edge that decides among several. -/
def lastEdge (l : List CapEdge) : Option CapEdge :=
  l.foldl (fun m x => match m with
    | some y => some (if y.over x then y else x)
    | Option.none => some x) Option.none

/-- The VT at which CAP entry n in effect acts (R59): its own, or the first sample not yet handled when it came late. -/
def State.capVt (s : State) (n : Nat) (e : CalEnt) : Nat :=
  match s.vt.lateCaps.find? fun x => x.1 = n with
  | some x => x.2
  | Option.none => e.vt

/-- The edge of CAP entry n in effect. -/
def State.capEdgeOf (s : State) (n : Nat) (e : CalEnt) : CapEdge := ⟨e.part, s.capVt n e, e.vt, decide (e.code = 7)⟩

/-- The edges of partition p that act at or before a sample at v: those fired, and those of the entries in effect. -/
def State.capReached (s : State) (p v : Nat) : List CapEdge :=
  (s.img.capEdges ++ (s.calLive.filter fun x => x.2.code = 7 || x.2.code = 8).map fun x => s.capEdgeOf x.1 x.2).filter
    fun x => x.part = p && vtGe v x.act

/-- Is partition p's capture window open at sample time v (R59, R66)? The last edge at or before v decides. -/
def State.winOpen (s : State) (p v : Nat) : Bool :=
  match lastEdge (s.capReached p v) with
  | some x => x.opens
  | Option.none => ! bit s.img.winShut p

/-- The edges that a test selects become the window's state before those that stay. -/
def State.capSettle (s : State) (f : CapEdge → Bool) : State :=
  let gone := s.img.capEdges.filter f
  if gone.isEmpty then s
  else { s with img := { s.img with
      winShut := gone.foldl (fun m x => match lastEdge (gone.filter fun y => y.part = x.part) with
        | some y => putBit m x.part (! y.opens)
        | Option.none => m) s.img.winShut
      capEdges := s.img.capEdges.filter fun x => ! f x } }

/-- Can no sample precede the edge any more: VT has moved RTT_MAX past it (R161)? -/
def State.edgeOld (s : State) (x : CapEdge) : Bool := s.reached (vtAdd x.act (s.rttMax x.part))

/-- A capture-window edge fires (R59, R66, R177). -/
def State.capEdgeAt (s : State) (x : CapEdge) : State :=
  let s : State := { s with img := { s.img with capEdges := s.img.capEdges ++ [x] } }
  if x.opens then s
  else { s with img := { s.img with flushFrom := (x.part, x.act) :: s.img.flushFrom.filter fun y => y.1 ≠ x.part } }

end Sys2Proof.Machine
end

