-- ==== Sys2Proof/Machine/Echo.lean ====
section
/-! DEFINITION. The echo rings (R160 to R163): which unit serves a group, room, entries, and the answers a discarded
cycle gets. -/
namespace Sys2Proof.Machine
open Csr

/-- Capture unit u. -/
def State.cap (s : State) (u : Nat) : CaptureUnit := s.caps.getD u {}

/-- Change capture unit u. -/
def State.updCap (s : State) (u : Nat) (f : CaptureUnit → CaptureUnit) : State :=
  { s with caps := s.caps.setIfInBounds u (f (s.cap u)) }

/-- The working unit that serves capture group g; none while its unit is fenced or retired (R162, R187). -/
def State.unitOf (s : State) (g : Nat) : Option Nat :=
  (upFrom 0 9).find? fun u => s.rd (CAP_STATUS_GROUP u) = g && s.rd (CAP_STATUS_STATE u) = 0

/-- The capture group of engine e: that of its lanes (R14). -/
def State.engGroup (s : State) (e : Nat) : Nat := (s.engLanes e).headD 0 / 12

/-- W: the pins of engine e's lane set. -/
def State.engW (s : State) (e : Nat) : Nat :=
  (s.engLanes e).length * (match s.engPart e with | some p => s.pPart p | none => 0)

/-- Bytes of the pool in use. -/
def CaptureUnit.fill (c : CaptureUnit) : Nat := c.ring.foldl (fun n x => n + x.size) 0

/-- The pool of one echo ring (R160). -/
def echoPool : Nat := 524288

/-- Can the echo ring of engine e's group take n more cycles (R160, R162)? A group without a pool takes all. -/
def State.echoRoom (s : State) (e n : Nat) : Bool :=
  match s.unitOf (s.engGroup e) with
  | some u => (s.cap u).fill + n * (7 + s.engW e / 4) ≤ echoPool
  | none => true

/-- The ring was found without room for n cycles of engine e (R162): the room that lacks is kept while that lasts. -/
def State.echoFull (s : State) (e n : Nat) : State :=
  match s.unitOf (s.engGroup e) with
  | some u =>
    let s := if s.flag (CAP_STATUS_ECHO_FULL u) then s else (s.on (CAP_STATUS_ECHO_FULL u)).inc (CAP_ECHO_FULL u)
    s.updCap u fun c => { c with need := max c.need (n * (7 + s.engW e / 4)) }
  | none => s

/-- ECHO_FULL stands while the entries that found no room would find none (R162). -/
def State.echoEase (s : State) (u : Nat) : State :=
  if (s.cap u).fill + (s.cap u).need ≤ echoPool then
    (s.updCap u fun c => { c with need := 0 }).off (CAP_STATUS_ECHO_FULL u)
  else s

/-- The slots of engine e whose lane is out of service (R128). -/
def State.deadSlots (s : State) (e : Nat) : List Nat :=
  let ls := s.engLanes e
  (upFrom 0 ls.length).filter fun n => ! s.aliveTx (ls.getD n 0)

/-- The retired unit whose group g no unit has taken yet (R187, R429). -/
def State.orphanUnit (s : State) (g : Nat) : Option Nat := (upFrom 0 9).find? fun u => (s.cap u).orphan = some g

/-- A group without a working unit: the entry is discarded. A fenced unit will widen its GAP range over it (R372); of a
retired one the engine's last cycle is kept for the molt to come (R187, R429). -/
def State.echoMissed (s : State) (e vt : Nat) : State :=
  match (upFrom 0 9).find? (fun u => s.rd (CAP_STATUS_GROUP u) = s.engGroup e && s.rd (CAP_STATUS_STATE u) = 2) with
  | none => match s.orphanUnit (s.engGroup e) with
    | none => s
    | some u => s.updCap u fun c => { c with newest := (e, vt) :: c.newest.filter (fun x => x.1 ≠ e) }
  | some u =>
    let p := (s.engPart e).getD 0
    s.updCap u fun c => { c with missed := match c.missed.find? (fun x => x.1 = p) with
      | some x => (p, (if vtGe x.2.1 vt then vt else x.2.1), (if vtGe vt x.2.2 then vt else x.2.2)) ::
          c.missed.filter fun y => y.1 ≠ p
      | none => (p, vt, vt) :: c.missed }

/-- Create the entry of one cycle (R160); slots whose payload will be discarded count as answered (R163). -/
def State.echoAdd (s : State) (e vt : Nat) (expects : BitVec 128) (stamp : BitVec 56) : State :=
  match s.unitOf (s.engGroup e) with
  | none => s.echoMissed e vt
  | some u =>
    let p := (s.engPart e).getD 0
    let ent := { engine := e, part := p, vt := vt, expects := expects, stamp := stamp,
                 cycle := vtDiff vt (s.eng e).origin / s.mPart p % 2 ^ 32,
                 slots := (s.engLanes e).length,
                 answered := (s.deadSlots e).foldl (fun m n => putBit m n true) 0, size := 7 + s.engW e / 4 : EchoEnt }
    let dead := (upFrom 0 ent.slots).all fun n => bit ent.answered n
    let s := s.updCap u fun c => { c with
      ring := if dead then c.ring else c.ring ++ [ent]
      newest := (e, vt) :: c.newest.filter (fun x => x.1 ≠ e) }
    s.peak (CAP_FILL_PEAK_KIB u) (ceilDiv (s.cap u).fill 1024)

/-- Mark slot n answered in one entry; the entry is freed when every slot is (R160). -/
def EchoEnt.answer (x : EchoEnt) (n : Nat) : EchoEnt := { x with answered := putBit x.answered n true }

/-- Has every slot of the entry been answered? -/
def EchoEnt.done (x : EchoEnt) : Bool := (upFrom 0 x.slots).all fun n => bit x.answered n

/-- The drain discards slot n's payloads of engine e from Vector Time v on: they count as answered, and an entry all of
whose slots are answered is gone (R163). -/
def State.echoAnswer (s : State) (e n v : Nat) : State :=
  match (upFrom 0 9).find? (fun u => s.rd (CAP_STATUS_GROUP u) = s.engGroup e && s.rd (CAP_STATUS_STATE u) ≠ 3) with
  | none => s
  | some u =>
    (s.updCap u fun c => { c with
      ring := (c.ring.map fun x => if x.engine = e && vtGe x.vt v then x.answer n else x).filter
        fun x => ! x.done }).echoEase u

/-- The expect codes of a cycle's first w pins: bits [3:2] of each nibble (R95, R115, R122). -/
def expectsOf (w : Nat) (nibs : BitVec 256) : BitVec 128 :=
  BitVec.ofNat 128 ((upFrom 0 w).foldl (fun a j => a + bits nibs.toNat (4 * j + 2) 2 * 4 ^ j) 0)

end Sys2Proof.Machine
end

