-- ==== Sys2Proof/Machine/Staging.lean ====
section
/-! DEFINITION. The staging buffer (chapter 06): filling, marks and replay, draining, the drained-stream signature. -/
namespace Sys2Proof.Machine
open Csr

/-- P of engine e's partition. -/
def State.engP (s : State) (e : Nat) : Nat := match s.engPart e with | some p => s.pPart p | none => 0
/-- M of engine e's partition. -/
def State.engM (s : State) (e : Nat) : Nat := match s.engPart e with | some p => s.mPart p | none => 1
/-- C: cycles of a full row (R111). -/
def State.rowLen (s : State) (e : Nat) : Nat := 256 / s.engP e
/-- Is engine e bound with no lane set? -/
def State.aux (s : State) (e : Nat) : Bool := (s.engLanes e).isEmpty

/-- Engine e's staging buffer. -/
def State.stg (s : State) (e : Nat) : Staging := (s.eng e).stg
/-- Change engine e's staging buffer. -/
def State.updStg (s : State) (e : Nat) (f : Staging → Staging) : State :=
  s.updEng e fun g => { g with stg := f g.stg }

/-- The bank a row lies in, counted in order of filling. -/
def bankGen (row : Nat) : Nat := row / 256

/-- May the fill row take a cycle (R113, R121)? An open row always may; a fresh bank only when every row it last held
is released and no mark holds it. -/
def Staging.fillOk (g : Staging) : Bool :=
  ! g.cur.isEmpty || g.fill % 256 ≠ 0 || g.fill < 512 ||
    (g.rows.all (fun r => bankGen r.num ≠ bankGen g.fill - 2) &&
      match g.mark with
      | some m => bankGen g.fill - 2 < bankGen m
      | none => true)

/-- Does a held mark keep the bank the fill needs (R125)? -/
def Staging.held (g : Staging) : Bool :=
  ! g.fillOk && match g.mark with | some m => decide (bankGen m ≤ bankGen g.fill - 2) | none => false

/-- Cycles of the region's rows before its row i. -/
def Staging.before (g : Staging) (x : Seg) (i : Nat) : Nat :=
  (g.rows.filter fun r => inRange r.num x.first (x.first + i)).foldl (fun n r => n + r.cycles.length) 0

/-- Passes of a replay segment that go out, a TASK_STOP's cut included. -/
def Seg.passesOut (x : Seg) : Nat :=
  match x.limit with
  | some l => min x.passes (ceilDiv l x.cycles)
  | none => x.passes

/-- The frames a segment holds in all; a TASK_STOP's limit cuts whole frames and passes. -/
def Staging.framesOf (g : Staging) (x : Seg) : Nat :=
  if x.passes = 0 then x.count
  else match x.limit with
    | some l => if x.cycles = 0 then 0
      else l / x.cycles * x.count + ((upFrom 0 x.count).filter fun i => g.before x i < l % x.cycles).length
    | none => x.passes * x.count

/-- The frames a segment still holds for a cursor. -/
def Staging.framesLeft (g : Staging) (x : Seg) (pass row : Nat) : Nat := g.framesOf x - (pass * x.count + row)

/-- Cycles a replay segment has sent before (pass, row). -/
def Staging.replayed (g : Staging) (x : Seg) (pass row : Nat) : Nat := pass * x.cycles + g.before x row

/-- Is a segment finished for a cursor? -/
def Staging.segDone (g : Staging) (x : Seg) (pass row : Nat) : Bool :=
  if x.passes = 0 then x.count ≤ row
  else x.passes ≤ pass || match x.limit with
    | some l => l ≤ g.replayed x pass row
    | none => false

/-- Move a cursor on over finished segments and passes. -/
def Staging.norm (g : Staging) : Nat → Slotc → Slotc
  | 0, c => c
  | fuel + 1, c =>
    match g.segs[c.seg - g.segBase]? with
    | none => c
    | some x =>
      if g.segDone x c.pass c.row then
        if c.seg - g.segBase + 1 < g.segs.length then g.norm fuel { c with seg := c.seg + 1, pass := 0, row := 0 } else c
      else if x.passes ≠ 0 && x.count ≤ c.row then g.norm fuel { c with pass := c.pass + 1, row := 0 }
      else c

/-- The next frame of slot n: its row, the Vector Time of its first cycle, the cycles it carries, and for a replayed
row its segment, pass and row (R117, R122). -/
structure NextFrame where
  row : Row
  vt : Nat
  cycles : List Cycle
  replay : Option (Nat × Nat × Nat)
  cursor : Slotc

/-- The cursor of slot n, moved on to its next frame. -/
def Staging.cursor (g : Staging) (n : Nat) : Slotc := g.norm (2 * g.segs.length + 2) (g.slots.getD n {})

/-- What slot n sends next, if a closed row waits for it. -/
def Staging.next (g : Staging) (m n : Nat) : Option NextFrame :=
  let c := g.cursor n
  match g.segs[c.seg - g.segBase]? with
  | none => none
  | some x =>
    if g.segDone x c.pass c.row || x.count ≤ c.row then none
    else match g.rows.find? (fun r => r.num = x.first + c.row) with
      | none => none
      | some r =>
        if x.passes = 0 then some (NextFrame.mk r r.vt0 r.cycles none c)
        else
          let b := g.replayed x c.pass c.row
          let keep := match x.limit with | some l => r.cycles.take (l - b) | none => r.cycles
          some (NextFrame.mk r (vtAdd x.base (b * m)) keep (some (c.seg, c.pass, c.row)) c)

/-- Does a cursor still need row r? -/
def Staging.needs (g : Staging) (c : Slotc) (r : Nat) : Bool :=
  (g.segs.zip (upFrom g.segBase g.segs.length)).any fun y =>
    let x := y.1
    inRange r x.first (x.first + x.count) &&
      if y.2 < c.seg then false
      else if c.seg < y.2 then true
      else if x.passes = 0 then decide (x.first + c.row ≤ r)
      else ! g.segDone x c.pass c.row && (c.pass + 1 < x.passes || x.first + c.row ≤ r)

/-- Drop the segments that every slot in service is past. -/
def Staging.trim (live : List Nat) : Nat → Staging → Staging
  | 0, g => g
  | fuel + 1, g =>
    if 1 < g.segs.length && live.all (fun n => g.segBase < (g.cursor n).seg) then
      Staging.trim live fuel { g with segs := g.segs.drop 1, segBase := g.segBase + 1 }
    else g

/-- Release the rows that are sent and not held (R118, R121, R124). -/
def Staging.release (g : Staging) (live : List Nat) : Staging :=
  let keep := fun (r : Row) =>
    (match g.mark with | some m => decide (m ≤ r.num) | none => false) ||
      live.any fun n => g.needs (g.cursor n) r.num
  let g := { g with rows := g.rows.filter keep }
  Staging.trim live g.segs.length g

/-- The slots of engine e in service. -/
def State.liveSlots (s : State) (e : Nat) : List Nat :=
  let ls := s.engLanes e
  (upFrom 0 ls.length).filter fun n => s.aliveTx (ls.getD n 0)

/-- Release what is sent. -/
def State.stgRelease (s : State) (e : Nat) : State := s.updStg e fun g => g.release (s.liveSlots e)

/-- The cursor past all work queued so far. -/
def Staging.endCursor (g : Staging) (c : Slotc) : Slotc :=
  match g.segs.getLast? with
  | some x => { c with seg := g.segBase + g.segs.length - 1, pass := x.passes, row := x.count }
  | none => c

/-- A slot out of service discards what it still holds, n payloads of it (R128): it stands past everything queued. -/
def State.discard (s : State) (e slot n : Nat) : State :=
  if n = 0 then s
  else
    let s := s.updStg e fun g => { g with
      slots := g.slots.setIfInBounds slot { g.endCursor (g.slots.getD slot {}) with sent := g.total } }
    (s.add (ENG_STG_COUNT_DISCARD e) n).put (ENG_STG_STATUS_SIG_BROKEN e)
      (putBit (s.rd (ENG_STG_STATUS_SIG_BROKEN e)) slot true)

/-- Close the fill row if it holds a cycle (R112). -/
def State.closeRow (s : State) (e : Nat) : State :=
  let g := s.stg e
  if g.cur.isEmpty then s
  else
    let segs := match g.segs.getLast? with
      | some x => if x.passes = 0 && x.first + x.count = g.fill then
          g.segs.dropLast ++ [{ x with count := x.count + 1 }]
        else g.segs ++ [{ first := g.fill, count := 1 }]
      | none => [{ first := g.fill, count := 1 }]
    let s := s.updStg e fun g => { g with
      rows := g.rows ++ [Row.mk g.fill g.curVt g.cur], fill := g.fill + 1, cur := [], segs := segs
      total := g.total + g.cur.length }
    let s := s.each (s.deadSlots e) fun s n => s.discard e n 1
    s.stgRelease e

/-- Is there room for one more cycle of engine e: staging and echo ring (R96, R162)? -/
def State.cycleRoom (s : State) (e : Nat) : Bool := (s.stg e).fillOk && s.echoRoom e 1

/-- Write one cycle: staging at its place (R112), the echo ring (R160), the stream time (R57). -/
def State.pushCycle (s : State) (e : Nat) (c : Cycle) (expects : BitVec 128) : State :=
  let v := (s.eng e).stime
  let lead := s.rd (ENG_STG_CFG_FLUSH_LEAD e)
  let s := s.echoAdd e v expects c.stamp
  let s := s.updEng e fun x => { x with
    stime := vtAdd v (s.engM e)
    stg := { x.stg with
      cur := x.stg.cur ++ [c], lead := if x.stg.cur.isEmpty then lead else x.stg.lead, curVt := if x.stg.cur.isEmpty then v else x.stg.curVt } }
  if s.rowLen e ≤ (s.stg e).cur.length then s.closeRow e else s

/-- Is a PURE stream active? EMIT, EMITN, WAITVT STREAM, REWIND and a second VSTREAM stall on it (R98). -/
def State.pureActive (s : State) (e : Nat) : Bool :=
  match (s.eng e).vs with
  | some v => v.pure
  | none => false

/-- A cycle found no room: HOLD_STALL when a held mark keeps the bank (R125), ECHO_FULL when the ring has none (R162). -/
def State.stallNoted (s : State) (e : Nat) : State :=
  let s := if (s.stg e).held then
      s.on (ENG_STG_STATUS_HOLD_STALL e)
    else s
  if s.echoRoom e 1 then s else s.echoFull e 1

/-- MARK (R120): close the fill row, set the mark at the next fill row. -/
def State.setMark (s : State) (e : Nat) : State :=
  let s := s.closeRow e
  s.updStg e fun g => { g with mark := some g.fill }

/-- End the hold of the mark (R124). -/
def State.dropMark (s : State) (e : Nat) : State :=
  (s.updStg e fun g => { g with mark := none }).stgRelease e

/-- Rows of the region a REWIND under mark m replays, once the fill row is closed (R122). -/
def Staging.regionRows (g : Staging) (m : Nat) : Nat := g.fill + (if g.cur.isEmpty then 0 else 1) - m

/-- REWIND queues n passes of the marked region (R122, R123); a TASK_STOP in effect cuts the passes at the first cycle
at or past its VT. -/
def State.rewind (s : State) (e n : Nat) : State :=
  let s := s.closeRow e
  match (s.stg e).mark with
  | none => s
  | some m =>
    let g := s.stg e
    let count := g.fill - m
    let l := (g.rows.filter fun r => decide (m ≤ r.num)).foldl (fun n r => n + r.cycles.length) 0
    if l = 0 || n = 0 then s
    else
      let v := (s.eng e).stime
      let mm := s.engM e
      let total := n * l
      let cut := match (s.engPart e).bind s.stopVt with
        | some t => if vtGe v t then 0 else min total (ceilDiv (vtDiff t v) mm)
        | none => total
      let s := if cut < total then s.on (ENG_STG_STATUS_TRUNCATED e) else s
      let seg := { first := m, count := count, passes := n, base := v, cycles := l,
                   limit := if cut < total then some cut else none : Seg }
      let s := s.updEng e fun x => { x with
        stime := vtAdd v (cut * mm), stg := { x.stg with
          segs := x.stg.segs ++ [seg], total := x.stg.total + cut } }
      s.each (s.deadSlots e) fun s k => s.discard e k ((s.stg e).framesOf seg)

/-- Is the buffer drained: no closed row left and no pass queued (R79)? -/
def State.drained (s : State) (e : Nat) : Bool :=
  let g := s.stg e
  g.rows.isEmpty && g.cur.isEmpty && (s.liveSlots e).all fun n => (g.next (s.engM e) n).isNone

/-- Queued passes not yet begun, by the slowest slot in service (ENG_STG_PASSES). -/
def State.passesLeft (s : State) (e : Nat) : Nat :=
  let g := s.stg e
  let of := fun (c : Slotc) => (g.segs.zip (upFrom g.segBase g.segs.length)).foldl (fun n y =>
    if c.seg < y.2 then n + y.1.passesOut
    else if c.seg = y.2 then n + (y.1.passesOut - c.pass - (if c.row = 0 then 0 else 1))
    else n) 0
  (s.liveSlots e).foldl (fun n k => max n (of (g.cursor k))) 0

/-- The bytes of slot n in a cycle: P / 2 of them, low nibble first (R112, R126). -/
def Cycle.slotBytes (c : Cycle) (p n : Nat) : List Byte :=
  natLe (p / 2) (bits c.nibs.toNat (4 * n * p) (4 * p))

/-- A frame payload of 128 bytes: the cycles' bytes, then 0xF nibbles (R112, R137). -/
def payload (cs : List Cycle) (p n : Nat) : List Byte :=
  let b := cs.flatMap fun c => c.slotBytes p n
  (b ++ List.replicate (128 - b.length) 0xFF).take 128

/-- The cycles that every slot in service has sent (R127); once the buffer was emptied under the task, or with no slot in
service left, the count stays what it was. -/
def State.cyclesSent (s : State) (e : Nat) : Nat :=
  let g := s.stg e
  match s.liveSlots e with
  | [] => g.counted
  | k :: r => if g.frozen then g.counted
    else r.foldl (fun n j => min n (g.slots.getD j {}).sent) (g.slots.getD k {}).sent

/-- The signature of slot n over exactly the cycles that count (R126, R127). -/
def State.signature (s : State) (e n : Nat) : Nat :=
  let c := (s.stg e).slots.getD n {}
  let k := s.cyclesSent e
  let crc := if bit (s.rd (ENG_STG_STATUS_SIG_BROKEN e)) n then c.crc
    else match c.hist.find? (fun x => x.1 ≤ k) with
      | some x => x.2
      | none => if k = 0 then 0xFFFFFFFF else c.crc
  Nat.xor crc 0xFFFFFFFF

/-- The count of R127 is kept, and what of the signatures' history no slot needs any more is dropped. -/
def State.countSent (s : State) (e : Nat) : State :=
  let k := s.cyclesSent e
  s.updStg e fun g => { g with
    counted := k, slots := g.slots.map fun c => { c with hist := c.hist.filter fun x => k ≤ x.1 } }

/-- Slot n has sent a frame (R117, R118, R126): its cursor moves on, its signature takes the cycle bytes unless it is
broken (R128), sent rows are released. -/
def State.sentFrame (s : State) (e n : Nat) (f : NextFrame) : State :=
  let p := s.engP e
  let bytes := f.cycles.flatMap fun c => c.slotBytes p n
  let broken := bit (s.rd (ENG_STG_STATUS_SIG_BROKEN e)) n
  let s := s.updStg e fun g =>
    let crc := if broken then f.cursor.crc else bytes.foldl (crcByte 0xEDB88320) f.cursor.crc
    let sent := f.cursor.sent + f.cycles.length
    { g with slots := g.slots.setIfInBounds n { f.cursor with
        row := f.cursor.row + 1, crc := crc, sent := sent, hist := (sent, crc) :: f.cursor.hist } }
  (s.countSent e).stgRelease e

/-- Stored bits of a closed row have flipped (R129): neither detected nor corrected. -/
def State.stgUpset (s : State) (e row : Nat) (us : List (Nat × BitVec 256 × BitVec 56)) : State :=
  if us.isEmpty then s
  else s.updStg e fun g => { g with rows := g.rows.map fun r =>
    if r.num = row then { r with cycles := us.foldl (fun cs u => modAt cs u.1 fun c =>
      { c with nibs := c.nibs ^^^ u.2.1, stamp := c.stamp ^^^ u.2.2 }) r.cycles }
    else r }

/-- Before a replayed row is first sent, its cycles enter the echo ring (R122); none where the ring has no room. -/
def State.replayEcho (s : State) (e : Nat) (f : NextFrame) : Option State :=
  match f.replay with
  | none => some s
  | some (a, b, c) =>
    let last := (s.stg e).echoed
    let past := a < last.1 || (a = last.1 && (b < last.2.1 || (b = last.2.1 && c + 1 ≤ last.2.2)))
    if past then some s
    else if s.echoRoom e f.cycles.length then
      let w := s.engW e
      let s := s.each (f.cycles.zip (upFrom 0 f.cycles.length)) fun s x =>
        s.echoAdd e (vtAdd f.vt (x.2 * s.engM e)) (expectsOf w x.1.nibs) x.1.stamp
      some (s.updStg e fun g => { g with echoed := (a, b, c + 1) })
    else none

/-- The Vector Time of the first cycle slot n has not sent; cycles go out in the order of their times (R117). -/
def State.unsentFrom (s : State) (e n : Nat) : Option Nat :=
  let g := s.stg e
  match g.next (s.engM e) n with
  | some f => some f.vt
  | none => if g.cur.isEmpty then none else some g.curVt

/-- The unsent cycles of slot n count as answered (R163). -/
def State.answerUnsent (s : State) (e n : Nat) : State :=
  match s.unsentFrom e n with
  | some v => s.echoAnswer e n v
  | none => s

/-- A slot goes out of service with no spare (R128): what it still holds is discarded and counts as answered. -/
def State.slotLost (s : State) (e n : Nat) : State :=
  let g := s.stg e
  let c := g.cursor n
  let left := (g.segs.zip (upFrom g.segBase g.segs.length)).foldl (fun k y =>
    if y.2 < c.seg then k
    else k + g.framesLeft y.1 (if y.2 = c.seg then c.pass else 0) (if y.2 = c.seg then c.row else 0)) 0
  let s := s.answerUnsent e n
  ((s.discard e n left).countSent e).stgRelease e

/-- The buffer is emptied: a fence or retirement of the engine discards every unsent row and pass (R163), an unbinding
apply empties the buffer; the signatures and their count keep their values (R126). -/
def State.stgEmpty (s : State) (e : Nat) : State :=
  let s := s.each (upFrom 0 (s.engLanes e).length) fun s n => s.answerUnsent e n
  s.updStg e fun g => { g with
    frozen := true
    rows := [], cur := [], mark := none, segs := [], segBase := 0
    slots := g.slots.map fun c => { c with seg := 0, pass := 0, row := 0 } }

/-- A task start (R113, R126): the fill begins at row 0 of bank A, signatures and counts restart. -/
def State.stgStart (s : State) (e : Nat) : State :=
  (s.updStg e fun _ => {}).put (ENG_STG_STATUS_SIG_BROKEN e) 0

end Sys2Proof.Machine
end

