-- ==== Sys2Proof/Machine/EngOps.lean ====
section
/-! DEFINITION. What the pattern engines' instructions share (chapters 04 and 05): registers, local SRAM, issuing,
traps, the end of a task, composing and emitting cycles. -/
namespace Sys2Proof.Machine
open Csr

/-- Every command's meaning answers a next state. -/
abbrev Outcome := Host.Outcome State Fault Refusal

/-- ENG_STATE.STATE of engine e. -/
def State.engState (s : State) (e : Nat) : Nat := s.rd (ENG_STATE_STATE e)

/-- A general register; G0 reads as zero (R68). -/
def State.getG (s : State) (e : Nat) (r : Fin 16) : W64 := if r = 0 then 0 else (s.eng e).g[r]

/-- Write a general register; a write to G0 is discarded (R68). -/
def State.setG (s : State) (e : Nat) (r : Fin 16) (v : W64) : State :=
  if r = 0 then s else s.updEng e fun g => { g with g := g.g.set r v }

/-- Set the flags. -/
def State.setFlags (s : State) (e : Nat) (f : BitVec 6) : State := s.updEng e fun g => { g with flags := f }

/-! Local SRAM -/

/-- The local word at byte address a (a multiple of 8). -/
def Engine.word (g : Engine) (a : Nat) : W64 := cget (fun _ => 0) g.sram (a / 8)

/-- The local byte at an address, modulo 65 536. -/
def Engine.byte (g : Engine) (a : Nat) : Byte :=
  BitVec.ofNat 8 (bits (g.word (a % 65536 / 8 * 8)).toNat (8 * (a % 8)) 8)

/-- Store a local word. -/
def Engine.putWord (g : Engine) (a : Nat) (v : W64) : Engine := { g with sram := cput (fun _ => 0) g.sram (a / 8) v }

/-- Store bytes from a local address that is a multiple of 8. -/
def Engine.putBytes (g : Engine) (a : Nat) (bs : List Byte) : Engine :=
  let ws := (chunks 8 ((bs.length + 7) / 8) bs).map fun c => BitVec.ofNat 64 (leNat c)
  { g with sram := cputAll (fun _ => 0) g.sram (a / 8) ws }

/-- n bytes from a local address that is a multiple of 8. -/
def Engine.getBytes (g : Engine) (a n : Nat) : List Byte :=
  ((cgetAll (fun _ => 0) g.sram (a / 8) ((n + 7) / 8)).flatMap fun w => natLe 8 w.toNat).take n

/-- Does an outstanding DRQ's local range hold a byte of the word at a (R89)? -/
def Engine.drqHits (g : Engine) (a : Nat) : Bool := g.drqs.any fun d => inRange a d.loc (d.loc + d.len)

/-! The end of a task and traps -/

/-- May HALT's wait end: no tag busy, no PURE stream undelivered (R86, R99)? -/
def Engine.haltReady (g : Engine) : Bool :=
  g.drqs.isEmpty && match g.vs with | some v => ! v.pure | none => true

/-- A task has ended (R80): HALTED, its reason, the engine's next state; the mark is released, the open row closes, a
MERGE stream's cycles are discarded. -/
def State.taskOver (s : State) (e reason st : Nat) : State :=
  let s := (s.dropMark e).closeRow e
  let s := s.updEng e fun g => { g with
    wait := .none, async := [], stopReq := none, stopVt := none, vs := none }
  ((s.on (ENG_EVENT_HALTED e)).put (ENG_EVENT_HALT_REASON e) reason).put (ENG_STATE_STATE e) st

/-- Complete HALT's wait, if it may end (R86, R107). -/
def State.tryHalt (s : State) (e : Nat) : State :=
  if (s.eng e).haltReady then
    match (s.eng e).wait with
    | .halt r => s.taskOver e r 1
    | .haltTrap =>
      ((s.taskOver e 3 4).on (ENG_EVENT_TRAP_HALT e)).raise
        { src := srcEng e, kind := 0x01, addr := (s.eng e).trapcause.toNat % 2 ^ 36, part := s.engPart e }
    | _ => s
  else s

/-- TRAPCAUSE as R105 lays it out. -/
def TrapCause.word (c : TrapCause) : W64 :=
  BitVec.ofNat 64 (c.code % 2 ^ 8 + c.detail % 2 ^ 16 * 2 ^ 8 + c.addr % 2 ^ 36 * 2 ^ 24)

/-- TRAPCAUSE and TRAPPC take a cause, and the trap counts (R106). -/
def State.trapNote (s : State) (e : Nat) (c : TrapCause) (tpc : BitVec 24) : State :=
  let w := c.word
  let s := s.updEng e fun g => { g with trapcause := w, trappc := tpc }
  (((s.put (ENG_TRAP_LO_CAUSE e) (w.toNat % 2 ^ 32)).put (ENG_TRAP_HI_CAUSE e) (w.toNat / 2 ^ 32)).put
    (ENG_TRAPPC_TRAPPC e) tpc.toNat).inc (ENG_COUNT_TRAPS e)

/-- The halting trap's wait begins or goes on (R107); causes that still pend are taken at once, each the latest in turn. -/
def State.trapHalt (s : State) (e : Nat) : State :=
  let s := s.each (s.eng e).async fun s c => s.trapNote e c (s.eng e).pc
  (s.updEng e fun g => { g with wait := .haltTrap, async := [] }).tryHalt e

/-- At an instruction boundary without a pending cause, a stop that waits begins HALT's wait (R80). -/
def State.stopPending (s : State) (e : Nat) : State :=
  match (s.eng e).wait, (s.eng e).stopReq with
  | .none, some r => (s.updEng e fun g => { g with wait := .halt r, stopReq := none }).tryHalt e
  | _, _ => s

/-- Take a trap (R106), or halt where a handler runs already or none exists (R107); INTRAP stays clear where none exists
(DEDUCED, log 179: R70 ties it to a running handler). The handler's entry is an instruction boundary: a cause that still pends
traps inside the handler, and a stop that waits takes effect. -/
def State.trapTake (s : State) (e : Nat) (c : TrapCause) (tpc : BitVec 24) : State :=
  let s := s.trapNote e c tpc
  if s.flag (ENG_STATE_INTRAP e) || (s.eng e).desc.trapEntry = 0 then s.trapHalt e
  else
    let s := (s.updEng e fun g => { g with pc := BitVec.ofNat 24 g.desc.trapEntry, wait := .none }).on (ENG_STATE_INTRAP e)
    if (s.eng e).async.isEmpty then s.stopPending e else s.trapHalt e

/-- The address of the instruction issued last. -/
def State.lastPc (s : State) (e : Nat) : BitVec 24 := BitVec.ofNat 24 (s.rd (ENG_PC_PC e))

/-- A trap whose TRAPPC is the faulting instruction (R105). -/
def State.trapHere (s : State) (e code detail addr : Nat) : State :=
  s.trapTake e (TrapCause.mk code detail addr) (s.lastPc e)

/-- Trap 0x02, illegal instruction: DETAIL the opcode (R105). -/
def State.illegal (s : State) (e op : Nat) : State := s.trapHere e 0x02 op 0

/-- An instruction boundary: a pending asynchronous cause is taken first (R106), then a stop that waits. -/
def State.boundary (s : State) (e : Nat) : State :=
  match (s.eng e).wait, (s.eng e).async with
  | .none, c :: rest => (s.updEng e fun g => { g with async := rest }).trapTake e c (s.eng e).pc
  | _, _ => s.stopPending e

/-- An asynchronous cause arises (R92, R100): taken at the next instruction boundary, at the HALT whose wait it interrupts
(R86), or in the wait of a halting trap, whose latest cause it becomes (R107). A stop's wait resumes after the trap. -/
def State.asyncTrap (s : State) (e : Nat) (c : TrapCause) : State :=
  match (s.eng e).wait with
  | .halt 0 => s.trapTake e c (s.lastPc e)
  | .halt r => (s.updEng e fun g => { g with wait := .none, stopReq := some r }).trapTake e c (s.eng e).pc
  | .haltTrap => (s.trapNote e c (s.eng e).pc).tryHalt e
  | _ => (s.updEng e fun g => { g with async := g.async ++ [c] }).boundary e

/-! Issuing -/

/-- The instruction word the cache holds at the PC (R78, R84); at a PC that is no multiple of 4 the four bytes there, zeros
beyond the line's end (DESIGN CHOICE, log 180: the spec is silent). -/
def State.fetched (s : State) (e : Nat) : Option Nat :=
  let g := s.eng e
  (g.icache.find? (fun l => l.1 = g.pc.toNat / 64)).map fun l => fieldAt l.2 (g.pc.toNat % 64) 4

/-- May engine e issue the instruction word w now: it runs, is not held, waits for nothing, and w is what it fetched? -/
def State.ready (s : State) (e w : Nat) : Bool :=
  s.engState e = 3 && ! s.engHeld e && (s.eng e).wait = .none && s.fetched e = some w

/-- The PC moves on (R78), and ENG_PC shows the instruction issued. -/
def State.advance (s : State) (e : Nat) : State :=
  let pc := (s.eng e).pc
  (s.put (ENG_PC_PC e) pc.toNat).updEng e fun g => { g with pc := pc + 4 }

/-- Issue the instruction word w with effect f, or leave the machine as it is while the engine cannot issue it. -/
def State.issue (s : State) (e w : Nat) (f : State → State) : State :=
  if s.ready e w then f (s.advance e) else s

/-- Jump. -/
def State.jump (s : State) (e : Nat) (pc : BitVec 24) : State := s.updEng e fun g => { g with pc := pc }

/-! Address and data generators -/

/-- One step of AX or AY (R74). -/
def Gen.stepped (g : Gen) : Gen × Bool :=
  if g.val = g.lim then ({ g with val := g.wrap }, true) else ({ g with val := g.val + g.step }, false)

/-- An increment in a mode: [1:0] INCMODE, [2] ZCHAIN (R71, R74). -/
def Engine.incr (g : Engine) (mode : Nat) : Engine :=
  let im := mode % 4
  let xFirst := im = 0 || im = 2
  let x1 := if xFirst then g.ax.stepped else (g.ax, false)
  let y1 := if im = 1 || im = 3 then g.ay.stepped else (g.ay, false)
  let x := if im = 3 && y1.2 then g.ax.stepped else x1
  let y := if im = 2 && x1.2 then g.ay.stepped else y1
  let last := if im = 0 || im = 3 then x.2 else y.2
  let zs := bit mode 2 && last
  let zc := zs && g.az = g.azLim
  { g with ax := x.1, ay := y.1, az := if zs then (if zc then 0 else g.az + 1) else g.az,
           flags := genFlags g.flags x.2 y.2 zc }

/-- One LFSR step of DG (R76). -/
def lfsrStep (d : W64) : W64 :=
  (d <<< 1) ||| BitVec.setWidth 64 (bv1 (d.getLsbD 63 ^^ d.getLsbD 62 ^^ d.getLsbD 60 ^^ d.getLsbD 59))

/-- The effective data word of source select 0 (R76). -/
def Engine.dataWord (g : Engine) : W64 :=
  let i := if g.dgcfg.getLsbD 0 then BitVec.allOnes 64 else 0
  let chk := g.dgcfg.getLsbD 1 &&
    (g.ax.val.getLsbD (bits g.dgcfg.toNat 2 5) ^^ g.ay.val.getLsbD (bits g.dgcfg.toNat 7 5))
  g.dg ^^^ i ^^^ (if chk then BitVec.allOnes 64 else 0)

/-- Entry i of scramble table t. -/
def Engine.scrAt (g : Engine) (t i : Nat) : Byte := cget (fun a => BitVec.ofNat 8 a) g.scr (256 * t + i)

/-- An address value with its 8-bit window at pos replaced by the table's entry (R75). -/
def Engine.scrambled (g : Engine) (t pos v : Nat) : Nat :=
  putBits v pos 8 (g.scrAt t (bits v pos 8)).toNat

/-- The address pins drive for X and Y (R75). -/
def Engine.pinX (g : Engine) : Nat :=
  if g.acfg.getLsbD 3 then g.scrambled 0 (bits g.acfg.toNat 5 5) g.ax.val.toNat else g.ax.val.toNat
def Engine.pinY (g : Engine) : Nat :=
  if g.acfg.getLsbD 4 then g.scrambled 1 (bits g.acfg.toNat 10 5) g.ay.val.toNat else g.ay.val.toNat

/-- The address stamp: AX, AY, AZ before scrambling (R95). -/
def Engine.stamp (g : Engine) : BitVec 56 := g.az ++ g.ay.val ++ g.ax.val

/-! EMIT -/

/-- The nibble of one pin (R95): role, index, read cycle, data word, addresses, stored nibble. -/
def pinNibble (role idx : Nat) (read : Bool) (d : Nat) (x y z stored : Nat) : Nat :=
  let b := fun (v : Bool) => if v then 1 else 0
  let addr := fun (v : Nat) => b (bit v idx) + 12
  let data := fun (v : Bool) => if read then 2 + b v * 4 else b v + 12
  match role with
  | 0 => idx % 16
  | 1 => addr x
  | 2 => addr y
  | 3 => addr z
  | 4 => data (bit d idx)
  | 5 => data (! bit d idx)
  | _ => stored

/-- The pin role table of engine e: pins 0 to W - 1. -/
def State.roles (s : State) (e : Nat) : List (Nat × Nat) :=
  match s.img.active.pins.find? (fun r => r.engine = e) with
  | some r => r.roles.take (s.engW e)
  | none => []

/-- Compose a cycle (R95, steps 1 to 4). -/
def composeCycle (g : Engine) (roles : List (Nat × Nat)) (src mask : W64) (flags : Nat) (stored : BitVec 256) :
    Cycle :=
  let x := g.pinX
  let y := g.pinY
  let z := g.az.toNat
  let nib := fun (j : Nat) (r : Nat × Nat) =>
    let n := pinNibble r.1 r.2 (bit flags 0) src.toNat x y z (bits stored.toNat (4 * j) 4)
    if mask.getLsbD j then n % 4 + 12 else n
  let v := (roles.zip (upFrom 0 roles.length)).foldl (fun a r => a + nib r.2 r.1 * 16 ^ r.2) 0
  Cycle.mk (BitVec.ofNat 256 v) g.stamp

/-- What one cycle of EMIT meets. -/
inductive EmitStep where
  | stop
  | trap (code : Nat)
  | stall
  | done (s : State)

/-- The stored cycle a MERGE stream offers: none without a stream; some none while it has not arrived (R99). -/
def Engine.mergeHead (g : Engine) : Option (Option (BitVec 256)) :=
  match g.vs with
  | some v => if v.pure then none else some v.queue.head?
  | none => none

/-- A MERGE stream's head has been taken; an exhausted stream ends (R99, R116). -/
def Engine.mergePop (g : Engine) : Engine :=
  match g.vs with
  | some v => if v.pure then g else
      let q := v.queue.drop 1
      { g with vs := if q.isEmpty && v.left = 0 then none else some { v with queue := q } }
  | none => g

/-- Is the stream time at or past a TASK_STOP in effect for the engine's partition, or the boundary of a change out of RUN
(R59, R393)? -/
def State.stopHere (s : State) (e : Nat) : Bool :=
  (s.eng e).stopVt.any (fun v => vtGe (s.eng e).stime v) || match s.engPart e with
  | some p => s.stopDue p (s.eng e).stime
  | none => false

/-- Has engine e emitted a cycle at or past v (R59)? -/
def State.stopLate (s : State) (e v : Nat) : Bool :=
  let g := s.eng e
  g.stime ≠ g.origin && vtGe (vtDiff g.stime (s.mPart ((s.engPart e).getD 0))) v

/-- A TASK_STOP that stops engine e is remembered until it fires; one that comes late is evidence (R59). -/
def State.stopMark (s : State) (e : Nat) : State :=
  match (s.engPart e).bind s.firstStop with
  | some (n, x) =>
    if ! vtGe (s.eng e).stime x.vt then s
    else
      let known := s.vt.stopped.any fun y => y.1 = n && y.2
      let late := s.stopLate e x.vt && ! known
      let s : State := { s with vt := { s.vt with stopped := (n, late || known) :: s.vt.stopped.filter fun y => y.1 ≠ n } }
      if late then s.edgeLate n x (s.eng e).stime else s
  | none => s

/-- One cycle of EMIT (R95, R96, R98, R99). -/
def State.emitOne (s : State) (e : Nat) (src mask : Fin 16) (flags : Nat) : EmitStep :=
  let g := s.eng e
  let roles := s.roles e
  let stored := roles.any fun r => r.1 = 6
  if s.stopHere e then .stop
  else match g.vs with
    | some v => if v.pure then .stall else
      match v.queue.head? with
      | some h => go g roles h
      | none => if v.left = 0 && stored then .trap 0x05 else if v.left = 0 then go g roles 0 else .stall
    | none => if stored then .trap 0x05 else go g roles 0
where
  go (g : Engine) (roles : List (Nat × Nat)) (h : BitVec 256) : EmitStep :=
    if ! s.cycleRoom e then .stall
    else
      let d := if src = 0 then g.dataWord else s.getG e src
      let m := if mask = 0 then 0 else s.getG e mask
      let c := composeCycle g roles d m flags h
      let s := s.pushCycle e c (expectsOf roles.length c.nibs)
      .done (s.updEng e fun g =>
        let g := g.mergePop
        let g := if bit flags 1 then g.incr (g.acfg.toNat % 8) else g
        if bit flags 2 && g.dgcfg.getLsbD 12 then { g with dg := lfsrStep g.dg } else g)

/-- Emission stops at a TASK_STOP: the rest is abandoned, then HALT's wait (R59, R125). -/
def State.stopNow (s : State) (e reason : Nat) : State :=
  (s.updEng e fun g => { g with wait := .halt reason }).tryHalt e

/-- A stop reaches an engine in whatever it waits for: at once between instructions, else at the next boundary (R80); one
that meets the wait of HALT holds for the boundary of a trap that interrupts that wait (R86). -/
def State.stopAt (s : State) (e reason : Nat) : State :=
  match (s.eng e).wait with
  | .none => s.stopNow e reason
  | .haltTrap => s.tryHalt e
  | _ => s.updEng e fun g => { g with stopReq := some (g.stopReq.getD reason) }

/-- A cycle stalls on a bank that a held mark keeps: a stop that waits abandons it, with what is left of a PURE stream, and
the task ends (R125). -/
def State.heldStop (s : State) (e : Nat) : State :=
  let cut := s.updEng e fun g => { g with stopReq := none, vs := g.vs.filter fun v => ! v.pure }
  if ! (s.stg e).held then s
  else match (s.eng e).wait, (s.eng e).stopReq with
    | .haltTrap, some _ => cut.tryHalt e
    | .haltTrap, none => s
    | _, some r => cut.stopNow e r
    | .halt (_ + 1), none => cut.tryHalt e
    | _, none => s

/-- Emit n cycles; a stall leaves the rest waiting (R96). -/
def State.emitMany (s : State) (e : Nat) (src mask : Fin 16) (flags op : Nat) : Nat → State
  | 0 => (s.updEng e fun g => { g with wait := .none }).boundary e
  | n + 1 =>
    match s.emitOne e src mask flags with
    | .stop => (s.stopMark e).stopNow e 1
    | .trap c => s.trapHere e c op 0
    | .stall => ((s.stallNoted e).updEng e fun g => { g with wait := .emit op src mask flags (n + 1) }).heldStop e
    | .done s' => s'.emitMany e src mask flags op n

/-- Emit padding cycles up to a stream time, as many as room allows (R102). -/
def State.padTo (s : State) (e target : Nat) : Nat → State
  | 0 => s.updEng e fun g => { g with wait := .pad target }
  | n + 1 =>
    let g := s.eng e
    if vtGe g.stime target then (s.updEng e fun g => { g with wait := .none }).boundary e
    else if s.stopHere e then (s.stopMark e).stopNow e 1
    else if s.cycleRoom e then
      let c := Cycle.mk (BitVec.allOnes 256) g.stamp
      (s.pushCycle e c (expectsOf (s.engW e) c.nibs)).padTo e target n
    else ((s.stallNoted e).updEng e fun g => { g with wait := .pad target }).heldStop e

/-- More padding cycles than any buffer takes at once. -/
def padFuel : Nat := 65536

/-! Memory requests of engines -/

/-- The access an engine makes: its class label, read or write (R209). -/
def State.engAcc (s : State) (e kind : Nat) : Acc := { master := srcEng e, kind := kind, cls := (s.eng e).desc.cls }

/-- Does the range lie wholly inside one region of the engine's partition (R78, R91)? -/
def State.inOneRegion (s : State) (e addr n : Nat) : Bool :=
  match s.engPart e with
  | some p => (s.partRegions p).any fun g => addr + n ≤ 2 ^ 36 && addr / 2 ^ 31 = (addr + n - 1) / 2 ^ 31 &&
      g.has addr && g.has (addr + n - 1)
  | none => false

/-- The detail of trap 0x06 (R105): tag, origin (0 DRQ, 1 VSTREAM, 2 LDI), reason. -/
def dmaDetail (tag origin reason : Nat) : Nat := tag + origin * 2 ^ 4 + reason * 2 ^ 8

/-- The reason a transfer ended (R105): 1 UNCORRECTABLE, 2 ERROR_RESPONSE. -/
def XferErr.reason (x : XferErr) : Nat := if x.uncorrectable then 1 else 2

end Sys2Proof.Machine
end

