-- ==== Sys2Proof/Machine/EngAlu.lean ====
section
/-! DEFINITION. Pattern engines: arithmetic, moves, constants, local SRAM and DRAM requests (R68 to R72, R83, R87 to
R92). -/
namespace Sys2Proof.Machine
open Csr

/-- gd takes r; Z and N from r, C as given (R83). -/
def State.alu (s : State) (e : Nat) (gd : Fin 16) (r : W64) (c : Bool) : State :=
  (s.setG e gd r).setFlags e (aluFlags (s.eng e).flags r c)

/-- NOP (R83). -/
def execNop (e : Eng) (s : State) : Outcome := .next (s.issue e (fmtA 0x01 0 0 0 0) fun s => s)

/-- ADD (R83). -/
def execAdd (e : Eng) (gd ga gb : Fin 16) (s : State) : Outcome :=
  .next (s.issue e (fmtA 0x02 gd ga gb 0) fun s =>
    s.alu e gd (s.getG e ga + s.getG e gb) (addCarry (s.getG e ga) (s.getG e gb)))

/-- SUB (R83). -/
def execSub (e : Eng) (gd ga gb : Fin 16) (s : State) : Outcome :=
  .next (s.issue e (fmtA 0x03 gd ga gb 0) fun s =>
    s.alu e gd (s.getG e ga - s.getG e gb) (subBorrow (s.getG e ga) (s.getG e gb)))

/-- AND (R83). -/
def execAndReg (e : Eng) (gd ga gb : Fin 16) (s : State) : Outcome :=
  .next (s.issue e (fmtA 0x04 gd ga gb 0) fun s => s.alu e gd (s.getG e ga &&& s.getG e gb) false)

/-- OR (R83). -/
def execOrReg (e : Eng) (gd ga gb : Fin 16) (s : State) : Outcome :=
  .next (s.issue e (fmtA 0x05 gd ga gb 0) fun s => s.alu e gd (s.getG e ga ||| s.getG e gb) false)

/-- XOR (R83). -/
def execXorReg (e : Eng) (gd ga gb : Fin 16) (s : State) : Outcome :=
  .next (s.issue e (fmtA 0x06 gd ga gb 0) fun s => s.alu e gd (s.getG e ga ^^^ s.getG e gb) false)

/-- SHL by gb[5:0] (R68, R83). -/
def execShl (e : Eng) (gd ga gb : Fin 16) (s : State) : Outcome :=
  .next (s.issue e (fmtA 0x07 gd ga gb 0) fun s => s.alu e gd (s.getG e ga <<< shiftAmt (s.getG e gb)) false)

/-- SHR by gb[5:0], logical (R68, R83). -/
def execShr (e : Eng) (gd ga gb : Fin 16) (s : State) : Outcome :=
  .next (s.issue e (fmtA 0x08 gd ga gb 0) fun s => s.alu e gd (s.getG e ga >>> shiftAmt (s.getG e gb)) false)

/-- ADD immediate (R83). -/
def execAddImm (e : Eng) (gd ga : Fin 16) (imm : BitVec 18) (s : State) : Outcome :=
  .next (s.issue e (fmtB 0x0A gd ga imm.toNat) fun s =>
    s.alu e gd (s.getG e ga + sext18 imm) (addCarry (s.getG e ga) (sext18 imm)))

/-- AND immediate (R83). -/
def execAndImm (e : Eng) (gd ga : Fin 16) (imm : BitVec 18) (s : State) : Outcome :=
  .next (s.issue e (fmtB 0x0B gd ga imm.toNat) fun s => s.alu e gd (s.getG e ga &&& sext18 imm) false)

/-- OR immediate (R83). -/
def execOrImm (e : Eng) (gd ga : Fin 16) (imm : BitVec 18) (s : State) : Outcome :=
  .next (s.issue e (fmtB 0x0C gd ga imm.toNat) fun s => s.alu e gd (s.getG e ga ||| sext18 imm) false)

/-- XOR immediate (R83). -/
def execXorImm (e : Eng) (gd ga : Fin 16) (imm : BitVec 18) (s : State) : Outcome :=
  .next (s.issue e (fmtB 0x0D gd ga imm.toNat) fun s => s.alu e gd (s.getG e ga ^^^ sext18 imm) false)

/-- SHL immediate (R83). -/
def execShlImm (e : Eng) (gd ga : Fin 16) (sh : BitVec 6) (s : State) : Outcome :=
  .next (s.issue e (fmtB 0x0E gd ga sh.toNat) fun s => s.alu e gd (s.getG e ga <<< sh.toNat) false)

/-- SHR immediate, logical (R83). -/
def execShrImm (e : Eng) (gd ga : Fin 16) (sh : BitVec 6) (s : State) : Outcome :=
  .next (s.issue e (fmtB 0x0F gd ga sh.toNat) fun s => s.alu e gd (s.getG e ga >>> sh.toNat) false)

/-- STATUS as R70 lays it out. -/
def State.statusWord (s : State) (e : Nat) : Nat :=
  let g := s.eng e
  g.flags.toNat + b2n (s.flag (ENG_STATE_INTRAP e)) * 2 ^ 8 + b2n g.stg.mark.isSome * 2 ^ 9
    + b2n g.vs.isSome * 2 ^ 10 + g.drqs.foldl (fun m d => putBit m d.tag true) 0 * 2 ^ 16

/-- A state register as MOV reads it (R69); none for an unassigned number. PC reads as the address of the MOV
(DEDUCED, log 20). -/
def State.srRead (s : State) (e : Nat) (n : Nat) : Option W64 :=
  let g := s.eng e
  let z := fun (v : Nat) => some (BitVec.ofNat 64 v)
  let gen := fun (x : Gen) (i : Nat) => match i with
    | 0 => z x.val.toNat
    | 1 => z x.lim.toNat
    | 2 => some (x.step.signExtend 64)
    | _ => z x.wrap.toNat
  match n with
  | 0x00 => z (s.lastPc e).toNat
  | 0x01 => z (s.statusWord e)
  | 0x02 => z (g.desc.cls % 8)
  | 0x03 => some g.trapcause
  | 0x04 => z g.trappc.toNat
  | 0x05 => z (g.desc.part % 16)
  | 0x08 => z g.lc[0].toNat
  | 0x09 => z g.lc[1].toNat
  | 0x0A => z g.lc[2].toNat
  | 0x0B => z g.lc[3].toNat
  | 0x10 => gen g.ax 0
  | 0x11 => gen g.ax 1
  | 0x12 => gen g.ax 2
  | 0x13 => gen g.ax 3
  | 0x14 => gen g.ay 0
  | 0x15 => gen g.ay 1
  | 0x16 => gen g.ay 2
  | 0x17 => gen g.ay 3
  | 0x18 => z g.az.toNat
  | 0x19 => z g.azLim.toNat
  | 0x1A => z g.acfg.toNat
  | 0x20 => some g.dg
  | 0x21 => z g.dgcfg.toNat
  | 0x22 => z g.stime
  | 0x23 => z s.vt.vt
  | 0x24 => z g.barto.toNat
  | _ => none

/-- Set one register of AX or AY: 0 value, 1 limit, 2 step, 3 wrap. -/
def Gen.put (x : Gen) (i : Nat) (v : W64) : Gen :=
  let w := v.setWidth 24
  match i with
  | 0 => { x with val := w }
  | 1 => { x with lim := w }
  | 2 => { x with step := w }
  | _ => { x with wrap := w }

/-- Is a word a legal ACFG: SXPOS and SYPOS at most 16 (R71)? -/
def acfgOk (v : W64) : Bool := bits v.toNat 5 5 ≤ 16 && bits v.toNat 10 5 ≤ 16

/-- Is a word a legal DGCFG: CHK_XBIT and CHK_YBIT at most 23 (R72)? -/
def dgcfgOk (v : W64) : Bool := bits v.toNat 2 5 ≤ 23 && bits v.toNat 7 5 ≤ 23

/-- A write to a state register (R69 to R72); none where the number is not writable or the value is illegal. TRAPCAUSE takes
all 64 bits, though R105 lays out none above bit 59 (DESIGN CHOICE, log 184). -/
def Engine.srWrite (g : Engine) (n : Nat) (v : W64) : Option Engine :=
  match n with
  | 0x01 => some { g with flags := v.setWidth 6 }
  | 0x03 => some { g with trapcause := v }
  | 0x04 => some { g with trappc := v.setWidth 24 }
  | 0x08 => some { g with lc := g.lc.set 0 (v.setWidth 32) }
  | 0x09 => some { g with lc := g.lc.set 1 (v.setWidth 32) }
  | 0x0A => some { g with lc := g.lc.set 2 (v.setWidth 32) }
  | 0x0B => some { g with lc := g.lc.set 3 (v.setWidth 32) }
  | 0x10 => some { g with ax := g.ax.put 0 v }
  | 0x11 => some { g with ax := g.ax.put 1 v }
  | 0x12 => some { g with ax := g.ax.put 2 v }
  | 0x13 => some { g with ax := g.ax.put 3 v }
  | 0x14 => some { g with ay := g.ay.put 0 v }
  | 0x15 => some { g with ay := g.ay.put 1 v }
  | 0x16 => some { g with ay := g.ay.put 2 v }
  | 0x17 => some { g with ay := g.ay.put 3 v }
  | 0x18 => some { g with az := v.setWidth 8 }
  | 0x19 => some { g with azLim := v.setWidth 8 }
  | 0x1A => if acfgOk v then some { g with acfg := v.setWidth 15 } else none
  | 0x20 => some { g with dg := v }
  | 0x21 => if dgcfgOk v then some { g with dgcfg := v.setWidth 13 } else none
  | 0x24 => some { g with barto := v.setWidth 32 }
  | _ => none

/-- MOV (R87): between general registers, from a state register, to a state register. -/
def execMov (e : Eng) (op : MovOp) (s : State) : Outcome :=
  .next (match op with
    | .reg gd ga => s.issue e (fmtA 0x09 gd ga 0 0) fun s => s.setG e gd (s.getG e ga)
    | .fromSr gd srn => s.issue e (fmtA 0x09 gd 0 0 (0x1000 + srn.toNat)) fun s =>
        match s.srRead e srn.toNat with
        | some v => s.setG e gd v
        | none => s.illegal e 0x09
    | .toSr srn ga => s.issue e (fmtA 0x09 0 ga 0 (0x2000 + srn.toNat)) fun s =>
        match (s.eng e).srWrite srn.toNat (s.getG e ga) with
        | some g => s.updEng e fun _ => g
        | none => s.illegal e 0x09)

/-- LI (R88). -/
def execLi (e : Eng) (gd : Fin 16) (op : LiOp) (s : State) : Outcome :=
  .next (match op with
    | .sext imm => s.issue e (fmtB 0x10 gd 0 imm.toNat) fun s => s.setG e gd (sext18 imm)
    | .ins k imm => s.issue e (fmtB 0x10 gd (8 + k.val) imm.toNat) fun s =>
        s.setG e gd (BitVec.ofNat 64 (putBits (s.getG e gd).toNat (16 * k.val) 16 imm.toNat)))

/-- What the SEC-DED code found on a read of local SRAM (R89): a corrected error counts, a double one traps 0x03. -/
def State.sramRead (s : State) (e a : Nat) (u : SramUpset) (f : State → State) : State :=
  match u with
  | .clean => f s
  | .single => f (s.inc (ENG_COUNT_SRAM_CORR e))
  | .double => s.trapHere e 0x03 0 a

/-- Of the words 0 to n - 1 of a local SRAM read, the upsets (word number, double) that the SEC-DED code finds: how many are
corrected before the first uncorrectable word, and that word. -/
def sramScan (us : List (Nat × Bool)) (n : Nat) : Nat × Option Nat :=
  let bad := (upFrom 0 n).find? fun i => us.contains (i, true)
  (((upFrom 0 (bad.getD n)).filter fun i => us.contains (i, false)).length, bad)

/-- A read of n local words from byte address a on (R89, R105). -/
def State.sramReads (s : State) (e a n : Nat) (us : List (Nat × Bool)) (f : State → State) : State :=
  let r := sramScan us n
  let s := if r.1 = 0 then s else s.add (ENG_COUNT_SRAM_CORR e) r.1
  match r.2 with
  | some i => s.trapHere e 0x03 0 ((a + 8 * i) % 65536)
  | none => f s

/-- LD (R89): a misaligned address is illegal; a word an outstanding DRQ touches stalls it. -/
def execLd (e : Eng) (gd ga : Fin 16) (imm : BitVec 18) (upset : SramUpset) (s : State) : Outcome :=
  let a := localAddr (s.getG e ga) imm
  .next (if a % 8 = 0 && (s.eng e).drqHits a then s
    else s.issue e (fmtB 0x11 gd ga imm.toNat) fun s =>
      if a % 8 ≠ 0 then s.illegal e 0x11
      else s.sramRead e a upset fun s => s.setG e gd ((s.eng e).word a))

/-- ST (R89): a misaligned address is illegal; a word an outstanding DRQ touches stalls it. -/
def execSt (e : Eng) (gd ga : Fin 16) (imm : BitVec 18) (s : State) : Outcome :=
  let a := localAddr (s.getG e ga) imm
  .next (if a % 8 = 0 && (s.eng e).drqHits a then s
    else s.issue e (fmtB 0x12 gd ga imm.toNat) fun s =>
      if a % 8 ≠ 0 then s.illegal e 0x12
      else s.updEng e fun g => g.putWord a (s.getG e gd))

/-- DRQ (R90, R91): operand rules, the region check at issue, a length of 0, then the request is outstanding. A busy tag
stalls it. -/
def execDrq (e : Eng) (t ga gb : Fin 16) (write : Bool) (s : State) : Outcome :=
  let a := (s.getG e ga).toNat
  let b := (s.getG e gb).toNat
  let loc := bits b 0 16
  let len := bits b 16 17
  .next (if (s.eng e).drqs.any (fun d => d.tag = t.val) then s
    else s.issue e (fmtA 0x13 t ga gb (bitN write)) fun s =>
      if a % 64 ≠ 0 || loc % 64 ≠ 0 || len % 64 ≠ 0 || 65536 < len || b / 2 ^ 33 ≠ 0 || 65536 < loc + len then
        s.illegal e 0x13
      else if len = 0 then s
      else if ! s.inOneRegion e a len then s.trapHere e 0x06 (dmaDetail t 0 0) a
      else s.updEng e fun g => { g with drqs := g.drqs ++ [Drq.mk t a loc len write s.clk.live] })

/-- How a DRQ ends before its last granule: its DRAM access fails (R92), or its read of local SRAM meets an uncorrectable
word (R105). -/
inductive DrqEnd where
  | dram (x : XferErr)
  | sram (addr : Nat)

/-- Carry out a DRQ: its granules in order up to the first that fails (R91, R92). A DRQ write reads local SRAM under its
SEC-DED code (R89): the granules before an uncorrectable word are stored. -/
def State.drqRun (s : State) (e : Nat) (d : Drq) (us : List (Nat × Bool)) : State × Option DrqEnd :=
  if d.write then
    let r := sramScan us (d.len / 8)
    let n := match r.2 with | some i => i / 8 * 64 | none => d.len
    let s := if r.1 = 0 then s else s.add (ENG_COUNT_SRAM_CORR e) r.1
    match s.writeAll (s.engAcc e 2) d.cube ((s.eng e).getBytes d.loc n) with
    | (s, some x) => (s, some (.dram x))
    | (s, none) => (s, r.2.map fun i => .sram (d.loc + 8 * i))
  else
    let r := s.readWhole (s.engAcc e 1) d.cube (d.len / 64)
    (r.1.updEng e fun g => g.putBytes d.loc r.2.1, r.2.2.map .dram)

/-- The trap cause of a DRQ that ended early (R105). -/
def DrqEnd.cause (t : Nat) : DrqEnd → TrapCause
  | .dram x => TrapCause.mk 0x06 (dmaDetail t 0 x.reason) x.addr
  | .sram a => TrapCause.mk 0x03 0 a

/-- A DRQ of the engine that is its port's to serve: the engine is not stalled (R17, R207), and it stands behind no earlier
request of the engine to one of its granules (R91): neither a DRQ nor, for a write, the granules an older stream has still
to read. Its time at the port runs from its issue, a throttle's stall included (R221). -/
def State.drqLive (s : State) (e t : Nat) : Option Drq :=
  let ds := (s.eng e).drqs
  match ds.find? (fun d => d.tag = t) with
  | none => none
  | some d =>
    let earlier := ds.takeWhile (fun x => x.tag ≠ t)
    let stream := match (s.eng e).vs with
      | some v => d.write && ! v.before.contains t && v.next < d.cube + d.len &&
          d.cube < v.next + (v.left * (s.engW e / 2) - v.buf.length)
      | none => false
    if s.engHeld e || stream || earlier.any (fun x => x.cube < d.cube + d.len && d.cube < x.cube + x.len) then none
    else some d

/-- The access of a DRQ. -/
def State.drqAcc (s : State) (e : Nat) (d : Drq) : Acc := s.engAcc e (if d.write then 2 else 1)

/-- The tag becomes idle; a DWT that waits for it alone ends (R83). -/
def State.tagIdle (s : State) (e t : Nat) : State :=
  s.updEng e fun g =>
    let ds := g.drqs.filter fun d => d.tag ≠ t
    { g with drqs := ds, vs := g.vs.map fun v => { v with before := v.before.filter fun x => x ≠ t }, wait := match g.wait with
        | .dwt m => if ds.any (fun d => bit m d.tag) then .dwt m else .none
        | w => w }

/-- A DRQ's last granule completes (R91); no effect where the request would halt. The upsets are those of the local words it
reads (R89). -/
def execDrqComplete (e : Eng) (t : Fin 16) (upsets : List (Nat × Bool)) (s : State) : Outcome :=
  .next (match s.drqLive e t with
    | none => s
    | some d =>
      if s.memHeld (s.drqAcc e d) d.cube d.len then s.portWait (s.drqAcc e d) d.cube d.len
      else match s.drqRun e d upsets with
        | (s', none) => (s'.tagIdle e t).boundary e
        | (_, some _) => s)

/-- A DRQ meets an uncorrectable granule or an error response (R92): what went before stays, the tag goes idle, trap
0x06 at the next boundary. -/
def execDrqDmaHalt (e : Eng) (t : Fin 16) (upsets : List (Nat × Bool)) (s : State) : Outcome :=
  .next (match s.drqLive e t with
    | none => s
    | some d =>
      if s.memHeld (s.drqAcc e d) d.cube d.len then s.portWait (s.drqAcc e d) d.cube d.len
      else match s.drqRun e d upsets with
        | (_, none) => s
        | (s', some x) => (s'.tagIdle e t).asyncTrap e (x.cause t))

/-- DWT (R83): wait until every tag of the mask is idle. -/
def execDwt (e : Eng) (mask : BitVec 16) (s : State) : Outcome :=
  .next (s.issue e (fmtB 0x14 0 0 mask.toNat) fun s =>
    if (s.eng e).drqs.any (fun d => mask.getLsbD d.tag) then s.updEng e fun g => { g with wait := .dwt mask.toNat }
    else s)

end Sys2Proof.Machine
end

