-- ==== Sys2Proof/Machine/EngGen.lean ====
section
/-! DEFINITION. Pattern engines: the address and data generators (R71 to R76, R83). -/
namespace Sys2Proof.Machine
open Csr

/-- The generator register ASET target gd names (R83), as a state register number; none for targets 11 to 15. -/
def asetSrn : Nat → Option Nat
  | 0 => some 0x10
  | 1 => some 0x11
  | 2 => some 0x12
  | 3 => some 0x13
  | 4 => some 0x14
  | 5 => some 0x15
  | 6 => some 0x16
  | 7 => some 0x17
  | 8 => some 0x18
  | 9 => some 0x19
  | 10 => some 0x1A
  | _ => none

/-- ASET (R71, R73, R83). -/
def execAset (e : Eng) (gd ga : Fin 16) (s : State) : Outcome :=
  .next (s.issue e (fmtA 0x15 gd ga 0 0) fun s =>
    match (asetSrn gd).bind fun n => (s.eng e).srWrite n (s.getG e ga) with
    | some g => s.updEng e fun _ => g
    | none => s.illegal e 0x15)

/-- AINC (R74). -/
def execAinc (e : Eng) (mode : BitVec 3) (s : State) : Outcome :=
  .next (s.issue e (fmtA 0x16 0 0 0 mode.toNat) fun s => s.updEng e fun g => g.incr mode.toNat)

/-- The scramble table t taken from 256 bytes of local SRAM (R69, R83). -/
def Engine.loadScr (g : Engine) (t a : Nat) : Engine :=
  let bs := (upFrom 0 256).map fun i => g.byte (a + i)
  { g with scr := cputAll (fun a => BitVec.ofNat 8 a) g.scr (256 * t) bs }

/-- ASCR (R83): table 0 or 1 from the 256 local bytes at ga. The address counts modulo 65 536, need not be aligned, and the
bytes wrap at the end of local SRAM (DESIGN CHOICE, log 185: R83 is silent on each). -/
def execAscr (e : Eng) (t ga : Fin 16) (upsets : List (Nat × Bool)) (s : State) : Outcome :=
  .next (s.issue e (fmtA 0x17 t ga 0 0) fun s =>
    let a := (s.getG e ga).toNat % 65536
    if 1 < t.val then s.illegal e 0x17
    else s.sramReads e (a / 8 * 8) (if a % 8 = 0 then 32 else 33) upsets fun s => s.updEng e fun g => g.loadScr t a)

/-- DGSET (R83). -/
def execDgset (e : Eng) (ga : Fin 16) (s : State) : Outcome :=
  .next (s.issue e (fmtA 0x18 0 ga 0 0) fun s => s.updEng e fun g => { g with dg := s.getG e ga })

/-- Set bits of DGCFG from a number. -/
def Engine.putDgcfg (g : Engine) (lo w v : Nat) : Engine :=
  { g with dgcfg := BitVec.ofNat 13 (putBits g.dgcfg.toNat lo w v) }

/-- DGINV (R83): 0 clears DGI, 1 sets it, 2 toggles it. -/
def execDginv (e : Eng) (op : Fin 3) (s : State) : Outcome :=
  .next (s.issue e (fmtA 0x19 0 0 0 op.val) fun s => s.updEng e fun g =>
    g.putDgcfg 0 1 (if op.val = 2 then b2n (! g.dgcfg.getLsbD 0) else op.val))

/-- DGCHK (R72, R83). -/
def execDgchk (e : Eng) (xbit ybit : BitVec 5) (chk : Bool) (s : State) : Outcome :=
  .next (s.issue e (fmtB 0x1A 0 0 (xbit.toNat + ybit.toNat * 2 ^ 5 + bitN chk * 2 ^ 10)) fun s =>
    if 23 < xbit.toNat || 23 < ybit.toNat then s.illegal e 0x1A
    else s.updEng e fun g => ((g.putDgcfg 1 1 (b2n chk)).putDgcfg 2 5 xbit.toNat).putDgcfg 7 5 ybit.toNat)

/-- DGLFSR (R83): LOAD, SETEN and STEP in that order; func[3] without SETEN is illegal. -/
def execDglfsr (e : Eng) (ga : Fin 16) (op : BitVec 4) (s : State) : Outcome :=
  .next (s.issue e (fmtA 0x1B 0 ga 0 op.toNat) fun s =>
    if op.getLsbD 3 && ! op.getLsbD 1 then s.illegal e 0x1B
    else
      let v := s.getG e ga
      s.updEng e fun g =>
        let g := if op.getLsbD 0 then { g with dg := v } else g
        let g := if op.getLsbD 1 then g.putDgcfg 12 1 (b2n (op.getLsbD 3)) else g
        if op.getLsbD 2 then { g with dg := lfsrStep g.dg } else g)

end Sys2Proof.Machine
end

