-- ==== Sys2Proof/Machine/EngEmit.lean ====
section
/-! DEFINITION. Pattern engines: emitting cycles, stored vectors and staging-buffer control (R95 to R102, R112 to
R125). -/
namespace Sys2Proof.Machine
open Csr

/-- EMIT (R95): one cycle; illegal on an auxiliary engine. -/
def execEmit (e : Eng) (src mask : Fin 16) (flags : BitVec 3) (s : State) : Outcome :=
  .next (s.issue e (fmtD 0x1C src mask 0 flags.toNat) fun s =>
    if s.aux e then s.illegal e 0x1C else s.emitMany e src mask flags.toNat 0x1C 1)

/-- EMITN (R95): repeat cycles, none for 0; illegal on an auxiliary engine. A PURE stream stalls it whatever its count
(R98). -/
def execEmitn (e : Eng) (src mask : Fin 16) (rep : BitVec 10) (flags : BitVec 3) (s : State) : Outcome :=
  .next (if rep = 0 && s.pureActive e then s
    else s.issue e (fmtD 0x1D src mask rep.toNat flags.toNat) fun s =>
    if s.aux e then s.illegal e 0x1D else s.emitMany e src mask flags.toNat 0x1D rep.toNat)

/-- A stalled EMIT, EMITN or padding goes on, after the ECLK it stalled are counted (R96). -/
def execEmitStallResume (e : Eng) (eclk : Nat) (s : State) : Outcome :=
  .next (if s.engHeld e then s
    else match (s.eng e).wait with
      | .emit op src mask flags n =>
        (s.add (ENG_STALL_ECLK e) eclk).emitMany e (regF src) (regF mask) flags op n
      | .pad t => (s.add (ENG_STALL_ECLK e) eclk).padTo e t padFuel
      | _ => s)

/-- Bytes of one stored cycle (R97). -/
def State.storedLen (s : State) (e : Nat) : Nat := s.engW e / 2

/-- VSTREAM (R97 to R99): operand rules, the region check, then the stream is active. A PURE stream still running
stalls it; a MERGE stream that still holds cycles traps 0x05. -/
def execVstream (e : Eng) (ga gb : Fin 16) (merge : Bool) (s : State) : Outcome :=
  let a := (s.getG e ga).toNat
  let n := (s.getG e gb).toNat % 2 ^ 32
  .next (if s.pureActive e then s
    else s.issue e (fmtA 0x1E 0 ga gb (bitN merge)) fun s =>
      if s.aux e || a % 64 ≠ 0 then s.illegal e 0x1E
      else if (s.eng e).vs.isSome then s.trapHere e 0x05 0x1E 0
      else if n = 0 then s
      else if ! s.inOneRegion e a (n * s.storedLen e) then s.trapHere e 0x06 (dmaDetail 0 1 0) a
      else s.updEng e fun g =>
        { g with vs := some { pure := ! merge, next := a, left := n, stamp := g.stamp,
                              before := (g.drqs.filter (·.write)).map (·.tag), since := s.clk.live } })

/-- A stored cycle's bytes as nibbles in pin order (R97). -/
def storedCycle (bs : List Byte) : BitVec 256 := BitVec.ofNat 256 (leNat bs)

/-- Write the whole cycles a PURE stream holds into fill rows while there is room (R98, R115); the last one delivered
ends the stream. A TASK_STOP stops it (R59). Where the fill needs a held bank the stream stalls, whether or not its next cycle
has been fetched (R125). -/
def State.deliver (s : State) (e : Nat) : Nat → State
  | 0 => s
  | k + 1 =>
    match (s.eng e).vs with
    | none => s
    | some v =>
      let n := s.storedLen e
      if ! v.pure || n = 0 || (v.buf.length < n && ! (s.stg e).held) then s
      else if s.stopHere e then ((s.stopMark e).updEng e fun g => { g with vs := none }).stopAt e 1
      else if ! s.cycleRoom e then
        (s.stallNoted e).heldStop e
      else
        let c := Cycle.mk (storedCycle (v.buf.take n)) v.stamp
        let s := s.pushCycle e c (expectsOf (s.engW e) c.nibs)
        let left := v.left - 1
        let s := s.updEng e fun g => { g with
          vs := if left = 0 then none else some { v with buf := v.buf.drop n, left := left } }
        s.deliver e k

/-- Move the whole cycles of a MERGE stream's bytes into its queue (R116). -/
def VStream.fillQueue (v : VStream) (n : Nat) : Nat → VStream
  | 0 => v
  | k + 1 =>
    if v.left = 0 || v.buf.length < n || n = 0 then v
    else VStream.fillQueue { v with
      queue := v.queue ++ [storedCycle (v.buf.take n)], buf := v.buf.drop n, left := v.left - 1 } n k

/-- Whole cycles one granule can complete, and one more. -/
def streamFuel : Nat := 65

/-- Does the stream want its next granule now: cycles left, none waiting, for PURE room in the rows, for MERGE room for a granule in the queue
of 16 KiB (R115, R116)? -/
def State.wantsGran (s : State) (e : Nat) (v : VStream) : Bool :=
  let n := s.storedLen e
  v.left * n > v.buf.length &&
    if v.pure then decide (v.buf.length < n) && (s.stg e).fillOk
    else decide (v.queue.length * n + v.buf.length + 64 ≤ 16384)

/-- Vector DMA brings the next granule, or puts waiting cycles where there is room now (R115, R116). -/
def State.streamFetch (s : State) (e : Nat) : State × Option XferErr :=
  match (s.eng e).vs with
  | none => (s, none)
  | some v =>
    if s.wantsGran e v then
      let r := s.readWhole (s.engAcc e 1) v.next 1
      match r.2.2 with
      | some x => (r.1, some x)
      | none =>
        let v := { v with next := v.next + 64, buf := v.buf ++ r.2.1, since := s.clk.live }
        let v := if v.pure then v else v.fillQueue (s.storedLen e) streamFuel
        ((r.1.updEng e fun g => { g with vs := some v }).deliver e streamFuel, none)
    else (s.deliver e streamFuel, none)

/-- May the engine's vector DMA move now (R17, R207): not behind an earlier DRQ write to its granule (R91)? -/
def State.streamLive (s : State) (e : Nat) : Bool :=
  ! s.engHeld e && match (s.eng e).vs with
    | some v => ! (s.eng e).drqs.any fun d =>
        v.before.contains d.tag && d.cube < v.next + 64 && v.next < d.cube + d.len
    | none => false

/-- Does the stream's next granule wait at its port (R191, R210, R213, R372)? -/
def State.streamHeld (s : State) (e : Nat) : Bool :=
  match (s.eng e).vs with
  | some v => s.wantsGran e v && s.memHeld (s.engAcc e 1) v.next 64
  | none => false

/-- The stream's next granule waits at its port. -/
def State.streamWait (s : State) (e : Nat) : State :=
  match (s.eng e).vs with
  | some v => s.portWait (s.engAcc e 1) v.next 64
  | none => s

/-- Stored bits of the merge queue have flipped (R129). -/
def State.queueUpset (s : State) (e : Nat) (us : List (Nat × BitVec 256)) : State :=
  if us.isEmpty then s
  else s.updEng e fun g => { g with vs := g.vs.map fun v => { v with
    queue := us.foldl (fun q u => modAt q u.1 fun c => c ^^^ u.2) v.queue } }

/-- VECTOR_DMA_FETCH (R115, R116); no effect where the granule would halt the stream. The upsets are bits of stored cycles
in the merge queue that flip meanwhile (R129). -/
def execVectorDmaFetch (e : Eng) (upsets : List (Nat × BitVec 256)) (s : State) : Outcome :=
  .next (if s.streamLive e then
      if s.streamHeld e then s.streamWait e
      else match (s.queueUpset e upsets).streamFetch e with
      | (s', none) => s'
      | (_, some _) => s
    else s)

/-- VSTREAM_DMA_HALT (R100): the stream halts, trap 0x06 at the next boundary; what was delivered stays. Stored cycles that
stand in the merge queue go with the stream (DESIGN CHOICE, log 181: R100 speaks of delivered cycles alone). -/
def execVstreamDmaHalt (e : Eng) (s : State) : Outcome :=
  .next (if s.streamLive e then
      if s.streamHeld e then s.streamWait e
      else match s.streamFetch e with
      | (_, none) => s
      | (s', some x) =>
        (s'.updEng e fun g => { g with vs := none }).asyncTrap e (TrapCause.mk 0x06 (dmaDetail 0 1 x.reason) x.addr)
    else s)

/-- MARK (R101, R120): traps 0x05 while a mark is held. -/
def execMark (e : Eng) (s : State) : Outcome :=
  .next (s.issue e (fmtA 0x21 0 0 0 0) fun s =>
    if (s.stg e).mark.isSome then s.trapHere e 0x05 0x21 0 else s.setMark e)

/-- REWIND (R101, R122, R123): traps 0x05 with no mark held or a region of more than 256 rows; a count of 0 does
nothing. -/
def execRewind (e : Eng) (ga : Fin 16) (s : State) : Outcome :=
  let n := (s.getG e ga).toNat % 2 ^ 32
  .next (if s.pureActive e then s
    else s.issue e (fmtA 0x22 0 ga 0 0) fun s =>
      match (s.stg e).mark with
      | none => s.trapHere e 0x05 0x22 0
      | some m =>
        if n = 0 then s
        else if 256 < (s.stg e).regionRows m then s.trapHere e 0x05 0x22 0
        else s.rewind e n)

/-- RELEASE (R101, R124): with no mark held it does nothing. -/
def execRelease (e : Eng) (s : State) : Outcome :=
  .next (s.issue e (fmtA 0x23 0 0 0 0) fun s =>
    if (s.stg e).mark.isSome then s.dropMark e else s)

/-- Trap 0x04: DETAIL the lateness, saturated (R105). -/
def State.lateTrap (s : State) (e late : Nat) : State := s.trapHere e 0x04 (min late 0xFFFF) 0

/-- WAITVT (R102): STREAM pads to the target, REAL waits for VT; later than the tolerance traps 0x04. -/
def execWaitvt (e : Eng) (ga : Fin 16) (real : Bool) (tol : BitVec 13) (s : State) : Outcome :=
  let v := (s.getG e ga).toNat
  .next (if ! real && s.pureActive e then s
    else s.issue e (fmtA 0x24 0 ga 0 (bitN real + tol.toNat * 2)) fun s =>
      if 2 ^ 48 ≤ v || (! real && s.aux e) then s.illegal e 0x24
      else
        let t := if real then v else roundUp v (s.engM e) % 2 ^ 48
        let here := if real then s.vt.vt else (s.eng e).stime
        if vtGe here t then
          if tol.toNat < vtDiff here t then s.lateTrap e (vtDiff here t) else s
        else if real then s.updEng e fun g => { g with wait := .waitvt t }
        else s.padTo e t padFuel)

/-- WAITVT_REAL_RESUME (R102): VT has reached the target. -/
def execWaitvtRealResume (e : Eng) (s : State) : Outcome :=
  .next (match (s.eng e).wait with
    | .waitvt t => if s.reached t && ! s.engHeld e then
        (s.updEng e fun g => { g with wait := .none }).boundary e
      else s
    | _ => s)

/-- FLUSH_ROW (R114): VT has reached the fill row's first cycle minus the lead; the row closes early. -/
def execFlushRow (e : Eng) (s : State) : Outcome :=
  let g := s.stg e
  .next (if s.flag (ENG_STG_CFG_FLUSH_EN e) && ! g.cur.isEmpty && ! s.paused &&
        s.reached (g.curVt + 2 ^ 48 - g.lead) then
      (s.closeRow e).inc (ENG_STG_COUNT_FLUSH e)
    else s)

/-- Does a cycle stall on a bank that a held mark keeps: of EMIT, of padding, or of a PURE stream (R125)? -/
def State.holdStalled (s : State) (e : Nat) : Bool :=
  (s.stg e).held && ((match (s.eng e).wait with | .emit .. | .pad _ => true | _ => false) ||
    match (s.eng e).vs with
    | some v => v.pure
    | none => false)

/-- STAGE_HOLD_STALL (R125): a fill stalled on a held bank for 1 ms raises the fault. -/
def execStageHoldStall (e : Eng) (s : State) : Outcome :=
  .next (if s.holdStalled e && ! s.engHeld e then s.raise { src := srcEng e, kind := 0x02, part := s.engPart e } else s)

end Sys2Proof.Machine
end

