-- ==== Sys2Proof/Machine/EngFlow.lean ====
section
/-! DEFINITION. Pattern engines: loops, branches, barriers, signals, traps and HALT (R82 to R86, R93, R94, R103 to
R107), and the fetch (R78, R84). -/
namespace Sys2Proof.Machine
open Csr

/-- LOOP (R93): sets LCn, records the start; a count of 0 goes on after the ENDL. -/
def execLoop (e : Eng) (lc : Fin 4) (ga : Fin 16) (off : BitVec 14) (s : State) : Outcome :=
  .next (s.issue e (fmtA 0x1F lc ga 0 off.toNat) fun s =>
    if off = 0 then s.illegal e 0x1F
    else
      let n := (s.getG e ga).setWidth 32
      let s := s.updEng e fun g => { g with lc := g.lc.set lc n, lstart := g.lstart.set lc g.pc }
      if n = 0 then s.jump e (s.lastPc e + off.setWidth 24 * 4 + 4) else s)

/-- ENDL (R94). -/
def execEndl (e : Eng) (lc : Fin 4) (s : State) : Outcome :=
  .next (s.issue e (fmtA 0x20 lc 0 0 0) fun s =>
    let n := (s.eng e).lc[lc]
    if n = 0 then s
    else
      let s := s.updEng e fun g => { g with lc := g.lc.set lc (n - 1) }
      if n = 1 then s else s.jump e (s.eng e).lstart[lc])

/-- Cluster position of engine e (R103). -/
def clusterPos (e : Nat) : Nat := e % 9

/-- The engines a barrier mask names in e's cluster. -/
def barEngs (e mask : Nat) : List Nat := (maskBits 9 mask).map fun k => e / 9 * 9 + k

/-- When every participant waits at the same barrier, all continue (R103). -/
def State.barRelease (s : State) (e mask id : Nat) : State :=
  let es := barEngs e mask
  if es.all fun k => (s.eng k).wait = .bar mask id then
    s.each es fun s k => (s.updEng k fun g => { g with wait := .none }).boundary k
  else s

/-- BAR (R103): the engine's own bit must be set. -/
def execBar (e : Eng) (mask : BitVec 9) (id : BitVec 4) (s : State) : Outcome :=
  .next (s.issue e (fmtB 0x25 0 0 (mask.toNat + id.toNat * 2 ^ 9)) fun s =>
    if ! mask.getLsbD (clusterPos e) then s.illegal e 0x25
    else (s.updEng e fun g => { g with wait := .bar mask.toNat id.toNat }).barRelease e mask.toNat id.toNat)

/-- BAR_TIMEOUT (R103): the wait reached BARTO ECLK; trap 0x08, and the engine leaves the barrier. -/
def execBarTimeout (e : Eng) (s : State) : Outcome :=
  .next (match (s.eng e).wait with
    | .bar _ id => if (s.eng e).barto = 0 || s.engHeld e then s else s.trapHere e 0x08 id 0
    | _ => s)

/-- SIG (R104). -/
def execSig (e : Eng) (code : BitVec 8) (notify : Bool) (s : State) : Outcome :=
  .next (s.issue e (fmtB 0x26 0 0 (code.toNat + bitN notify * 2 ^ 8)) fun s =>
    ((s.put (ENG_EVENT_SIGCODE e) code.toNat).on (ENG_EVENT_SIG e)).when notify
      fun s => s.event 0x04 code.toNat e 0)

/-- BR (R82, R84). -/
def execBr (e : Eng) (cond : Fin 13) (off : BitVec 22) (s : State) : Outcome :=
  .next (s.issue e (fmtC 0x27 cond.val off.toNat) fun s =>
    if condHolds (s.eng e).flags cond then s.jump e (branchPc (s.lastPc e) off) else s)

/-- CALL (R82, R84, R85): a taken CALL on a full stack traps 0x07. -/
def execCall (e : Eng) (cond : Fin 13) (off : BitVec 22) (s : State) : Outcome :=
  .next (s.issue e (fmtC 0x28 cond.val off.toNat) fun s =>
    if condHolds (s.eng e).flags cond then
      if 16 ≤ (s.eng e).stack.length then s.trapHere e 0x07 0 0
      else (s.updEng e fun g => { g with stack := g.pc :: g.stack }).jump e (branchPc (s.lastPc e) off)
    else s)

/-- RET (R83, R85): from a call, or from a trap to TRAPPC. -/
def execRet (e : Eng) (fromTrap : Bool) (s : State) : Outcome :=
  .next (s.issue e (fmtA 0x29 0 0 0 (bitN fromTrap)) fun s =>
    if fromTrap then
      if s.flag (ENG_STATE_INTRAP e) then (s.jump e (s.eng e).trappc).off (ENG_STATE_INTRAP e)
      else s.illegal e 0x29
    else match (s.eng e).stack with
      | a :: r => s.updEng e fun g => { g with stack := r, pc := a }
      | [] => s.trapHere e 0x07 1 0)

/-- TRAP (R83, R105): TRAPPC is the next instruction. -/
def execTrap (e : Eng) (imm : BitVec 16) (s : State) : Outcome :=
  .next (s.issue e (fmtB 0x2A 0 0 imm.toNat) fun s =>
    s.trapTake e (TrapCause.mk 0x09 imm.toNat 0) (s.eng e).pc)

/-- HALT (R86): waits until every tag is idle and a PURE stream is delivered, then ends the task. -/
def execHalt (e : Eng) (s : State) : Outcome :=
  .next (s.issue e (fmtA 0x2B 0 0 0 0) fun s => s.stopNow e 0)

/-- HALT_COMPLETE (R86, R107): the wait of HALT, of a stop or of a halting trap ends. -/
def execHaltComplete (e : Eng) (s : State) : Outcome :=
  .next (if s.engHeld e then s else s.tryHalt e)

/-- ILLEGAL_INSTRUCTION (R81): the fetched word is no instruction; trap 0x02 with the opcode. -/
def execIllegalInstruction (e : Eng) (s : State) : Outcome :=
  .next (match s.fetched e with
    | some w => match engDecode e w with
      | none => s.issue e w fun s => s.illegal e (opOf w)
      | some _ => s
    | none => s)

/-- The cube address of the instruction at the PC (R78). -/
def State.fetchAddr (s : State) (e : Nat) : Nat := (s.eng e).desc.progBase + (s.eng e).pc.toNat

/-- Does the fetch fall in a general region of the engine's partition (R78)? -/
def State.fetchOk (s : State) (e : Nat) : Bool :=
  match s.engPart e with
  | some p => s.inRegions p [0] (s.fetchAddr e) 4
  | none => false

/-- Trap 0x01 of a fetch: TRAPPC is the instruction that could not be fetched (R105). -/
def State.fetchTrap (s : State) (e detail : Nat) : State :=
  s.trapTake e (TrapCause.mk 0x01 detail (s.fetchAddr e)) (s.eng e).pc

/-- ICACHE_LINE_FILL (R78, R84, R105): the missed line arrives, or the fetch traps 0x01. The cache keeps 256 lines; the
spec does not say which line gives way, so the oldest does (DESIGN CHOICE, log entry 21). -/
def execIcacheLineFill (e : Eng) (s : State) : Outcome :=
  .next (if s.engState e ≠ 3 || s.engHeld e || (s.eng e).wait ≠ .none || (s.fetched e).isSome then s
    else if ! s.fetchOk e then s.fetchTrap e 1
    else
      let base := s.fetchAddr e / 64 * 64
      if s.memHeld (s.engAcc e 3) base 64 then s.portWait (s.engAcc e 3) base 64
      else match s.readWhole (s.engAcc e 3) base 1 with
      | (s', bs, none) => s'.updEng e fun g => { g with
          icache := ((g.icache ++ [(g.pc.toNat / 64, bs)]).drop (g.icache.length + 1 - 256)) }
      | (s', _, some x) => s'.fetchTrap e (if x.uncorrectable then 0 else 2))

end Sys2Proof.Machine
end

