-- ==== Sys2Proof/Machine/EngTask.lean ====
section
/-! DEFINITION. Pattern engines: preparation, starts and stops (R79, R80, R393, R395) and ENG_CTRL. -/
namespace Sys2Proof.Machine
open Csr

/-- The registers at task start (R69); G1 to G4 from the descriptor. -/
def Engine.fresh (g : Engine) : Engine :=
  let d := g.desc
  let w := fun (n : Nat) => BitVec.ofNat 64 n
  { desc := d, startWait := g.startWait, stg := g.stg
    g := #v[0, w d.g1, w d.g2, w d.g3, w d.g4, 0, 0, 0, 0, 0, 0, 0, 0, 0, 0, 0]
    pc := BitVec.ofNat 24 d.entry }

/-- The task runs from its first instruction (R57, R79, R113, R126): stream time at the origin, 0 on an auxiliary
engine. -/
def State.runTask (s : State) (e origin : Nat) : State :=
  let o := if s.aux e then 0 else origin
  ((s.stgStart e).updEng e fun g => { g with stime := o, origin := o, startWait := none }).put (ENG_STATE_STATE e) 3

/-- A start reaches engine e (R79, R80): WAITING runs, PREPARING waits for it, any other state refuses. A second start that
reaches it in PREPARING brings the origin that holds (DESIGN CHOICE, log 183: R79, R80 and R395 do not say which). -/
def State.startEng (s : State) (e origin : Nat) : State :=
  if s.engState e = 2 then s.runTask e origin
  else if s.engState e = 1 then
    (s.updEng e fun g => { g with startWait := some origin }).on (ENG_EVENT_START_LATE e)
  else s.on (ENG_EVENT_CMD_REFUSED e)

/-- A stop reaches engine e with a reason (R79, R80): a running task ends, a waiting start is cancelled. A cycle that is
stalled on a held bank is abandoned, of EMIT, of padding or of a PURE stream, which then brings no more (R125). -/
def State.stopEng (s : State) (e reason : Nat) : State :=
  if s.engState e = 3 then
    let held := (s.stg e).held
    let s := if held && s.pureActive e then s.updEng e fun g => { g with vs := none } else s
    match (s.eng e).wait with
    | .emit .. | .pad _ => if held then s.stopNow e reason
      else s.updEng e fun g => { g with stopReq := some (g.stopReq.getD reason) }
    | .halt _ => if held then s.stopNow e reason else s.stopAt e reason
    | _ => s.stopAt e reason
  else if s.engState e = 1 then s.updEng e fun g => { g with startWait := none }
  else s

/-- Preparation begins (R79). -/
def State.prepare (s : State) (e : Nat) : State := s.put (ENG_STATE_STATE e) 1

/-- Step 3 of preparation: the initializer copied into local SRAM, the rest zero (R79). -/
def State.ldiCopy (s : State) (e : Nat) : State × Option (Nat × Nat) :=
  let d := (s.eng e).desc
  if d.ldiLen = 0 then (s, none)
  else if ! s.inOneRegion e d.ldiSrc d.ldiLen then (s, some (0, d.ldiSrc))
  else
    let r := s.readWhole (s.engAcc e 1) d.ldiSrc (d.ldiLen / 64)
    (r.1.updEng e fun g => { g with sram := [] }.putBytes 0 r.2.1, r.2.2.map fun x => (x.reason, x.addr))

/-- TASK_PREPARATION_DONE (R79): once the buffer is drained, the cache is invalid, local SRAM initialized and every
register at its task-start value; a waiting start runs. A copy that fails leaves the engine TRAPPED, its registers as the
task before left them but for TRAPCAUSE and TRAPPC: step 4 is not reached. -/
def execTaskPreparationDone (e : Eng) (s : State) : Outcome :=
  let d := (s.eng e).desc
  .next (if s.engState e ≠ 1 || s.paused || ! s.drained e || (d.ldiLen ≠ 0 && s.engHeld e) then s
    else if s.memHeld (s.engAcc e 1) d.ldiSrc d.ldiLen then s.portWait (s.engAcc e 1) d.ldiSrc d.ldiLen
    else
      let s := s.updEng e fun g => { g with icache := [], sram := [] }
      match s.ldiCopy e with
      | (s, none) =>
        let s := (s.updEng e fun g => { g.fresh with sram := g.sram }).off (ENG_STATE_INTRAP e)
        let s := s.put (ENG_STATE_STATE e) 2
        match (s.eng e).startWait with
        | some o => s.runTask e o
        | none => s
      | (s, some (reason, addr)) =>
        let c := TrapCause.mk 0x06 (dmaDetail 0 2 reason) addr
        let late := (s.eng e).startWait.isSome
        let s := s.updEng e fun g => { g with
          trapcause := c.word, trappc := BitVec.ofNat 24 d.entry, startWait := none }
        let s := (((s.put (ENG_TRAP_LO_CAUSE e) (c.word.toNat % 2 ^ 32)).put (ENG_TRAP_HI_CAUSE e)
          (c.word.toNat / 2 ^ 32)).put (ENG_TRAPPC_TRAPPC e) d.entry).inc (ENG_COUNT_TRAPS e)
        let s := ((s.put (ENG_STATE_STATE e) 4).on (ENG_EVENT_TRAP_HALT e)).raise
          { src := srcEng e, kind := 0x01, addr := c.word.toNat % 2 ^ 36, part := s.engPart e }
        if late then s.on (ENG_EVENT_CMD_REFUSED e) else s)

/-- START of ENG_CTRL (R80): an auxiliary engine in WAITING or PREPARING whose partition is not in SLEEP. -/
def State.ctrlStart (s : State) (e : Nat) : State :=
  let awake := match s.engPart e with | some p => s.pmode p ≠ modeSleep | none => false
  if s.aux e && (s.engRec e).isSome && awake && (s.engState e = 1 || s.engState e = 2) then s.startEng e 0
  else s.on (ENG_EVENT_CMD_REFUSED e)

/-- STOP of ENG_CTRL (R79, R80). Where there is no task and no waiting start it is refused (DESIGN CHOICE, log 182: R80 names
no refusal of STOP). -/
def State.ctrlStop (s : State) (e : Nat) : State :=
  if s.engState e = 3 || (s.engState e = 1 && (s.eng e).startWait.isSome) then s.stopEng e 2
  else s.on (ENG_EVENT_CMD_REFUSED e)

/-- REARM of ENG_CTRL: prepares a TRAPPED engine again; refused in any other state. -/
def State.ctrlRearm (s : State) (e : Nat) : State :=
  if s.engState e = 4 then s.prepare e else s.on (ENG_EVENT_CMD_REFUSED e)

/-- START (R80). -/
def execEngStart (e : Eng) (s : State) : Outcome := .next (s.clocked e fun s => s.ctrlStart e)

/-- STOP (R80). -/
def execEngStop (e : Eng) (s : State) : Outcome := .next (s.clocked e fun s => s.ctrlStop e)

/-- REARM (R79, R107). -/
def execEngRearm (e : Eng) (s : State) : Outcome := .next (s.clocked e fun s => s.ctrlRearm e)

/-- The automatic origin for partition p: VT plus VT_LEAD, rounded up to a multiple of M (R57). -/
def State.autoOrigin (s : State) (p : Nat) : Nat :=
  roundUp (s.vt.vt + s.rd VT_LEAD_LEAD) (s.mPart p) % 2 ^ 48

/-- The lane-bound engines of partition p. -/
def State.laneEngs (s : State) (p : Nat) : List Nat := (s.partEngs p).filter fun e => ! s.aux e

/-- Can a start of partition p start an engine: some lane-bound engine is WAITING or PREPARING (R62, R395)? -/
def State.startable (s : State) (p : Nat) : Bool :=
  (s.laneEngs p).any fun e => s.engState e = 1 || s.engState e = 2

/-- Start the lane-bound engines of partition p at one origin; those in another state set CMD_REFUSED (R62, R395). -/
def State.startPart (s : State) (p origin : Nat) : State := s.each (s.laneEngs p) fun s e => s.startEng e origin

/-- End every task of partition p with a reason, and cancel waiting starts (R373, R393). -/
def State.stopPart (s : State) (p reason : Nat) (es : List Nat) : State :=
  s.each (es.filter fun e => s.engPart e = some p) fun s e => s.stopEng e reason

end Sys2Proof.Machine
end

