-- ==== Sys2Proof/Machine/Alive.lean ====
section
/-! DEFINITION. The alive-resources mask (R46) and the degraded service of partitions whose resources it loses
(R377). -/
namespace Sys2Proof.Machine
open Csr

/-- Partition p has lost a resource (R377): its health, the loss flag, the first loss's VT, the kind of the message behind
it where a message is. -/
def State.degrade (s : State) (flag : Nat → Fld) (kind : Option Nat) (p : Nat) : State :=
  let s : State := if bit s.faults.lost p then s
    else { (s.put (FAULT_PART_LOSS_VT_LO p) (s.vt.vt % 2 ^ 32)).put (FAULT_PART_LOSS_VT_HI p) (s.vt.vt / 2 ^ 32) with
      faults := { s.faults with lost := putBit s.faults.lost p true } }
  let s := if s.rd (FAULT_PART_HEALTH p) = 2 then s else s.put (FAULT_PART_HEALTH p) 1
  let s := s.on (flag p)
  match kind with
  | some k => s.put (FAULT_PART_LAST_KIND p) k
  | none => s

/-- The engine and slot of logical lane L, where an engine binds it. -/
def State.laneOwner (s : State) (l : Nat) : Option (Nat × Nat) :=
  match s.img.active.lanes.find? (fun r => r.tx.contains l) with
  | some r => some (r.engine, r.tx.findIdx (fun x => x = l))
  | none => none

/-- The partition that binds logical lane L. -/
def State.lanePart (s : State) (l : Nat) : Option Nat := (s.laneOwner l).bind fun o => s.engPart o.1

/-- The capture groups that serve partition p, ascending (R14, R170). -/
def State.partGroups (s : State) (p : Nat) : List Nat :=
  let ls := s.partLanes p
  (upFrom 0 8).filter fun g => ls.any fun l => l / 12 = g

/-- Clear the alive bit of engine e. -/
def State.loseEng (s : State) (e : Nat) (kind : Option Nat) : State :=
  if s.aliveEng e then
    let s := s.setAlive (0x20040 + 4 * (e / 32)) (e % 32) false
    match s.engPart e with
    | some p => s.degrade FAULT_PART_LOST_ENGINE kind p
    | none => s
  else s

/-- Set the alive bit of engine e. -/
def State.gainEng (s : State) (e : Nat) : State := s.setAlive (0x20040 + 4 * (e / 32)) (e % 32) true

/-- Clear the alive bits of logical pair L, both directions (R157): the slot's payloads are discarded from now on
(R128). -/
def State.loseLane (s : State) (l : Nat) (kind : Option Nat) : State :=
  if l < 96 && (s.aliveTx l || s.aliveRx l) then
    let had := s.aliveTx l
    let s := (s.setAlive (0x20050 + 4 * (l / 32)) (l % 32) false).setAlive (0x20060 + 4 * (l / 32)) (l % 32) false
    match s.laneOwner l with
    | some (e, n) =>
      let s := if had then s.slotLost e n else s
      match s.engPart e with
      | some p => s.degrade FAULT_PART_LOST_LANE kind p
      | none => s
    | none => s
  else s

/-- Set the alive bits of logical pair L. -/
def State.gainLane (s : State) (l : Nat) : State :=
  if l < 96 then (s.setAlive (0x20050 + 4 * (l / 32)) (l % 32) true).setAlive (0x20060 + 4 * (l / 32)) (l % 32) true
  else s

/-- Set a bit of IMAGE_ALIVE_MISC; a change counts and sends an image event (R46). -/
def State.setMisc (s : State) (f : Fld) (b : Nat) (v : Bool) : State :=
  if bit (s.rd f) b = v then s
  else ((s.put f (putBit (s.rd f) b v)).incMod IMAGE_ALIVE_MISC_GEN).imageEvent 2

/-- Clear the bit of capture group g. -/
def State.loseGroup (s : State) (g : Nat) (kind : Option Nat) : State :=
  if s.aliveCap g then
    let s := s.setMisc IMAGE_ALIVE_MISC_CAP_GROUPS g false
    s.each (s.partsList.filter fun p => (s.partGroups p).contains g) fun s p =>
      s.degrade FAULT_PART_LOST_CAPTURE kind p
  else s

/-- Set the bit of capture group g. -/
def State.gainGroup (s : State) (g : Nat) : State := s.setMisc IMAGE_ALIVE_MISC_CAP_GROUPS g true

/-- Clear the alive bit of logical channel k. -/
def State.loseChan (s : State) (k : Nat) (kind : Option Nat) : State :=
  if s.aliveChan k then
    let s := s.setAlive 0x20070 k false
    s.each (s.chanParts k) fun s p => s.degrade FAULT_PART_LOST_CHANNEL kind p
  else s

/-- Set the alive bit of logical channel k. -/
def State.gainChan (s : State) (k : Nat) : State := s.setAlive 0x20070 k true

/-- Is every resource that the ACTIVE image binds to partition p alive (R377)? -/
def State.allAlive (s : State) (p : Nat) : Bool :=
  (s.partEngs p).all s.aliveEng && (s.partLanes p).all (fun l => s.aliveTx l && s.aliveRx l) &&
    (s.partGroups p).all s.aliveCap && (maskBits 32 (s.partChans p)).all s.aliveChan

end Sys2Proof.Machine
end

