-- ==== Sys2Proof/Machine/CapOps.lean ====
section
/-! DEFINITION. What the capture units do (chapter 08): comparing, fail records, gap evidence, the fail map, the row and
column counters, the fail log. -/
namespace Sys2Proof.Machine
open Csr

/-! Geometry -/

/-- The group capture unit u serves; 15 none. -/
def State.groupOf (s : State) (u : Nat) : Nat := s.rd (CAP_STATUS_GROUP u)

/-- Does capture unit u serve partition p? -/
def State.serves (s : State) (u p : Nat) : Bool :=
  s.declared p && s.rd (CAP_STATUS_STATE u) ≠ 3 && (s.partGroups p).contains (s.groupOf u)

/-- ENABLES of the partition's capture record; none without one (R159). -/
def State.capEn (s : State) (p b : Nat) : Bool :=
  match s.capRec p with
  | some c => bit c.enables b
  | none => false

/-- The partition's region of a kind. -/
def State.regionOf (s : State) (p kind : Nat) : Option Region := (s.partRegions p).find? fun g => g.kind = kind

/-- Q: bytes of one fail-log segment (R170). -/
def State.segLen (s : State) (p : Nat) : Nat :=
  match s.regionOf p 1 with
  | some g => g.total / (64 * (s.partGroups p).length) * 64
  | none => 0

/-- NREC: records of one segment (R170). -/
def State.nrec (s : State) (p : Nat) : Nat := (s.segLen p - 64) / 32

/-- The cube address of byte o of the segment that unit u writes for partition p (R170, R192). -/
def State.segAddr (s : State) (u p o : Nat) : Nat :=
  match s.regionOf p 1 with
  | some g => g.addr ((((s.partGroups p).filter fun x => x < s.groupOf u).length) * s.segLen p + o)
  | none => 0

/-- Capture DMA's access for partition p (R209). -/
def State.capAcc (s : State) (u p kind : Nat) : Acc :=
  { master := srcCap u, kind := kind, cls := match s.capRec p with | some c => c.dmaClass | none => 0 }

/-- The fail-map updater's access for partition p (R209, R365). -/
def State.mapAcc (s : State) (u p kind : Nat) : Acc :=
  { master := srcCap u, port := true, kind := kind, cls := match s.capRec p with | some c => c.mapClass | none => 0 }

/-! Ranges of lost evidence (R186) -/

/-- Widen a Vector Time range. -/
def widen (r : Nat × Nat) (v : Nat) : Nat × Nat :=
  (if vtGe r.1 v then v else r.1, if vtGe v r.2 then v else r.2)

/-- Set a flag with its range registers, or widen the range while the flag is set (R186). -/
def State.noteRange (s : State) (flag flo fhi llo lhi : Fld) (v : Nat) : State :=
  let r := (s.rd flo + s.rd fhi * 2 ^ 32, s.rd llo + s.rd lhi * 2 ^ 32)
  let r := if s.flag flag then widen r v else (v, v)
  ((((s.on flag).put flo (r.1 % 2 ^ 32)).put fhi (r.1 / 2 ^ 32)).put llo (r.2 % 2 ^ 32)).put lhi (r.2 / 2 ^ 32)

/-- Gap evidence of partition p at Vector Time v. -/
def State.noteGap (s : State) (u p v : Nat) : State :=
  s.noteRange (CAP_PART_GAP u p) (CAP_PART_GAP_FIRST_LO u p) (CAP_PART_GAP_FIRST_HI u p) (CAP_PART_GAP_LAST_LO u p)
    (CAP_PART_GAP_LAST_HI u p) v

/-- A dropped map update of partition p at Vector Time v (R178). -/
def State.noteInc (s : State) (u p v : Nat) : State :=
  s.noteRange (CAP_PART_MAP_INCOMPLETE u p) (CAP_PART_INC_FIRST_LO u p) (CAP_PART_INC_FIRST_HI u p)
    (CAP_PART_INC_LAST_LO u p) (CAP_PART_INC_LAST_HI u p) v

/-! The fail log -/

/-- Change the segment of partition p. -/
def State.updSeg (s : State) (u p : Nat) (f : LogSeg → LogSeg) : State :=
  s.updCap u fun c => { c with segs := c.segs.map fun x => if x.part = p then f x else x }

/-- The segment of partition p. -/
def State.seg (s : State) (u p : Nat) : Option LogSeg := (s.cap u).segs.find? fun x => x.part = p

/-- A capture DMA access failed: the channel halts (R173, R239). -/
def State.dmaHalt (s : State) (u p access : Nat) (x : XferErr) : State :=
  (s.on (CAP_STATUS_DMA_HALT u)).raise
    { src := srcCap u, kind := 0x10, addr := x.addr, detail := p, access := access, part := some p }

/-- Read RD again from the segment's header (R172); a read that fails halts the channel (R239). -/
def State.reread (s : State) (u p : Nat) : State :=
  if s.flag (CAP_STATUS_DMA_HALT u) then s
  else if s.memHeld (s.capAcc u p 1) (s.segAddr u p 16) 8 then s.portWait (s.capAcc u p 1) (s.segAddr u p 16) 8
  else match s.readMem (s.capAcc u p 1) (s.segAddr u p 16) 8 with
    | (s', bs, none) => s'.updSeg u p fun x => { x with rd := leNat bs, readAt := s.now }
    | (s', _, some e) => (s'.updSeg u p fun x => { x with readAt := s.now }).dmaHalt u p 1 e

/-- Does the segment look full (R172)? -/
def State.segFull (s : State) (u p : Nat) : Bool :=
  match s.seg u p with
  | some x => s.nrec p ≤ x.queued - x.rd
  | none => false

/-- A record is dropped (R172). -/
def State.dropRec (s : State) (u p : Nat) : State :=
  ((s.inc (CAP_PART_DROPPED u p)).on (CAP_PART_DROP_SEEN u p)).updSeg u p fun x => { x with
    dropped := x.dropped + 1, dropBefore := true }

/-- Queue a record for its segment, or drop it: segment still full after reading RD again (at most once per µs), or 512
records queued (R172). -/
def State.queueRec (s : State) (u : Nat) (r : FailRec) : State :=
  match s.seg u r.part with
  | none => s
  | some x =>
    let s := if s.segFull u r.part && (x.readAt < s.now || x.readAt = 0) then s.reread u r.part else s
    if s.segFull u r.part || 512 ≤ (s.cap u).queue.length then s.dropRec u r.part
    else
      let r := if x.dropBefore then { r with bits := r.bits ||| (1 <<< 219) } else r
      let s := (s.updCap u fun c => { c with queue := c.queue ++ [r] }).updSeg u r.part fun x => { x with
        queued := x.queued + 1, dropBefore := false }
      s.peak (CAP_QUEUE_PEAK u) (s.cap u).queue.length

/-- A fail record (R168). -/
def failRec (vt part unit typ lane mask : Nat) (stamp : BitVec 56) (cycle edge : Nat) (partial_ : Bool)
    (cause run : Nat) : FailRec :=
  { part := part, vt := vt, lane := lane, bits := BitVec.ofNat 256
      (vt % 2 ^ 48 + part * 2 ^ 48 + unit * 2 ^ 52 + typ * 2 ^ 55 + lane * 2 ^ 56 + mask * 2 ^ 64
        + stamp.toNat * 2 ^ 128 + cycle * 2 ^ 184 + edge * 2 ^ 216 + b2n partial_ * 2 ^ 218 + cause * 2 ^ 221
        + run * 2 ^ 224) }

/-! Gap evidence (R169) -/

/-- Close a run: its GAP record is queued if ENABLES[0] is set. -/
def State.closeRun (s : State) (u : Nat) (r : GapRun) : State :=
  let s := s.updCap u fun c => { c with runs := c.runs.filter fun x => x ≠ r }
  if s.capEn r.part 0 then
    s.queueRec u (failRec r.first r.part (s.groupOf u) 1 r.lane r.mask r.stamp r.cycle 0 false r.cause (r.count - 1))
  else s

/-- Evidence of one cycle and slot: extends the partition's GAP range, and the run it continues or a new one. -/
def State.gapCycle (s : State) (u : Nat) (x : EchoEnt) (slot cause mask lane : Nat) : State :=
  let s := s.noteGap u x.part x.vt
  let new := { engine := x.engine, part := x.part, slot := slot, cause := cause, first := x.vt, last := x.vt, count := 1,
               mask := mask, lane := lane, stamp := x.stamp, cycle := x.cycle, since := s.now : GapRun }
  match (s.cap u).runs.find? (fun r => r.engine = x.engine && r.slot = slot && r.cause = cause) with
  | none => s.updCap u fun c => { c with runs := c.runs ++ [new] }
  | some r =>
    if vtAdd r.last (s.mPart x.part) = x.vt then
      let r' := { r with last := x.vt, count := r.count + 1, mask := r.mask ||| mask }
      let s := s.updCap u fun c => { c with runs := c.runs.map fun y => if y = r then r' else y }
      if 65536 ≤ r'.count then s.closeRun u r' else s
    else (s.closeRun u r).updCap u fun c => { c with runs := c.runs ++ [new] }

/-! Row and column counters (R182, R183) -/

/-- K: the counters partition p owns in a unit that serves it. -/
def State.rcK (s : State) (p : Nat) : Nat := match s.capRec p with | some c => c.rcKi * 1024 | none => 0

/-- A counter of partition p. -/
def State.rcGet (s : State) (u p i : Nat) : Nat := cget (fun _ => 0) (s.cap u).rc (p * 65536 + i)

/-- Count once against a counter; it saturates at 0xFFFF. A count in the FCLK cycle of a clear is lost (R185). -/
def State.rcInc (s : State) (u p i : Nat) : State :=
  if s.rcK p = 0 || (s.cap u).rcCleared.contains (p, s.clk.fclk) then s
  else s.updCap u fun c => { c with rc := cput (fun _ => 0) c.rc (p * 65536 + i) (min (s.rcGet u p i + 1) 0xFFFF) }

/-- Clear partition p's counters. -/
def State.rcClear (s : State) (u p : Nat) : State :=
  s.updCap u fun c => { c with rc := c.rc.filter fun x => x.1 / 65536 ≠ p }

/-! The fail map (R174 to R179) -/

/-- The low n bits. -/
def lowBits (n v : Nat) : Nat := v % 2 ^ n

/-- The row and the column counter of a stamp (R182). -/
def rcIndex (c : CapRec) (k : Nat) (stamp : BitVec 56) : Nat × Nat :=
  let x := lowBits c.xBits (bits stamp.toNat 0 24)
  let y := lowBits c.yBits (bits stamp.toNat 24 24)
  let z := lowBits c.zBits (bits stamp.toNat 48 8)
  ((z * 2 ^ c.xBits + x) % (k / 2), k / 2 + (z * 2 ^ c.yBits + y) % (k / 2))

/-- The entry index of a stamp (R174). -/
def mapIndex (c : CapRec) (stamp : BitVec 56) : Nat :=
  lowBits c.zBits (bits stamp.toNat 48 8) * 2 ^ (c.xBits + c.yBits)
    + lowBits c.xBits (bits stamp.toNat 0 24) * 2 ^ c.yBits + lowBits c.yBits (bits stamp.toNat 24 24)

/-- The entry bits a set of failing pins gives (R175). -/
def mapBits (roles : List (Nat × Nat)) (fails dq : Nat) : Nat :=
  (roles.zip (upFrom 0 roles.length)).foldl (fun m r =>
    if bit fails r.2 && (r.1.1 = 4 || r.1.1 = 5) && r.1.2 < dq then putBit m r.1.2 true else m) 0

/-- A straddling entry's half is settled: counted with its other half if both found the entry all zero (R183). -/
def State.halfDone (s : State) (u : Nat) (d : MapUpd) (zero : Bool) : State :=
  match d.tag with
  | none => if zero && d.counts then (s.rcInc u d.part d.row).rcInc u d.part d.col else s
  | some t =>
    match (s.cap u).halves.find? (fun x => x.1 = t) with
    | none => s.updCap u fun c => { c with halves := c.halves ++ [(t, zero)] }
    | some h =>
      let s := s.updCap u fun c => { c with halves := c.halves.filter fun x => x.1 ≠ t }
      if zero && h.2 && d.counts then (s.rcInc u d.part d.row).rcInc u d.part d.col else s

/-- Is r the FAIL record of the lane-cycle whose map update d is? -/
def MapUpd.skips (d : MapUpd) (r : FailRec) : Bool := ! bit r.bits.toNat 55 && r.vt = d.vt && r.lane = d.lane

/-- MAP_SKIPPED in a record whose map update is dropped (R178). -/
def MapUpd.skip (d : MapUpd) (r : FailRec) : FailRec :=
  if d.skips r then { r with bits := r.bits ||| (1 <<< 220) } else r

/-- A map update is dropped (R178): MAP_SKIPPED in its record, MAP_INCOMPLETE and the INC range. -/
def State.dropUpd (s : State) (u : Nat) (d : MapUpd) : State :=
  let s := s.updCap u fun c => { c with queue := c.queue.map d.skip }
  (s.noteInc u d.part d.vt).halfDone u { d with counts := false } false

/-- Merge an update into a line (R176, R183). -/
def State.mergeUpd (s : State) (u : Nat) (d : MapUpd) : State :=
  match (s.cap u).lines.find? (fun l => l.gran = d.gran) with
  | none => s.dropUpd u d
  | some l =>
    let zero := bits l.data.toNat d.lo (d.hi - d.lo) = 0
    let l' := { l with data := l.data ||| d.bits, dirty := some (l.dirty.getD s.now),
                       range := some (match l.range with | some r => widen r d.vt | none => (d.vt, d.vt)) }
    let s := s.updCap u fun c => { c with lines := (c.lines.filter fun x => x.gran ≠ d.gran) ++ [l'] }
    s.halfDone u d zero

/-- Begin the write-back of a line at a live FCLK: what it holds goes on its way, the line is clean (R177). -/
def CaptureUnit.writeBack (c : CaptureUnit) (now : Nat) (l : MapLine) : CaptureUnit :=
  { c with
    wbs := c.wbs ++ [{ l with since := now }]
    lines := c.lines.map fun x => if x.gran = l.gran then { x with dirty := none, range := none } else x }

/-- Make room for a line: the least recently used one that is not being filled gives way (R176). -/
def CaptureUnit.evict (c : CaptureUnit) (now : Nat) : CaptureUnit :=
  if c.lines.length < 256 then c
  else match c.lines.find? (fun l => ! l.filling) with
    | none => c
    | some l => { c with
        lines := c.lines.filter fun x => x.gran ≠ l.gran
        wbs := if l.dirty.isSome then c.wbs ++ [{ l with since := now }] else c.wbs }

/-- One update reaches the updater (R176, R178). -/
def State.mapUpdate (s : State) (u : Nat) (d : MapUpd) : State :=
  let enqueue := fun (s : State) => if (s.cap u).upds.length < 64 then
      s.updCap u fun c => { c with upds := c.upds ++ [d] }
    else s.dropUpd u d
  match (s.cap u).lines.find? (fun l => l.gran = d.gran) with
  | some l => if l.filling then enqueue s else s.mergeUpd u d
  | none =>
    if 64 ≤ (s.cap u).upds.length then s.dropUpd u d
    else enqueue (s.updCap u fun c =>
      let c := c.evict s.clk.live
      { c with lines := c.lines ++ [{ gran := d.gran, part := d.part, filling := true, since := s.clk.live }] })

/-- The updates of one failing lane-cycle (R174, R175). -/
def State.mapFail (s : State) (u : Nat) (x : EchoEnt) (lane fails : Nat) : State :=
  match s.capRec x.part, s.regionOf x.part 2 with
  | some c, some g =>
    let m := mapBits (s.roles x.engine) fails c.dqWidth
    if m = 0 then s
    else
      let f := mapIndex c x.stamp * c.dqWidth
      let g0 := f / 512
      let g1 := (f + c.dqWidth - 1) / 512
      let k := s.rcK x.part
      let rc := if k = 0 then (0, 0) else rcIndex c k x.stamp
      let tag := if g0 = g1 then none else some (s.cap u).nextTag
      let s := s.updCap u fun y => { y with nextTag := if g0 = g1 then y.nextTag else y.nextTag + 1 }
      let half := fun (gr lo hi : Nat) (b : Nat) =>
        { gran := g.addr (gr * 64), part := x.part, bits := BitVec.ofNat 512 b, lo := lo, hi := hi, vt := x.vt,
          lane := lane, row := rc.1, col := rc.2, counts := c.enables.testBit 2 && k ≠ 0, tag := tag : MapUpd }
      if g0 = g1 then s.mapUpdate u (half g0 (f % 512) (f % 512 + c.dqWidth) (m * 2 ^ (f % 512)))
      else
        let n := 512 - f % 512
        (s.mapUpdate u (half g0 (f % 512) 512 (m % 2 ^ n * 2 ^ (f % 512)))).mapUpdate u
          (half g1 0 (c.dqWidth - n) (m / 2 ^ n))
  | _, _ => s

/-- A fill's data arrives: the line and the updates that wait on it (R176). -/
def State.fillLine (s : State) (u : Nat) (gran : Nat) (data : List Byte) : State :=
  let ds := (s.cap u).upds.filter fun d => d.gran = gran
  let s := s.updCap u fun c => { c with
    upds := c.upds.filter fun d => d.gran ≠ gran
    lines := c.lines.map fun l => if l.gran = gran then { l with data := BitVec.ofNat 512 (leNat data), filling := false }
      else l }
  s.each ds fun s d => s.mergeUpd u d

/-- A fill ends with an error response (R178): the line goes and every waiting update is dropped. -/
def State.fillFails (s : State) (u : Nat) (gran : Nat) : State :=
  let ds := (s.cap u).upds.filter fun d => d.gran = gran
  let s := s.updCap u fun c => { c with
    upds := c.upds.filter fun d => d.gran ≠ gran, lines := c.lines.filter fun l => l.gran ≠ gran }
  s.each ds fun s d => s.dropUpd u d

/-- The fill of a line ends (R176, R178, R179): with its data, as zeros where the granule is uncorrectable, or with an error
response. -/
def State.fillEnds (s : State) (u : Nat) (l : MapLine) : State :=
  let a := s.mapAcc u l.part 4
  match (s.portTake a l.gran 64).readGran a (chanOf l.gran) (granOf l.gran) with
  | (s, .data d) => s.fillLine u l.gran d
  | (s, .uncorrectable) =>
    let s := ((s.on (CAP_PART_MAP_LOST u l.part)).put (CAP_PART_LOST_ADDR_LO u l.part) (l.gran % 2 ^ 32)).put
      (CAP_PART_LOST_ADDR_HI u l.part) (l.gran / 2 ^ 32)
    let s := s.raise { src := srcCap u, kind := 0x11, addr := l.gran, detail := l.part, master := some (srcCap u + 1024),
                       access := 4, part := some l.part }
    s.fillLine u l.gran (List.replicate 64 0)
  | (s, .error) => s.fillFails u l.gran

/-- The dirty lines that a test selects are on their way to DRAM. -/
def State.flushLines (s : State) (u : Nat) (f : MapLine → Bool) : State :=
  s.updCap u fun c => (c.lines.filter fun l => l.dirty.isSome && ! l.filling && f l).foldl (fun c l => c.writeBack s.clk.live l) c

/-! Comparing (R165 to R167) -/

/-- Expect code of pin j in an entry. -/
def EchoEnt.expect (x : EchoEnt) (j : Nat) : Nat := bits x.expects.toNat (2 * j) 2

/-- Of n pins from pin base on: failing pins, pins without a sample, and the edge flags of failing pins (R166). -/
def comparePins (x : EchoEnt) (base n : Nat) (nib : Nat → Nat) : Nat × Nat × Nat :=
  (upFrom 0 n).foldl (fun a i =>
    let e := x.expect (base + i)
    let l := nib i % 4
    if e = 3 then a
    else if l = 3 then (a.1, putBit a.2.1 (base + i) true, a.2.2)
    else if l = e then a
    else (putBit a.1 (base + i) true, a.2.1, a.2.2 ||| nib i / 4 % 4)) (0, 0, 0)

/-- A lane-cycle is compared with its entry: counts, record, map, counters, gap evidence (R166, R167). -/
def State.compareCycle (s : State) (u lane slot p : Nat) (x : EchoEnt) (nib : Nat → Nat) : State :=
  let pp := s.pPart p
  let r := comparePins x (slot * pp) pp nib
  let fails := r.1
  let missing := r.2.1
  let s := if fails = 0 then s else
    let s := s.each ((upFrom 0 pp).filter fun i => bit fails (slot * pp + i)) fun s i =>
      s.inc (CAP_PINCNT_FAILS u (16 * (lane % 12) + i))
    let s := if s.capEn p 0 then
        s.queueRec u (failRec x.vt p (s.groupOf u) 0 lane fails x.stamp x.cycle r.2.2 (missing ≠ 0) 0 0)
      else s
    let s := if s.capEn p 1 then s.mapFail u x lane fails else s
    match s.capRec p with
    | some c => if s.capEn p 2 && ! s.capEn p 1 && s.rcK p ≠ 0 then
        let i := rcIndex c (s.rcK p) x.stamp
        (s.rcInc u p i.1).rcInc u p i.2
      else s
    | none => s
  if missing = 0 then s
  else (s.inc (CAP_LANE_NOSAMPLE u (lane % 12))).gapCycle u x slot 1 missing lane

/-- Mark a slot of an entry answered, and free an entry all of whose slots are (R160). -/
def State.answer (s : State) (u : Nat) (x : EchoEnt) (slot : Nat) : State :=
  let y := x.answer slot
  (s.updCap u fun c => { c with
    ring := if y.done then c.ring.erase x else c.ring.map fun z => if z = x then y else z }).echoEase u

/-- One returned cycle of logical RX lane L at sample time v (R165). A sample of an entry that the unit held when its fence
lifted is discarded, as under the fence (R372; DEDUCED, log 189). -/
def State.capSample (s : State) (u lane e slot p v : Nat) (nib : Nat → Nat) : State :=
  match (s.cap u).ring.find? (fun x => x.engine = e && x.vt = v) with
  | some x =>
    if x.stale then s
    else if bit x.answered slot then s.inc (CAP_ECHO_UNMATCHED u)
    else if s.winOpen p v then (s.compareCycle u lane slot p x nib).answer u x slot
    else (s.inc (CAP_PART_CLOSED u p)).answer u x slot
  | none =>
    match (s.cap u).newest.find? (fun n => n.1 = e) with
    | some n => if vtGe n.2 v then s.inc (CAP_ECHO_UNMATCHED u) else s.inc (CAP_ECHO_AHEAD u)
    | none => s.inc (CAP_ECHO_AHEAD u)

/-- A data frame of logical RX lane L with its cycles' nibbles (R159, R165): discarded where no engine binds the lane or
the group has no working unit. -/
def State.capFrame (s : State) (l vt count : Nat) (nib : Nat → Nat) : State :=
  match s.unitOf (l / 12) with
  | none => s
  | some u =>
    match s.laneOwner l with
    | none => s.inc (CAP_LANE_DISCARD u (l % 12))
    | some (e, slot) =>
      match s.engPart e with
      | none => s.inc (CAP_LANE_DISCARD u (l % 12))
      | some p =>
        let pp := s.pPart p
        let s := s.each (upFrom 0 count) fun s i =>
          s.capSample u l e slot p (vtAdd vt (i * s.mPart p)) fun j => nib (i * pp + j)
        let last := vtAdd vt ((count - 1) * s.mPart p)
        { s with img := { s.img with lastSample :=
            (p, match s.img.lastSample.find? (fun x => x.1 = p) with
                | some x => if vtGe last x.2 then last else x.2
                | none => last) :: s.img.lastSample.filter fun x => x.1 ≠ p } }

/-- Nothing of partition p waits in unit u (R180). -/
def State.mapClean (s : State) (u p : Nat) : Bool :=
  let c := s.cap u
  c.lines.all (fun l => l.part ≠ p || (l.dirty.isNone && ! l.filling)) && c.wbs.all (fun l => l.part ≠ p) &&
    c.upds.all (fun d => d.part ≠ p) && c.queue.all (fun r => r.part ≠ p) &&
    c.segs.all fun x => x.part ≠ p || (! x.zeroDue && x.adopt = 0 && x.hdrWr = x.written && x.hdrDropped = x.dropped)

/-! Capture DMA (R171, R173) -/

/-- Write the header of partition p's segment: zeros for a fresh one, else bytes 0 to 15 (R170, R171). -/
def State.writeHeader (s : State) (u p : Nat) : State × Option XferErr :=
  match s.seg u p with
  | none => (s, none)
  | some x =>
    let bs := if x.zeroDue then List.replicate 64 0 else natLe 8 x.written ++ natLe 8 x.dropped
    match s.writeAll (s.capAcc u p 2) (s.segAddr u p 0) bs with
    | (s, none) => (s.updSeg u p fun y => { y with
        zeroDue := false, hdrAt := s.now
        hdrWr := if x.zeroDue then 0 else x.written, hdrDropped := if x.zeroDue then 0 else x.dropped }, none)
    | (s, some e) => (s, some e)

/-- Bytes that the next header write of partition p's segment brings. -/
def State.hdrLen (s : State) (u p : Nat) : Nat :=
  match s.seg u p with
  | some x => if x.zeroDue then 64 else 16
  | none => 0

/-- Must the header write wait at its port? -/
def State.hdrHeld (s : State) (u p : Nat) : Bool := s.memHeld (s.capAcc u p 2) (s.segAddr u p 0) (s.hdrLen u p)

/-- The header write waits at its port. -/
def State.hdrWait (s : State) (u p : Nat) : State := s.portWait (s.capAcc u p 2) (s.segAddr u p 0) (s.hdrLen u p)

/-- Write a record at its place, with the granule's first record at an odd position (R171). -/
def State.writeRec (s : State) (u : Nat) (r : FailRec) : State × Option XferErr :=
  match s.seg u r.part with
  | none => (s, none)
  | some x =>
    let n := x.written % s.nrec r.part
    let bs := if n % 2 = 0 then natLe 32 r.bits.toNat ++ List.replicate 32 0
      else natLe 32 x.half.toNat ++ natLe 32 r.bits.toNat
    match s.writeAll (s.capAcc u r.part 2) (s.segAddr u r.part (64 + 32 * (n - n % 2))) bs with
    | (s, none) => (s.updSeg u r.part fun y => { y with written := y.written + 1, half := r.bits }, none)
    | (s, some e) => (s, some e)

/-- The next read of a segment that unit 8 took over (R187): its header, from whose WR it goes on, then the first record of
the granule where the next position is odd (R171). A read that fails halts the channel (R239). -/
def State.adoptRead (s : State) (u : Nat) (x : LogSeg) : State :=
  let p := x.part
  let n := x.written % s.nrec p
  let (o, k) := if x.adopt = 1 then (0, 24) else (64 + 32 * (n - 1), 32)
  if s.memHeld (s.capAcc u p 1) (s.segAddr u p o) k then s.portWait (s.capAcc u p 1) (s.segAddr u p o) k
  else match s.readMem (s.capAcc u p 1) (s.segAddr u p o) k with
    | (s, _, some e) => s.dmaHalt u p 1 e
    | (s, bs, none) =>
      if x.adopt = 1 then
        let wr := fieldAt bs 0 8
        let more := ((s.cap u).queue.filter fun r => r.part = p).length
        s.updSeg u p fun y => { y with
          adopt := if wr % s.nrec p % 2 = 0 then 0 else 2, written := wr, queued := wr + more
          dropped := fieldAt bs 8 8 + (y.dropped - x.hdrDropped), rd := fieldAt bs 16 8, hdrWr := wr
          hdrDropped := fieldAt bs 8 8 }
      else s.updSeg u p fun y => { y with adopt := 0, half := BitVec.ofNat 256 (leNat bs) }

/-- The first segment with something due before its records: a zero header (R170), or a read of a segment taken over. -/
def CaptureUnit.segDue (c : CaptureUnit) : Option LogSeg := c.segs.find? fun x => x.zeroDue || x.adopt ≠ 0

/-- The next write of the channel, or the read that comes before it (R170, R171, R173, R187). -/
def State.dmaNext (s : State) (u : Nat) : State :=
  match (s.cap u).segDue with
  | some x =>
    if ! x.zeroDue then s.adoptRead u x
    else if s.hdrHeld u x.part then s.hdrWait u x.part
    else match s.writeHeader u x.part with
      | (s, none) => s
      | (s, some e) => s.dmaHalt u x.part 2 e
  | none =>
    match (s.cap u).queue with
    | [] => s
    | r :: rest =>
      let n := match s.seg u r.part with | some x => x.written % s.nrec r.part | none => 0
      let a := s.segAddr u r.part (64 + 32 * (n - n % 2))
      if s.memHeld (s.capAcc u r.part 2) a 64 then s.portWait (s.capAcc u r.part 2) a 64
      else match s.writeRec u r with
        | (s, none) => s.updCap u fun c => { c with queue := rest }
        | (s, some e) => s.dmaHalt u r.part 2 e

/-! The spare capture unit (R187, R429) -/

/-- A map line that could not be written counts as dropped over its range (R178, R187). -/
def State.dropLine (s : State) (u : Nat) (l : MapLine) : State :=
  match l.range with
  | some r => (s.noteInc u l.part r.1).noteInc u l.part r.2
  | none => s

/-- The write-back w of unit u ends (R177, R178); on an error response the line is dropped with the updates it holds. -/
def State.wbEnds (s : State) (u : Nat) (w : MapLine) : State :=
  match s.writeAll (s.mapAcc u w.part 2) w.gran (natLe 64 w.data.toNat) with
  | (s, none) => s.updCap u fun c => { c with wbs := c.wbs.erase w }
  | (s, some _) =>
    let later := (s.cap u).lines.filter fun l => l.gran = w.gran
    let s := s.updCap u fun c => { c with wbs := c.wbs.erase w, lines := c.lines.filter fun l => l.gran ≠ w.gran || l.filling }
    later.foldl (fun s l => s.dropLine u l) (s.dropLine u w)

/-- MOLT_LOSS records of n cycles of an engine from Vector Time v on, at most 65 536 cycles each (R169). -/
def State.moltLoss (s : State) (u e p v cycle : Nat) : Nat → Nat → State
  | 0, _ => s
  | _ + 1, 0 => s
  | fuel + 1, n =>
    let k := min n 65536
    let m := s.mPart p
    let s := if s.capEn p 0 then
        s.queueRec u (failRec v p (s.groupOf u) 1 ((s.engLanes e).headD 0) (2 ^ s.engW e - 1) 0 (cycle % 2 ^ 32) 0 false
          3 (k - 1))
      else s
    s.moltLoss u e p (vtAdd v (k * m)) (cycle + k) fuel (n - k)

/-- The records that a retired unit leaves to unit 8 (R187): those queued, with MAP_SKIPPED where their map update still
waited, and the records of its open runs of gap evidence. -/
def State.capLeft (s : State) (old : CaptureUnit) (g : Nat) : List FailRec :=
  (old.queue.map fun r => old.upds.foldl (fun r d => d.skip r) r) ++
    (old.runs.filter fun r => s.capEn r.part 0).map fun r =>
      failRec r.first r.part g 1 r.lane r.mask r.stamp r.cycle 0 false r.cause (r.count - 1)

/-- Unit 8 takes partition p's segment over (R187): its header is to be read before anything is written there, but for a
fresh segment whose zero header is still due (R170). -/
def State.capAdopt (s : State) (old : CaptureUnit) (p : Nat) : State :=
  let was := (old.segs.find? fun y => y.part = p).getD { part := p }
  s.updCap 8 fun c => { c with segs := c.segs ++
    [if was.zeroDue then { part := p } else { was with adopt := 1, queued := was.written, half := 0 }] }

/-- Capture unit 8 molts into group g, which unit u served (R187): at the frame boundary that the model takes to be now
(log 12). -/
def State.capMolt (s : State) (u g : Nat) : State :=
  let old := s.cap u
  let vb := s.vt.vt
  let s := ((((s.put (CAP_STATUS_GROUP 8) g).put (CAP_STATUS_STATE 8) 0).setMisc IMAGE_ALIVE_MISC_CAP_SPARE_FREE 0
    false).gainGroup g).updCap 8 fun _ => { newest := old.newest }
  let ps := s.partsList.filter fun p => (s.partGroups p).contains g
  let s := s.each (ps.filter fun p => s.capEn p 2) fun s p => s.on (CAP_PART_RC_LOST 8 p)
  let s := s.each (ps.filter fun p => s.capEn p 0) fun s p => s.capAdopt old p
  -- what the retired unit held goes out through unit 8's port
  let s := s.updCap 8 fun c => { c with wbs := old.wbs ++
    (old.lines.filter fun l => l.dirty.isSome).map fun l => { l with since := s.clk.live } }
  let s := s.each old.upds fun s d => s.noteInc 8 d.part d.vt
  let s := s.each (s.capLeft old g) fun s r => s.queueRec 8 r
  -- evidence of what was lost
  let s := s.each (s.img.active.engines.filter fun r => (s.engLanes r.engine).headD 1000 / 12 = g) fun s r =>
    match old.newest.find? (fun n => n.1 = r.engine) with
    | none => s
    | some n =>
      let p := r.desc.part
      let from_ := (vb + 2 ^ 48 - s.rttMax p) % 2 ^ 48
      if vtGe n.2 from_ then
        let m := s.mPart p
        let k := vtDiff n.2 from_ / m
        let first := (n.2 + 2 ^ 48 - k * m) % 2 ^ 48
        let s := (s.noteGap 8 p from_).noteGap 8 p n.2
        s.moltLoss 8 r.engine p first (vtDiff first (s.eng r.engine).origin / m) (k / 65536 + 1) (k + 1)
      else s
  (s.log2 0x010D (srcCap 8) u 8).updCap u fun _ => {}

/-- The group that capture unit u served has lost it: unit 8 molts in if it is free (R429), else the group's alive bit
clears, and what the unit holds stays for the molt to come (R187, R429). -/
def State.capLost (s : State) (u g : Nat) (kind : Option Nat) : State :=
  let free := s.rd (CAP_STATUS_STATE 8) = 1 && s.groupOf 8 = 15
  if free && ! s.restarting then s.capMolt u g
  else
    let s := (s.updCap u fun c => { c with orphan := some g }).loseGroup g kind
    if free then s.defer .capture else s

/-- Unit 8 molts into group g, which has no working unit (R429). -/
def State.capTake (s : State) (g : Nat) : State := s.capMolt ((s.orphanUnit g).getD g) g

/-- Retire capture unit u (R187, R372). -/
def State.capRetire (s : State) (u : Nat) (kind : Option Nat) : State :=
  let g := s.groupOf u
  let s := ((s.put (CAP_STATUS_STATE u) 3).put (CAP_STATUS_GROUP u) 15).off (CAP_STATUS_ECHO_FULL u)
  if g < 8 then s.capLost u g kind
  else (s.updCap u fun _ => {}).setMisc IMAGE_ALIVE_MISC_CAP_SPARE_FREE 0 false

/-- An apply binds partition p: its counters cleared (R182), and where it keeps a fail log (R159) fresh segments with their
zero headers due (R170). -/
def State.capBind (s : State) (p : Nat) : State :=
  s.each ((upFrom 0 9).filter fun u => s.serves u p) fun s u =>
    (s.rcClear u p).updCap u fun c => { c with segs := c.segs.filter (fun x => x.part ≠ p) ++
      (if s.capEn p 0 then [{ part := p }] else []) }

/-! What an apply waits for -/

/-- The next piece of what unit u still has to bring to DRAM of partition p before an apply unbinds it: write-backs on their
way, fills that updates wait for, dirty lines, open runs, then what capture DMA owes (a halted channel drops its records,
R172), and the header; the flag says that it must wait at its port. None where nothing is owed. -/
def State.leaveOne (s : State) (u p : Nat) : Option (State × Bool) :=
  let c := s.cap u
  let halted := s.flag (CAP_STATUS_DMA_HALT u)
  match c.wbs.find? fun l => l.part = p, c.lines.find? fun l => l.filling && l.part = p with
  | some w, _ =>
    if s.memHeld (s.mapAcc u p 2) w.gran 64 then some (s.portWait (s.mapAcc u p 2) w.gran 64, true)
    else some (s.wbEnds u w, false)
  | none, some l =>
    if s.memHeld (s.mapAcc u p 4) l.gran 64 then some (s.portWait (s.mapAcc u p 4) l.gran 64, true)
    else some (s.fillEnds u l, false)
  | none, none =>
    if c.lines.any fun l => l.dirty.isSome && l.part = p then some (s.flushLines u fun l => l.part = p, false)
    else match c.runs.find? fun r => r.part = p, c.queue.find? fun r => r.part = p, s.seg u p with
      | some r, _, _ => some (s.closeRun u r, false)
      | none, some r, x =>
        if halted then some ((s.dropRec u p).updCap u fun c => { c with queue := c.queue.erase r }, false)
        else match x.filter fun x => x.zeroDue || x.adopt ≠ 0 with
          | some x =>
            if ! x.zeroDue then
              let t := s.adoptRead u x
              some (t, (t.seg u p) = some x && ! t.flag (CAP_STATUS_DMA_HALT u))
            else if s.hdrHeld u p then some (s.hdrWait u p, true)
            else match s.writeHeader u p with
              | (s, none) => some (s, false)
              | (s, some e) => some (s.dmaHalt u p 2 e, false)
          | none =>
            let n := match x with | some x => x.written % s.nrec p | none => 0
            let a := s.segAddr u p (64 + 32 * (n - n % 2))
            if s.memHeld (s.capAcc u p 2) a 64 then some (s.portWait (s.capAcc u p 2) a 64, true)
            else match s.writeRec u r with
              | (s, none) => some (s.updCap u fun c => { c with queue := c.queue.erase r }, false)
              | (s, some e) => some (s.dmaHalt u p 2 e, false)
      | none, none, some x =>
        if halted || (! x.zeroDue && (x.adopt ≠ 0 || (x.hdrWr = x.written && x.hdrDropped = x.dropped))) then none
        else if s.hdrHeld u p then some (s.hdrWait u p, true)
        else match s.writeHeader u p with
          | (s, none) => some (s, false)
          | (s, some e) => some (s.dmaHalt u p 2 e, false)
      | none, none, none => none

/-- Unit u brings everything of partition p to DRAM, as far as the ports let it: is nothing left? -/
def State.leave (s : State) (u p : Nat) : Nat → State × Bool
  | 0 => (s, false)
  | fuel + 1 =>
    match s.leaveOne u p with
    | none => (s, true)
    | some (s, true) => (s, false)
    | some (s, false) => s.leave u p fuel

/-- The pieces that leaveOne can find in a unit, at most. -/
def CaptureUnit.leaveFuel (c : CaptureUnit) : Nat :=
  c.wbs.length + 3 * c.lines.length + 2 * c.runs.length + c.queue.length + 8

/-- The units bring to DRAM what they hold of the partitions ps: is nothing left of any? -/
def State.leaveAll (s : State) (ps : List Nat) : State × Bool :=
  ps.foldl (fun r p => ((upFrom 0 9).filter fun u => r.1.serves u p).foldl (fun r u =>
    let x := r.1.leave u p (r.1.cap u).leaveFuel
    (x.1, r.2 && x.2)) r) (s, true)

/-- An apply unbinds partition p, with everything of it written back (leaveAll): what the units hold of it is dropped. -/
def State.capUnbind (s : State) (p : Nat) : State :=
  s.each ((upFrom 0 9).filter fun u => s.serves u p) fun s u =>
    (s.updCap u fun c => { c with
      ring := c.ring.filter (fun x => x.part ≠ p), lines := c.lines.filter (fun l => l.part ≠ p)
      wbs := c.wbs.filter (fun l => l.part ≠ p), upds := c.upds.filter (fun d => d.part ≠ p)
      queue := c.queue.filter (fun r => r.part ≠ p), segs := c.segs.filter (fun x => x.part ≠ p)
      dump := match c.dump with | some d => if d.1 = p then none else some d | none => none }).echoEase u

end Sys2Proof.Machine
end

