-- ==== Sys2Proof/Machine/LaneLine.lean ====
section
/-! DEFINITION. What a lane puts on the line (R132, R134 to R136, R146, R148, R152): symbols, CRC-16, frames, training
sets, capability blocks, test frames, and their code groups. -/
namespace Sys2Proof.Machine

/-! CRC-16 (R135) -/

/-- One bit of the CRC-16: polynomial 0x1021, most significant bit first. -/
def crc16Step (c : Nat) : Nat := if bit c 15 then Nat.xor (2 * c) 0x11021 else 2 * c

/-- One byte of the CRC-16. -/
def crc16Byte (c : Nat) (b : Byte) : Nat :=
  crc16Step (crc16Step (crc16Step (crc16Step (crc16Step (crc16Step (crc16Step (crc16Step
    (Nat.xor c (b.toNat * 256)))))))))

/-- The CRC-16 over bytes in order: initial value 0xFFFF, not reflected, no final exclusive-OR (R135). -/
def crc16 (bs : List Byte) : Nat := bs.foldl crc16Byte 0xFFFF

/-! Symbols (R134, R146) -/

/-- A symbol: K28.5 or a data byte. -/
inductive LineSym where
  | k285
  | data (b : Byte)
deriving DecidableEq, Repr, Inhabited

/-- K28.5, the bytes, and the CRC-16 over them, low byte first. -/
def framed (bs : List Byte) : List LineSym := .k285 :: (bs ++ natLe 2 (crc16 bs)).map .data

/-- The 40-bit header of a vector-lane TX frame (R136). -/
def Frame.header (f : Frame) : Nat :=
  f.typ % 2 ^ 4 * 2 ^ 36 + f.count % 2 ^ 8 * 2 ^ 28 + f.vt % 2 ^ 24 * 2 ^ 4 + f.seq % 2 ^ 4

/-- The 40-bit header of a host-link lane frame (R262). -/
def HostFrame.header (f : HostFrame) : Nat :=
  f.typ % 2 ^ 4 * 2 ^ 36 + f.fseq % 2 ^ 12 * 2 ^ 24 + f.ack % 2 ^ 12 * 2 ^ 12 + f.lane % 2 ^ 4 * 2 ^ 8

/-- The bytes of symbols 1 to 13 of a training set (R146, R264): the sender is the cube. -/
def setBytes (tb : Bool) (logical physical cube : Nat) : List Byte :=
  natLe 1 (if tb then 0x45 else 0x4A) ++ natLe 1 logical ++ natLe 1 physical ++ natLe 1 (cube % 8 * 2) ++
    List.replicate 9 0x4A

/-- The symbols of what a lane sends: 136 for a frame, 16 for a training set. -/
def LineOut.symbols : LineOut → List LineSym
  | .frame f => framed (natLe 5 f.header ++ natLe 128 f.payload.toNat)
  | .host f => framed (natLe 5 f.header ++ natLe 128 f.payload.toNat)
  | .set tb l p c => framed (setBytes tb l p c)

/-! Code groups (R132). Bit 0 of a group is bit a, the first on the wire. The tables are those of IEEE 802.3 Clause 36
(PRESUMED, log 144). -/

/-- abcdei of D0 to D31 at negative running disparity. -/
def code6 : List Nat :=
  [57, 46, 45, 35, 43, 37, 38, 7, 39, 41, 42, 11, 44, 13, 14, 58,
    54, 49, 50, 19, 52, 21, 22, 23, 51, 25, 26, 27, 28, 29, 30, 53]

/-- fghj of Dx.0 to Dx.7 at negative running disparity. -/
def code4 : List Nat := [13, 9, 10, 3, 11, 5, 6, 7]

/-- The 6-bit sub-block of x, and the running disparity after it (true: positive). -/
def enc6 (x : Nat) (rd : Bool) : Nat × Bool :=
  let c := code6.getD x 0
  if popCount 6 c = 3 then (if x = 7 && rd then 63 - c else c, rd) else (if rd then 63 - c else c, ! rd)

/-- The 4-bit sub-block of y after x, and the running disparity after it. -/
def enc4 (x y : Nat) (rd : Bool) : Nat × Bool :=
  if y = 7 && (if rd then [11, 13, 14].contains x else [17, 18, 20].contains x) then (if rd then 1 else 14, ! rd)
  else
    let c := code4.getD y 0
    if popCount 4 c = 2 then (if y = 3 && rd then 15 - c else c, rd) else (if rd then 15 - c else c, ! rd)

/-- The code group of a symbol, and the running disparity after it. -/
def LineSym.encode (rd : Bool) : LineSym → BitVec 10 × Bool
  | .k285 => (if rd then 0x283 else 0x17C, ! rd)
  | .data b =>
    let x := b.toNat % 32
    let a := enc6 x rd
    let c := enc4 x (b.toNat / 32) a.2
    (BitVec.ofNat 10 (a.1 + 64 * c.1), c.2)

/-- The code groups of symbols in order, and the running disparity after them. -/
def encodeSyms : Bool → List LineSym → List (BitVec 10) × Bool
  | rd, [] => ([], rd)
  | rd, x :: r =>
    let a := x.encode rd
    let b := encodeSyms a.2 r
    (a.1 :: b.1, b.2)

/-- The lane sends a frame or a training set. -/
def Lane.send (x : Lane) (o : LineOut) : Lane :=
  let r := encodeSyms x.disp o.symbols
  { x with out := some o, line := r.1, disp := r.2 }

/-- The lane goes to electrical idle; it will leave it at negative running disparity (R132). -/
def Lane.quiet (x : Lane) : Lane := { x with out := none, line := [], disp := false }

/-! Frames the cube forms -/

/-- The frame of a control request (R143). -/
def CtrlReq.frame (r : CtrlReq) (seq : Nat) : Frame :=
  { typ := 2, seq := seq, payload := BitVec.ofNat 1024
      (r.op + r.tag * 256 + leNat (r.args.map fun a => BitVec.ofNat 8 a) * 65536) }

/-- The training frame with the cube's capability block (R148): VERSION 1, ROLE 0, logical and physical lane, P_SUPPORT
0x07, FAR_LB 1, POOL 0. -/
def blockFrame (logical physical seq : Nat) : Frame :=
  { typ := 3, seq := seq, payload := BitVec.ofNat 1024 (leNat
      (natLe 1 1 ++ natLe 1 0 ++ natLe 1 logical ++ natLe 1 physical ++ natLe 1 0x07 ++ natLe 1 1 ++ natLe 1 0)) }

/-- n bytes of the PRBS31 sequence from a register of its last 31 bits, and the register after them: x^31 + x^28 + 1,
inverted; a byte's bit 7 comes first (PRESUMED, log 145). -/
def prbsBytes : Nat → Nat → List Byte × Nat
  | 0, r => ([], r)
  | n + 1, r =>
    let v := Nat.xor (bits r 23 8) (bits r 20 8)
    let t := prbsBytes n ((r * 256 + v) % 2 ^ 31)
    (BitVec.ofNat 8 (255 - v) :: t.1, t.2)

/-- The next test frame of a loopback (R152), and the loopback after it is sent. -/
def Loop.next (l : Loop) : BitVec 1024 × Loop :=
  let r := prbsBytes 128 l.prbs
  let p := BitVec.ofNat 1024 (leNat r.1)
  (p, { l with prbs := r.2, flying := l.flying ++ [p], sent := l.sent + 1 })

end Sys2Proof.Machine
end

