-- ==== Sys2Proof/Machine/LaneOps.lean ====
section
/-! DEFINITION. What the vector lanes share (chapter 07): pairs, frames, credits, control requests, bring-up, molts,
error windows. -/
namespace Sys2Proof.Machine
open Csr

/-- Physical lane k. -/
def State.lane (s : State) (k : Nat) : Lane := s.lanes.getD k {}

/-- Change physical lane k. -/
def State.updLane (s : State) (k : Nat) (f : Lane → Lane) : State :=
  { s with lanes := s.lanes.setIfInBounds k (f (s.lane k)) }

/-- Lane states of VLANE_STATE. -/
def lsDetect : Nat := 1
def lsTrain : Nat := 2
def lsLock : Nat := 3
def lsExchange : Nat := 4
def lsActive : Nat := 5
def lsStandby : Nat := 6
def lsLoopback : Nat := 7
def lsOff : Nat := 8

/-- The state of TX lane k. -/
def State.txState (s : State) (k : Nat) : Nat := s.rd (VLANE_STATE_TX_STATE k)
/-- The state of RX lane k. -/
def State.rxState (s : State) (k : Nat) : Nat := s.rd (VLANE_STATE_RX_STATE k)
/-- The logical lane TX k carries; 0xFF none. -/
def State.logTx (s : State) (k : Nat) : Nat := s.rd (VLANE_STATE_LOG_TX k)
/-- The logical lane RX k carries; 0xFF none. -/
def State.logRx (s : State) (k : Nat) : Nat := s.rd (VLANE_STATE_LOG_RX k)

/-- The TX lane of the pair that RX lane r belongs to (R130). -/
def State.txOf (s : State) (r : Nat) : Nat :=
  if s.logRx r = 0xFF then r else ((upFrom 0 100).find? fun k => s.logTx k = s.logRx r).getD r

/-- The RX lane of the pair that TX lane t leads (R130). -/
def State.rxOf (s : State) (t : Nat) : Nat :=
  if s.logTx t = 0xFF then t else ((upFrom 0 100).find? fun k => s.logRx k = s.logTx t).getD t

/-- Does TX lane k lead a pair: it carries a logical lane, or it is a spare whose two directions are both free (R130,
R151)? -/
def State.leads (s : State) (k : Nat) : Bool := s.logTx k ≠ 0xFF || s.logRx k = 0xFF

/-- The TX lane of the pair that trains over RX lane r: none where r is OFF, or a free direction of a lane block whose
other direction carries a logical lane. -/
def State.trainOf (s : State) (r : Nat) : Option Nat :=
  if s.rxState r = lsOff || (s.logRx r = 0xFF && s.logTx r ≠ 0xFF) then none else some (s.txOf r)

/-- Is TX lane k, or RX lane k, a free direction whose other direction carries a logical lane? It trains with that
direction's pair and waits in STANDBY (DEDUCED from R151, log 146). -/
def State.loneTx (s : State) (k : Nat) : Bool := s.logTx k = 0xFF && s.logRx k ≠ 0xFF && s.txState k ≠ lsOff
def State.loneRx (s : State) (k : Nat) : Bool := s.logRx k = 0xFF && s.logTx k ≠ 0xFF && s.rxState k ≠ lsOff

/-- The TX lane that carries logical lane L. -/
def State.txOfLog (s : State) (l : Nat) : Option Nat := (upFrom 0 100).find? fun k => s.logTx k = l

/-- The spare group of logical lane L has spare 96 + g (R130). -/
def spareOf (l : Nat) : Nat := 96 + l / 24

/-- Put both directions of a pair into a state; a direction that is OFF stays OFF (R157). Free directions of its two lane
blocks follow, but wait in STANDBY where the pair is ACTIVE. -/
def State.pairState (s : State) (t st : Nat) : State :=
  let r := s.rxOf t
  let half := if st = lsActive then lsStandby else st
  let s := if st ≠ lsLoopback && s.loneRx t then s.put (VLANE_STATE_RX_STATE t) half else s
  let s := if st ≠ lsLoopback && s.loneTx r then s.put (VLANE_STATE_TX_STATE r) half else s
  let s := if s.txState t = lsOff then s else s.put (VLANE_STATE_TX_STATE t) st
  if s.rxState r = lsOff then s else s.put (VLANE_STATE_RX_STATE r) st

/-- TX lane k sends a frame or a training set. -/
def State.sendOn (s : State) (k : Nat) (o : LineOut) : State := s.updLane k fun x => x.send o

/-- TX lane k goes to electrical idle. -/
def State.quietTx (s : State) (k : Nat) : State := s.updLane k Lane.quiet

/-- The TX lanes that train with the pair of TX lane t: its own, and a free one (R151). -/
def State.trainTxs (s : State) (t : Nat) : List Nat := if s.loneTx (s.rxOf t) then [t, s.rxOf t] else [t]

/-- The pair sends a training set on its TX lanes (R146, R147). -/
def State.sendSet (s : State) (t : Nat) (tb : Bool) : State :=
  s.each (s.trainTxs t) fun s k => s.sendOn k (.set tb (s.logTx k) k (s.pins.straps % 8))

/-- The pair sends a training frame on its TX lanes (R148). -/
def State.sendBlock (s : State) (t : Nat) : State :=
  s.each (s.trainTxs t) fun s k => s.sendOn k (.frame (blockFrame (s.logTx k) k (s.lane k).seq))

/-! Credits (R140, R141) -/

/-- AVAIL follows the counts of sent frames and freed buffers. -/
def State.laneAvail (s : State) (t : Nat) : State :=
  let x := s.lane t
  s.put (VLANE_CREDIT_AVAIL t) (s.rd (VLANE_CREDIT_POOL t) - (x.sent - x.freed))

/-- Buffers a header reports as freed (R140). -/
def State.laneCredit (s : State) (t n : Nat) : State :=
  (s.updLane t fun x => { x with freed := min (x.freed + n) x.sent }).laneAvail t

/-! Control requests (R143) -/

/-- Send a request under a new tag; it goes out on TX lane `on` and waits with the pair's TX lane t. -/
def State.laneReq (s : State) (t on op : Nat) (args : List Nat) : State :=
  let x := s.lane t
  let r := { op := op, tag := x.nextTag, args := args, on := on : CtrlReq }
  let s := s.updLane t fun x => { x with
    reqs := x.reqs ++ [r], nextTag := if 255 ≤ x.nextTag then 1 else x.nextTag + 1 }
  s.sendOn on (.frame (r.frame x.seq))

/-- The outstanding request an answer belongs to. -/
def Lane.answered (x : Lane) (op tag : Nat) : Option CtrlReq := x.reqs.find? fun r => r.op = op && r.tag = tag

/-- A request is answered. -/
def Lane.drop (x : Lane) (r : CtrlReq) : Lane := { x with reqs := x.reqs.filter fun y => y ≠ r }

/-- LANE_CONFIG for the binding of the pair's logical lane (R145): P, M, TICK_PS, partition, logical lane. -/
def State.laneConfig (s : State) (t : Nat) : State :=
  let l := s.logTx t
  let p := s.lanePart l
  let tick := s.rd VT_TICK_PS_TICK_PS
  let args := [match p with | some p => s.pPart p | none => 0, match p with | some p => s.mPart p | none => 0,
    tick % 256, tick / 256, match p with | some p => p | none => 0xFF, l]
  let tag := (s.lane t).nextTag
  let s := s.updLane t fun x => { x with reqs := x.reqs.filter fun r => r.op ≠ 1 }
  (s.laneReq t t 1 args).updLane t fun x => { x with cfgTag := some tag }

/-- CREDIT_QUERY. -/
def State.creditQuery (s : State) (t : Nat) : State := s.laneReq t t 3 []

/-- An apply changed logical lane L's binding, P or M: LANE_CONFIG on an ACTIVE lane, and at the end of a loopback
(R145). -/
def State.laneRebind (s : State) (l : Nat) : State :=
  match s.txOfLog l with
  | some t =>
    if s.txState t = lsActive then s.laneConfig t
    else if s.txState t = lsLoopback then s.updLane t fun x => { x with rebound := true }
    else s
  | none => s

/-! Bring-up and retraining (R147, R153, R158) -/

/-- Forget what the pair's training has seen. -/
def Lane.retrained (x : Lane) : Lane :=
  { x.quiet with
    reqs := [], cfgTag := none, lb := none, rebound := false
    wantTx := x.wantTx || x.moltTx.isSome, wantRx := x.wantRx || x.moltRx.isSome, moltTx := none, moltRx := none
    bitLock := false, symLock := false, sets := 0, tbs := 0, tbSent := 0, sawTa := false, sawTb := false, mismatch := false
    badCrc := false, block := none, blocks := 0 }

/-- The pair of TX lane t goes to DETECT. -/
def State.toDetect (s : State) (t : Nat) : State :=
  let r := s.rxOf t
  let s := if s.loneTx r then s.quietTx r else s
  let s := ((s.pairState t lsDetect).off (VLANE_EVENT_LB_RUNNING t)).updLane t Lane.retrained
  s.updLane r fun x => { x with noComma := 0, wantRx := x.wantRx || x.moltRx.isSome, moltRx := none }

/-- A new bring-up of the pair: ATTEMPTS starts again. -/
def State.retrainPair (s : State) (t : Nat) : State := (s.put (VLANE_STATE_ATTEMPTS t) 0).toDetect t

/-- A direction goes out of service. -/
def State.laneOff (s : State) (f : Fld) : State := s.put f lsOff

/-- The LANE_MOLT log entry (R157): logical lane, direction, old lane, spare, and the VT. -/
def State.logMolt (s : State) (l dir k sp : Nat) : State :=
  s.log2 0x010C (srcLane k) (l + dir * 2 ^ 8 + k * 2 ^ 16) (l + dir * 2 ^ 8 + sp * 2 ^ 16 + s.vt.vt * 2 ^ 32)

/-- Is the TX direction, the RX direction of spare sp free for a molt: in STANDBY, and promised to no other (R157; DEDUCED,
log 187)? -/
def State.spareTx (s : State) (sp : Nat) : Bool :=
  s.txState sp = lsStandby && s.logTx sp = 0xFF && (upFrom 0 100).all fun j => (s.lane j).moltTx ≠ some sp
def State.spareRx (s : State) (sp : Nat) : Bool :=
  s.rxState sp = lsStandby && s.logRx sp = 0xFF && (upFrom 0 100).all fun j => (s.lane j).moltRx ≠ some sp

/-- No spare is free (R157): the direction goes out of service, LANE_LOST, both alive bits clear. A TX lane that is off sends
no request any more. -/
def State.laneLost (s : State) (l dir k : Nat) : State :=
  let s := s.laneOff (if dir = 0 then VLANE_STATE_TX_STATE k else VLANE_STATE_RX_STATE k)
  let s := if dir = 0 then
      (s.updLane (s.rxOf k) fun x => { x with moltRx := none }).updLane k fun x => { x.quiet with
        wantTx := false, moltTx := none, reqs := [], cfgTag := none }
    else s.updLane k fun x => { x with wantRx := false, moltRx := none }
  (s.raiseKD (srcLane k) 0x24 0 (dir * 256 + l)).loseLane l (some 0x24)

/-- TX lane k's logical lane moves to spare sp (R155 step 3): credits, SEQ and unanswered requests are carried over, and k
is in electrical idle from here on. -/
def State.moltTxDone (s : State) (k sp : Nat) (active : Bool) : State :=
  let l := s.logTx k
  let x := s.lane k
  let s := s.updLane sp fun y => { y with
    seq := x.seq, sent := x.sent, freed := x.freed, nextTag := x.nextTag, cfgTag := x.cfgTag, lb := none
    reqs := x.reqs.map fun r => { r with on := if r.on = k then sp else r.on }
    discards := x.discards, txErrs := [] }
  let s := s.updLane k fun y => { y.quiet with
    reqs := [], cfgTag := none, rebound := false, moltTx := none, wantTx := false, txErrs := [], lb := none }
  let s := (((s.put (VLANE_STATE_LOG_TX sp) l).put (VLANE_STATE_LOG_TX k) 0xFF).laneOff (VLANE_STATE_TX_STATE k)).put
    (VLANE_STATE_TX_STATE sp) (if active then lsActive else lsDetect)
  let s := ((s.put (VLANE_CREDIT_POOL sp) (s.rd (VLANE_CREDIT_POOL k))).setReg (0x200020 + 0x1000 * sp)
    (s.reg (0x200020 + 0x1000 * k))).laneAvail sp
  let s := (((s.on (VLANE_EVENT_MOLT_OUT k)).on (VLANE_EVENT_MOLT_IN sp)).off (VLANE_EVENT_LB_RUNNING sp)).logMolt l 0 k sp
  if active then s.creditQuery sp else s.retrainPair sp

/-- RX lane k's logical lane moves to spare sp (R156 step 3). -/
def State.moltRxDone (s : State) (k sp : Nat) (active : Bool) : State :=
  let l := s.logRx k
  let s := s.updLane k fun y => { y with moltRx := none, wantRx := false, rxErrs := [], noComma := 0 }
  let s := s.updLane sp fun y => { y with lb := none }
  let s := (((s.put (VLANE_STATE_LOG_RX sp) l).put (VLANE_STATE_LOG_RX k) 0xFF).laneOff (VLANE_STATE_RX_STATE k)).put
    (VLANE_STATE_RX_STATE sp) (if active then lsActive else lsDetect)
  let s := (((s.on (VLANE_EVENT_MOLT_OUT k)).on (VLANE_EVENT_MOLT_IN sp)).off (VLANE_EVENT_LB_RUNNING sp)).logMolt l 1 k sp
  if active then s else match s.txOfLog l with
    | some t => s.retrainPair t
    | none => s

/-- Molt the TX direction of lane k (R155, R157). On an ACTIVE pair MOLT goes out on the spare; a pair that is being
trained moves at once and trains again (R150). -/
def State.moltTx (s : State) (k : Nat) : State :=
  let l := s.logTx k
  let sp := spareOf l
  if l = 0xFF || (s.lane k).moltTx.isSome then s
  else if s.restarting then s.defer (.laneTx k)
  else if ! s.spareTx sp then s.laneLost l 0 k
  else if s.txState k = lsActive then
    (s.laneReq k sp 4 [0, l, sp, k]).updLane k fun x => { x with moltTx := some sp, wantTx := false }
  else s.moltTxDone k sp false

/-- Molt the RX direction of lane k (R156, R157). -/
def State.moltRx (s : State) (k : Nat) : State :=
  let l := s.logRx k
  let sp := spareOf l
  if l = 0xFF || (s.lane k).moltRx.isSome then s
  else if s.restarting then s.defer (.laneRx k)
  else if ! s.spareRx sp then s.laneLost l 1 k
  else if s.rxState k = lsActive then
    let t := s.txOf k
    (s.laneReq t t 4 [1, l, sp, k]).updLane k fun x => { x with moltRx := some sp, wantRx := false }
  else s.moltRxDone k sp false

/-- Host molts that waited for ACTIVE or a training failure. -/
def State.wantedMolts (s : State) (t : Nat) : State :=
  let r := s.rxOf t
  let s := if (s.lane r).wantRx then (s.updLane r fun x => { x with wantRx := false }).moltRx r else s
  if (s.lane t).wantTx then (s.updLane t fun x => { x with wantTx := false }).moltTx t else s

/-- The pair goes out of service without a molt (R145, R150). -/
def State.pairOut (s : State) (t kind : Nat) : State :=
  let l := s.logTx t
  let r := s.rxOf t
  let s := ((s.laneOff (VLANE_STATE_TX_STATE t)).laneOff (VLANE_STATE_RX_STATE r)).updLane t fun x => { x.retrained with
    wantTx := false, wantRx := false }
  s.loseLane l (some kind)

/-- The cause of a failed attempt (R150): 1 RX, 2 TX, 3 PEER. TX needs valid TA, and nothing else, seen throughout LOCK.
An attempt that fits no row of R150's table (RX locked, TB seen, no complete exchange) counts as RX (DESIGN CHOICE,
log 147). -/
def Lane.failCause (x : Lane) : Nat :=
  if x.mismatch then 3 else if ! x.bitLock || ! x.symLock || x.badCrc then 1 else if x.sawTa && ! x.sawTb then 2 else 1

/-- An attempt of the pair of TX lane t fails (R147, R150). -/
def State.attemptFails (s : State) (t : Nat) : State :=
  let cause := (s.lane t).failCause
  let l := s.logTx t
  let n := s.rd (VLANE_STATE_ATTEMPTS t) + 1
  let s := (s.toDetect t).put (VLANE_STATE_ATTEMPTS t) n
  if n < 3 then s.wantedMolts t
  else
    let s := ((s.on (VLANE_EVENT_TRAIN_FAIL t)).put (VLANE_STATE_FAIL_CAUSE t) cause).raiseKD (srcLane t) 0x20 0
      (cause * 256 + l)
    if cause = 3 then s.pairOut t 0x20
    else
      let s := s.put (VLANE_STATE_ATTEMPTS t) 0
      if l = 0xFF then s
      else if cause = 1 then s.moltRx (s.rxOf t) else s.moltTx t

/-- Byte i of a capability block (R148, R264). -/
def blockByte (b : BitVec 128) (i : Nat) : Nat := bits b.toNat (8 * i) 8

/-- What a training set does to a side in LOCK (R146, R147); each set received stands for one the cube has sent. -/
def Lane.onSet (x : Lane) (tb valid good : Bool) : Lane :=
  let x := { x with tbSent := if x.symLock then x.tbSent + 1 else x.tbSent }
  if ! valid then { x with sets := 0, tbs := 0 }
  else { x with
    sets := x.sets + 1, symLock := x.symLock || 4 ≤ x.sets + 1
    sawTa := x.sawTa || ! tb, sawTb := x.sawTb || tb, mismatch := x.mismatch || (tb && ! good)
    tbs := if tb && good then x.tbs + 1 else 0 }

/-- Does LOCK lead to EXCHANGE (R147)? -/
def Lane.tbDone (x : Lane) : Bool := x.symLock && 8 ≤ x.tbs && 16 ≤ x.tbSent

/-- A valid block has been received, and one more sent (R148). -/
def Lane.onBlock (x : Lane) (b : BitVec 128) : Lane := { x with block := some b, blocks := x.blocks + 1 }

/-- Does block b complete EXCHANGE: identical to the one before, and four sent (R148)? -/
def Lane.exchanged (x : Lane) (b : BitVec 128) : Bool := x.block = some b && 4 ≤ x.blocks + 1

/-- The pair enters ACTIVE, or STANDBY for a spare (R140, R145, R148, R151). -/
def State.enterActive (s : State) (t : Nat) (b : BitVec 128) : State :=
  let s := s.updLane t fun x => { x with sent := 0, freed := 0, discards := 0 }
  let s := s.each (s.trainTxs t) fun s k => s.sendOn k (.frame { typ := 0, seq := (s.lane k).seq })
  let s := ((s.put (VLANE_CREDIT_POOL t) (blockByte b 6)).laneAvail t).put (VLANE_PEER_VERSION t) (blockByte b 0)
  let s := (s.put (VLANE_PEER_P_SUPPORT t) (blockByte b 4 % 8)).put (VLANE_PEER_FAR_LB t) (blockByte b 5 % 2)
  if s.logTx t = 0xFF then s.pairState t lsStandby
  else
    let s := ((s.pairState t lsActive).on (VLANE_EVENT_TRAINED t)).laneConfig t
    s.wantedMolts t

/-! Error windows (R154) -/

/-- The errors that still lie in the window. -/
def recent (now w : Nat) (l : List (Nat × Nat)) : List (Nat × Nat) := l.filter fun t => now < t.1 + w

/-- How many errors a window holds. -/
def errCount (l : List (Nat × Nat)) : Nat := l.foldl (fun n x => n + x.2) 0

/-- An error of the RX direction of lane k. -/
def State.rxError (s : State) (k : Nat) : State :=
  let w := max 1 (s.rd (VLANE_CFG_ERR_WINDOW_US k))
  let es := recent s.now w (s.lane k).rxErrs ++ [(s.now, 1)]
  let lim := s.rd (VLANE_CFG_ERR_LIMIT k)
  let s := s.updLane k fun x => { x with rxErrs := es }
  if lim ≠ 0 && lim < errCount es && (s.lane k).moltRx.isNone then
    ((s.on (VLANE_EVENT_ERR_RATE k)).raiseKD (srcLane k) 0x21 0 (256 + s.logRx k)).updLane k (fun x => { x with
      rxErrs := [] }) |>.moltRx k
  else s

/-- n errors of the TX direction of lane k. -/
def State.txError (s : State) (k n : Nat) : State :=
  let w := max 1 (s.rd (VLANE_CFG_ERR_WINDOW_US k))
  let lim := s.rd (VLANE_CFG_ERR_LIMIT k)
  let es := recent s.now w (s.lane k).txErrs ++ [(s.now, n)]
  let s := s.updLane k fun x => { x with txErrs := es }
  if lim ≠ 0 && lim < errCount es && (s.lane k).moltTx.isNone then
    ((s.on (VLANE_EVENT_ERR_RATE k)).raiseKD (srcLane k) 0x21 0 (s.logTx k)).updLane k (fun x => { x with
      txErrs := [] }) |>.moltTx k
  else s

/-! Pauses and modes -/

/-- Does a lane state belong to a direction in service that has left DETECT? -/
def lsBusy (st : Nat) : Bool := lsDetect < st && st ≠ lsOff

/-- The data plane pauses (R158): every TX lane goes to electrical idle and every pair leaves for DETECT. -/
def State.lanesPause (s : State) : State :=
  s.each ((upFrom 0 100).filter fun k => s.leads k && (lsBusy (s.txState k) || lsBusy (s.rxState (s.rxOf k))))
    fun s k => s.retrainPair k

/-- Link training of start-up begins (R148): every pair in RESET goes to DETECT. -/
def State.lanesBringUp (s : State) : State :=
  s.each ((upFrom 0 100).filter fun k => s.leads k && s.txState k = 0) fun s k => s.retrainPair k

/-- The pairs that the lane block k serves: of its TX lane and of its RX lane, and where one of them is free, of the other
(R130). -/
def State.blockPairs (s : State) (k : Nat) : List Nat :=
  let r := (s.trainOf k).getD k
  if ! s.leads k then [r] else if s.logRx k = 0xFF || r = k then [k] else [k, r]

/-- Does a partition in RUN bind logical lane L? -/
def State.laneInRun (s : State) (l : Nat) : Bool :=
  match s.lanePart l with
  | some p => s.pmode p = modeRun
  | none => false

end Sys2Proof.Machine
end

