-- ==== Sys2Proof/Machine/LaneCmd.lean ====
section
/-! DEFINITION. The commands of the vector lanes (chapter 07). Lane numbers are physical: a TX command names the TX lane,
a received frame its RX lane. The arrival of a timer's command stands for the time that has passed. -/
namespace Sys2Proof.Machine
open Csr

/-- May TX lane k send data now: its engine, slot and next frame (R117, R140, R145, R155)? -/
def State.txReady (s : State) (k : Nat) : Option (Nat × Nat × NextFrame) :=
  let x := s.lane k
  if s.paused || s.txState k ≠ lsActive || x.cfgTag.isSome || x.moltTx.isSome || x.lb.isSome ||
      s.rd (VLANE_CREDIT_AVAIL k) = 0 then none
  else match s.laneOwner (s.logTx k) with
    | none => none
    | some (e, n) =>
      match s.engPart e with
      | none => none
      | some p =>
        if s.throttled p || s.engState e = 5 || s.engState e = 6 then none
        else (Staging.next (s.stg e) (s.engM e) n).map fun f => (e, n, f)

/-- Pack a frame's payload bytes. -/
def packPayload (bs : List Byte) : BitVec 1024 := BitVec.ofNat 1024 (leNat bs)

/-- The lane sends its slot's next frame (R117, R119, R136, R140). -/
def State.sendData (s : State) (k e n : Nat) (f : NextFrame) : State :=
  let x := s.lane k
  let fr := { typ := 1, count := f.cycles.length, vt := f.vt % 2 ^ 24, seq := x.seq,
              payload := packPayload (payload f.cycles (s.engP e) n) : Frame }
  let s := if s.reached f.vt then (s.inc (ENG_STG_COUNT_LATE e)).on (ENG_STG_STATUS_LATE e) else s
  let s := ((s.updLane k fun x => { x.send (.frame fr) with seq := (x.seq + 1) % 16, sent := x.sent + 1 }).laneAvail
    k).inc (VLANE_TX_FRAMES_COUNT k)
  s.sentFrame e n f

/-- The lane sends an idle frame (R136). -/
def State.sendIdle (s : State) (k : Nat) : State := s.sendOn k (.frame { typ := 0, seq := (s.lane k).seq })

/-- A lane in LOOPBACK sends its next test frame while the test has one, an idle frame else; in near-end parallel mode the
test frame turns back before the line, which carries idle frames on (R152). -/
def State.sendTest (s : State) (k : Nat) : State :=
  match (s.lane k).lb with
  | some l =>
    if l.frames ≠ 0 && l.frames ≤ l.sent then s.sendIdle k
    else
      let r := l.next
      let s := s.updLane k fun x => { x with lb := some r.2 }
      if l.mode = 0 then s.sendIdle k else s.sendOn k (.frame { typ := 3, seq := (s.lane k).seq, payload := r.1 })
  | none => s.sendIdle k

/-- TX_DATA_FRAME (R117, R122). The upsets are bits of the row's stored cycles that flip before it is read (R129). -/
def execTxDataFrame (k : Fin 100) (upsets : List (Nat × BitVec 256 × BitVec 56)) (s : State) : Outcome :=
  .next (
    let s := match s.txReady k with
      | none => s
      | some (e, _, f) => s.stgUpset e f.row.num upsets
    match s.txReady k with
    | none => s
    | some (e, n, f) =>
      match s.replayEcho e f with
      | none => (s.echoFull e f.cycles.length).sendIdle k
      | some s => s.sendData k e n f)

/-- TX_IDLE_FRAME (R136, R152): only where no data frame can go; in LOOPBACK a test frame. -/
def execTxIdleFrame (k : Fin 100) (s : State) : Outcome :=
  .next (if s.paused || (s.lane k).gatedIdle then s
    else if s.txState k = lsLoopback || (s.txState k = lsStandby && (s.lane k).lb.isSome) then s.sendTest k
    else if s.txState k ≠ lsActive && s.txState k ≠ lsStandby then s
    else match s.txReady k with
      | none => s.sendIdle k
      | some (e, _, f) => if (s.replayEcho e f).isSome then s else (s.echoFull e f.cycles.length).sendIdle k)

/-- May a frame on RX lane k be acted on: the lane is ACTIVE and the data plane runs? -/
def State.rxLive (s : State) (k : Nat) : Bool := ! s.paused && s.rxState k = lsActive

/-- A valid frame arrived on RX lane k: its header's CREDIT counts (R140). -/
def State.rxHeader (s : State) (k credit : Nat) : State :=
  (s.updLane k fun x => { x with noComma := 0 }).laneCredit (s.txOf k) credit

/-- Content that is ignored (R144). -/
def State.rxIgnore (s : State) (k : Nat) : State := s.inc (VLANE_RX_IGNORED_COUNT k)

/-- A frame is discarded for its CRC or header (R136, R153). -/
def State.rxCrc (s : State) (k : Nat) : State :=
  ((s.inc (VLANE_RX_ERR_CRC k)).updLane k fun x => { x with noComma := 0 }).rxError k

/-- The 48-bit Vector Time of a 24-bit field (R138). -/
def vtRebuild (now field : Nat) : Nat :=
  let base := (now + 2 ^ 48 - 2 ^ 23) % 2 ^ 48
  vtAdd base ((field + 2 ^ 24 - base % 2 ^ 24) % 2 ^ 24)

/-- C of RX lane k: 256 / P of the partition that binds it; 64 where none does (DEDUCED, log 54). -/
def State.rxC (s : State) (k : Nat) : Nat :=
  match s.lanePart (s.logRx k) with
  | some p => 256 / s.pPart p
  | none => 64

/-- RX_DATA_FRAME (R136, R138, R142, R165). -/
def execRxDataFrame (k : Fin 100) (count : BitVec 8) (vt : BitVec 24) (credit : BitVec 4) (payload : BitVec 1024)
    (s : State) : Outcome :=
  .next (if ! s.rxLive k then s
    else if s.rxC k < count.toNat then s.rxCrc k
    else if count = 0 then s.rxHeader k credit.toNat
    else
      let s := (s.rxHeader k credit.toNat).inc (VLANE_RX_FRAMES_COUNT k)
      s.capFrame (s.logRx k) (vtRebuild s.vt.vt vt.toNat) count.toNat fun i => bits payload.toNat (4 * i) 4)

/-- RX_IDLE_FRAME (R140). -/
def execRxIdleFrame (k : Fin 100) (credit : BitVec 4) (s : State) : Outcome :=
  .next (if s.rxLive k then s.rxHeader k credit.toNat else s)

/-- RX_FRAME_ERROR (R153): the frame is discarded and counted; the fourth in a row without K28.5 loses the lock. -/
def execRxFrameError (k : Fin 100) (why : RxError) (s : State) : Outcome :=
  .next (if ! s.rxLive k then s
    else match why with
      | .crc => s.rxCrc k
      | .code => ((s.inc (VLANE_RX_ERR_CODE k)).updLane k fun x => { x with noComma := 0 }).rxError k
      | .align =>
        let s := (s.inc (VLANE_RX_ERR_ALIGN k)).updLane k fun x => { x with noComma := x.noComma + 1 }
        let s := if (s.lane k).noComma = 4 then
            ((s.inc (VLANE_RX_ERR_LOCK_LOSS k)).on (VLANE_EVENT_LOCK_LOST k)).updLane k (fun x => { x with
              noComma := 0 }) |>.rxError k
          else s
        s.rxError k)

/-- CONFIG_ACK (R145). -/
def execConfigAck (k : Fin 100) (tag status : BitVec 8) (credit : BitVec 4) (s : State) : Outcome :=
  .next (if ! s.rxLive k then s
    else
      let s := s.rxHeader k credit.toNat
      let t := s.txOf k
      match (s.lane t).answered 1 tag.toNat with
      | none => s.rxIgnore k
      | some r =>
        let s := s.updLane t fun x => { x.drop r with cfgTag := if x.cfgTag = some tag.toNat then none else x.cfgTag }
        if status = 0 then s
        else ((s.on (VLANE_EVENT_CONFIG_REFUSED t)).raiseKD (srcLane t) 0x23 0 status.toNat).pairOut t 0x23)

/-- The pair of TX lane t shows LOOPBACK while one runs, ACTIVE afterwards; a spare pair that a slice tests stays in STANDBY, free
for a molt (DESIGN CHOICE, log 192). -/
def State.lbState (s : State) (t st : Nat) : State := if s.logTx t = 0xFF then s else s.pairState t st

/-- A loopback begins: its counts restart and the pair shows LOOPBACK (R152). -/
def State.lbRun (s : State) (t : Nat) : State :=
  ((((s.put (VLANE_LB_FRAMES t) 0).put (VLANE_LB_ERRORS t) 0).on (VLANE_EVENT_LB_RUNNING t)).lbState t
    lsLoopback).updLane t fun x => { x with lb := x.lb.map fun l => { l with waiting := false } }

/-- Are the pads of RX lane k heard in a loopback: in the near-end modes they are not (R152)? -/
def State.padsHeard (s : State) (k : Nat) : Bool :=
  s.rxState k = lsLoopback && (s.lane (s.txOf k)).lb.any fun l => l.mode = 2

/-- LOOPBACK_ACK (R152): the loopback proceeds, or its start is refused. -/
def execLoopbackAck (k : Fin 100) (tag status : BitVec 8) (credit : BitVec 4) (s : State) : Outcome :=
  .next (if s.paused || (s.rxState k ≠ lsActive && ! s.padsHeard k) then s
    else
      let s := s.rxHeader k credit.toNat
      let t := s.txOf k
      match (s.lane t).answered 2 tag.toNat with
      | none => s.rxIgnore k
      | some r =>
        let s := s.updLane t fun x => x.drop r
        match (s.lane t).lb with
        | some l =>
          if ! l.waiting then s
          else if status = 0 then s.lbRun t
          else (s.updLane t fun x => { x with lb := none }).on (VLANE_EVENT_CMD_REFUSED t)
        | none => s)

/-- CREDIT_SYNC (R141): TOTAL replaces the count of freed buffers; a TOTAL that no count of frames sent explains is
ignored, and so is a credit in its header. -/
def execCreditSync (k : Fin 100) (tag : BitVec 8) (total : BitVec 16) (credit : BitVec 4) (s : State) : Outcome :=
  .next (if ! s.rxLive k then s
    else
      let s := s.updLane k fun x => { x with noComma := 0 }
      let s := if credit = 0 then s else s.rxIgnore k
      let t := s.txOf k
      let s := match (s.lane t).answered 3 tag.toNat with
        | some r => s.updLane t fun x => x.drop r
        | none => s
      let x := s.lane t
      let out := (x.sent + 65536 - total.toNat) % 65536
      if s.rd (VLANE_CREDIT_POOL t) < out || x.sent < out then s.rxIgnore k
      else
        let s' := (s.updLane t fun x => { x with freed := x.sent - out }).laneAvail t
        if x.sent - out = x.freed then s' else s'.inc (VLANE_CREDIT_FIX t))

/-- MOLT has been answered: the molt of TX lane t, of RX lane j, to its spare; where the spare has left STANDBY meanwhile
the molt is sought anew (R157; DEDUCED, log 187). -/
def State.moltTxAnswered (s : State) (t sp : Nat) : State :=
  if s.txState sp = lsStandby then s.moltTxDone t sp true
  else (s.updLane t fun x => { x with moltTx := none }).moltTx t
def State.moltRxAnswered (s : State) (j sp : Nat) : State :=
  if s.rxState sp = lsStandby then s.moltRxDone j sp true
  else (s.updLane j fun x => { x with moltRx := none }).moltRx j

/-- MOLT_ACK (R155, R156): on RX logical L for a TX molt, on the spare for an RX molt. -/
def execMoltAck (k : Fin 100) (tag status : BitVec 8) (credit : BitVec 4) (s : State) : Outcome :=
  .next (if s.paused then s
    else match (upFrom 0 100).find? (fun j => (s.lane j).moltRx = some k.val) with
      | some j =>
        let t := s.txOf j
        match (s.lane t).answered 4 tag.toNat with
        | some r => if status = 0 then
            ((s.updLane t fun x => x.drop r).moltRxAnswered j k).rxHeader k credit.toNat else s
        | none => s.rxIgnore k
      | none =>
        if s.rxState k ≠ lsActive then s
        else
          let s := s.rxHeader k credit.toNat
          let t := s.txOf k
          match (s.lane t).answered 4 tag.toNat, (s.lane t).moltTx with
          | some r, some sp => if status = 0 && r.args.headD 1 = 0 then (s.updLane t fun x => x.drop r).moltTxAnswered t sp
            else s
          | _, _ => s.rxIgnore k)

/-- STATUS (R144, R154): recorded; the increase of TX_DISCARDS counts as TX errors. -/
def execPeerStatus (k : Fin 100) (tag : BitVec 8) (late discards gaps : BitVec 32) (credit : BitVec 4) (s : State) :
    Outcome :=
  .next (if ! s.rxLive k then s
    else
      let s := s.rxHeader k credit.toNat
      let t := s.txOf k
      let s := match (s.lane t).answered 5 tag.toNat with
        | some r => s.updLane t fun x => x.drop r
        | none => s
      let s := ((s.put (VLANE_PEER_LATE_LATE_CYCLES t) late.toNat).put (VLANE_PEER_ERR_TX_DISCARDS t)
        discards.toNat).put (VLANE_PEER_ERR_SEQ_GAPS t) gaps.toNat
      let n := (discards - BitVec.ofNat 32 (s.lane t).discards).toNat
      let s := s.updLane t fun x => { x with discards := discards.toNat }
      if n = 0 then s else s.txError t n)

/-- RX_CONTENT_IGNORED (R144). -/
def execRxContentIgnored (k : Fin 100) (credit : BitVec 4) (s : State) : Outcome :=
  .next (if s.rxLive k then (s.rxHeader k credit.toNat).rxIgnore k else s)

/-- Every unanswered request of the pair is sent again, the oldest first, up to 64 sends each (R143). -/
def State.vlaneResend (s : State) (k : Nat) : State :=
  let seq := (s.lane k).seq
  let rs := (s.lane k).reqs.filter fun r => r.sends < 64
  let s := s.updLane k fun x => { x with
    reqs := x.reqs.map fun y => if y.sends < 64 then { y with sends := y.sends + 1 } else y }
  s.each rs fun s r => s.sendOn r.on (.frame (r.frame seq))

/-- A request sent 64 times has no answer (R143). -/
def State.vlaneCtrlTimeout (s : State) (k : Nat) : State :=
  match (s.lane k).reqs.find? (fun r => 64 ≤ r.sends) with
  | none => s
  | some r => ((s.on (VLANE_EVENT_CTRL_TIMEOUT k)).raiseKD (srcLane k) 0x22 0 r.op).retrainPair k

/-- Termination and signal found (R147, R149): the pair trains; a pair that was absent is alive again. -/
def State.vlaneDetect (s : State) (k : Nat) : State :=
  if s.txState k ≠ lsDetect || ! s.leads k || s.rxState (s.rxOf k) = lsOff || (s.lane k).gatedIdle then s
  else
    let s := (s.pairState k lsTrain).sendSet k false
    if s.flag (VLANE_STATE_ABSENT k) then (s.off (VLANE_STATE_ABSENT k)).gainLane (s.logTx k) else s

/-- Bit lock in TRAIN (R147). -/
def State.vlaneBitLock (s : State) (t : Nat) : State :=
  if s.txState t ≠ lsTrain then s
  else ((s.pairState t lsLock).updLane t fun x => { x with bitLock := true }).sendSet t false

/-- A training set in LOCK (R146, R147): the cube sends one in turn, TA until it has symbol lock, then TB; training frames
where LOCK is over. -/
def State.vlaneSet (s : State) (t : Nat) (tb valid : Bool) (cubeId logical : Nat) : State :=
  if s.txState t ≠ lsLock then s
  else
    let s := if valid then s.put (VLANE_PEER_ECHO_LOG t) logical else s
    let s := s.sendSet t (s.lane t).symLock
    let s := s.updLane t fun x => x.onSet tb valid (cubeId = s.pins.straps % 8 && logical = s.logTx t)
    if (s.lane t).tbDone then (s.pairState t lsExchange).sendBlock t else s

/-- Does a received block fail the attempt (R148)? -/
def vlaneBlockBad (b : BitVec 128) : Bool :=
  blockByte b 0 ≠ 1 || blockByte b 6 < 8 || 200 < blockByte b 6 || blockByte b 4 % 8 = 0

/-- A capability block in EXCHANGE (R148). -/
def State.vlaneBlock (s : State) (t : Nat) (b : BitVec 128) : State :=
  if vlaneBlockBad b then (s.updLane t fun x => { x with mismatch := true }).attemptFails t
  else
    let done := (s.lane t).exchanged b
    let s := s.updLane t fun x => x.onBlock b
    if done then s.enterActive t b else s.sendBlock t

/-- A returned test frame of a running loopback is compared with the one sent (R152). -/
def State.lbFrame (s : State) (t : Nat) (valid : Bool) (payload : BitVec 1024) : State :=
  match (s.lane t).lb with
  | some l =>
    match l.flying with
    | [] => s
    | f :: rest =>
      let s := s.inc (VLANE_LB_FRAMES t)
      let s := if valid && payload = f then s else s.inc (VLANE_LB_ERRORS t)
      s.updLane t fun x => { x with lb := some { l with flying := rest, done := l.done + 1 } }
  | none => s

/-- A training frame on RX lane k (R144, R148, R152, R153): a capability block in EXCHANGE, a returned test frame in a
loopback; in ACTIVE ignored content, or a frame discarded for its CRC. -/
def State.vlaneTrainFrame (s : State) (k : Nat) (valid : Bool) (payload : BitVec 1024) : State :=
  match s.trainOf k with
  | none => s
  | some t =>
    if s.txState t = lsExchange then
      if valid then s.vlaneBlock t (payload.setWidth 128)
      else (s.updLane t fun x => { x with badCrc := true, block := none, blocks := x.blocks + 1 }).sendBlock t
    else if s.txState t = lsLoopback || s.txState t = lsStandby then s.lbFrame t valid payload
    else if ! s.rxLive k then s
    else if valid then (s.rxIgnore k).updLane k fun x => { x with noComma := 0 }
    else s.rxCrc k

/-- The training state's time is up (R147, R150). -/
def State.vlaneTimeout (s : State) (k : Nat) : State :=
  if inRange (s.txState k) lsTrain lsActive && s.leads k then s.attemptFails k else s

/-- LANE_ABSENT (R149): no detection within 5 ms of the start of bring-up. -/
def execLaneAbsent (k : Fin 100) (s : State) : Outcome :=
  .next (if s.paused || s.txState k ≠ lsDetect || ! s.leads k || s.rxState (s.rxOf k) = lsOff ||
      s.flag (VLANE_STATE_ABSENT k) then s
    else ((s.on (VLANE_STATE_ABSENT k)).log 0x010B (srcLane k) (s.logTx k)).loseLane (s.logTx k) none)

/-- RETRAIN of VLANE_CTRL (R147): refused where TX lane k is out of service or in reset. -/
def State.vlaneRetrain (s : State) (k : Nat) : State :=
  if s.paused || ! s.leads k || s.txState k = 0 || s.txState k = lsOff then s.on (VLANE_EVENT_CMD_REFUSED k)
  else s.retrainPair k

/-- MOLT_TX of VLANE_CTRL (R157); on a lane in training it waits. -/
def State.vlaneMoltTx (s : State) (k : Nat) : State :=
  if s.logTx k = 0xFF || s.txState k = 0 || s.txState k = lsOff then s.on (VLANE_EVENT_CMD_REFUSED k)
  else if s.txState k = lsActive then s.moltTx k
  else s.updLane k fun x => { x with wantTx := true }

/-- MOLT_RX of VLANE_CTRL (R157). -/
def State.vlaneMoltRx (s : State) (k : Nat) : State :=
  if s.logRx k = 0xFF || s.rxState k = 0 || s.rxState k = lsOff then s.on (VLANE_EVENT_CMD_REFUSED k)
  else if s.rxState k = lsActive then s.moltRx k
  else s.updLane k fun x => { x with wantRx := true }

/-- A loopback of the pair of TX lane k is set up: in near-end parallel mode it runs at once, in the others the companion is
asked (R152). -/
def State.lbOpen (s : State) (k mode frames : Nat) : State :=
  let seed := s.draw (2 ^ 31 - 1)
  let s := seed.2.updLane k fun x => { x with
    lb := some { mode := mode, frames := frames, waiting := mode ≠ 0, prbs := seed.1 + 1 } }
  if mode = 0 then s.lbRun k else s.laneReq k k 2 [if mode = 2 then 1 else 2]

/-- LB_START of VLANE_CTRL (R152). -/
def State.vlaneLbStart (s : State) (k mode frames : Nat) : State :=
  if s.txState k ≠ lsActive || s.rxState (s.rxOf k) ≠ lsActive || s.laneInRun (s.logTx k) || mode = 3 || s.paused ||
      (mode = 2 && ! s.flag (VLANE_PEER_FAR_LB k)) || (s.lane k).lb.isSome then s.on (VLANE_EVENT_CMD_REFUSED k)
  else s.lbOpen k mode frames

/-- The loopback ends (R152): exit request where the companion takes part, CREDIT_QUERY, LB_DONE, LB_FAIL. A LANE_CONFIG
that an apply owes goes out (R145), and a molt that the host asked for meanwhile begins (R157). -/
def State.lbEnd (s : State) (k : Nat) : State :=
  match (s.lane k).lb with
  | none => s
  | some l =>
    let s := ((s.off (VLANE_EVENT_LB_RUNNING k)).lbState k lsActive).updLane k fun x => { x with lb := none }
    let s := if l.mode = 0 then s else s.laneReq k k 2 [0]
    let s := (s.when (s.logTx k ≠ 0xFF) fun s => s.creditQuery k).on (VLANE_EVENT_LB_DONE k)
    let s := if s.rd (VLANE_LB_ERRORS k) = 0 then s else s.on (VLANE_EVENT_LB_FAIL k)
    let s := if (s.lane k).rebound then (s.updLane k fun x => { x with rebound := false }).laneConfig k else s
    s.wantedMolts k

/-- LB_STOP of VLANE_CTRL (R152); without a loopback it does nothing; one whose request waits for its answer is called off
with an exit request (DESIGN CHOICE, log 204). -/
def State.vlaneLbStop (s : State) (k : Nat) : State :=
  match (s.lane k).lb with
  | none => s
  | some l =>
    if l.waiting then (s.updLane k fun x => { x with lb := none, reqs := x.reqs.filter fun r => r.op ≠ 2 }).laneReq k k 2 [0]
    else s.lbEnd k

/-- RETRAIN (R147). -/
def execLaneRetrain (k : Fin 100) (s : State) : Outcome := .next (s.clocked (srcLane k) fun s => s.vlaneRetrain k)
/-- MOLT_TX (R157). -/
def execMoltTx (k : Fin 100) (s : State) : Outcome := .next (s.clocked (srcLane k) fun s => s.vlaneMoltTx k)
/-- MOLT_RX (R157). -/
def execMoltRx (k : Fin 100) (s : State) : Outcome := .next (s.clocked (srcLane k) fun s => s.vlaneMoltRx k)
/-- LB_START (R152). -/
def execLbStart (k : Fin 100) (mode : BitVec 2) (frames : BitVec 16) (s : State) : Outcome :=
  .next (s.clocked (srcLane k) fun s => s.vlaneLbStart k mode.toNat frames.toNat)
/-- LB_STOP (R152). -/
def execLbStop (k : Fin 100) (s : State) : Outcome := .next (s.clocked (srcLane k) fun s => s.vlaneLbStop k)

/-- LOOPBACK_COMPLETE (R152): LB_FRAMES test frames have been compared. -/
def execLoopbackComplete (k : Fin 100) (s : State) : Outcome :=
  .next (match (s.lane k).lb with
    | some l => if ! l.waiting && l.frames ≠ 0 && l.frames ≤ l.done then s.lbEnd k else s
    | none => s)

end Sys2Proof.Machine
end

