-- ==== Sys2Proof/Machine/HlinkOps.lean ====
section
/-! DEFINITION. What the host link's commands share (chapter 13): lanes, bring-up, link frames and replay, packets sent,
the halt of host DMA, pauses. -/
namespace Sys2Proof.Machine
open Csr

/-- Change the host link. -/
def State.updHl (s : State) (f : Hlink → Hlink) : State := { s with hl := f s.hl }

/-- Host-link lane n. -/
def State.hlane (s : State) (n : Nat) : Lane := s.hl.lanes.getD n {}

/-- Change host-link lane n. -/
def State.updHlane (s : State) (n : Nat) (f : Lane → Lane) : State :=
  s.updHl fun h => { h with lanes := h.lanes.setIfInBounds n (f (h.lanes.getD n {})) }

/-- Is the link UP? -/
def State.linkUp (s : State) : Bool := s.rd HLINK_STATUS_STATE = 2

/-- State of TX and RX lane n, and the logical lanes they carry. -/
def State.hTx (s : State) (n : Nat) : Nat := s.rd (HLINK_LANE_TX_STATE n)
def State.hRx (s : State) (n : Nat) : Nat := s.rd (HLINK_LANE_RX_STATE n)
def State.hLogTx (s : State) (n : Nat) : Nat := s.rd (HLINK_LANE_LOG_TX n)
def State.hLogRx (s : State) (n : Nat) : Nat := s.rd (HLINK_LANE_LOG_RX n)

/-- The TX lane of the pair that RX lane r belongs to. -/
def State.hTxOf (s : State) (r : Nat) : Nat :=
  if s.hLogRx r = 0xFF then r else ((upFrom 0 9).find? fun k => s.hLogTx k = s.hLogRx r).getD r

/-- The RX lane of the pair that TX lane t belongs to. -/
def State.hRxOf (s : State) (t : Nat) : Nat :=
  if s.hLogTx t = 0xFF then t else ((upFrom 0 9).find? fun k => s.hLogRx k = s.hLogTx t).getD t

/-- Does TX lane k lead a pair: it carries a logical lane, or both directions of its lane are free? -/
def State.hLeads (s : State) (k : Nat) : Bool := s.hLogTx k ≠ 0xFF || s.hLogRx k = 0xFF

/-- Is TX lane k, or RX lane k, a free direction whose other direction carries a logical lane? It trains with that
direction's pair and waits in STANDBY (DEDUCED from R151, log 146). -/
def State.hLoneTx (s : State) (k : Nat) : Bool := s.hLogTx k = 0xFF && s.hLogRx k ≠ 0xFF && s.hTx k ≠ lsOff
def State.hLoneRx (s : State) (k : Nat) : Bool := s.hLogRx k = 0xFF && s.hLogTx k ≠ 0xFF && s.hRx k ≠ lsOff

/-- The TX lane of the pair that trains over RX lane r; none where r is OFF or a free direction that follows. -/
def State.hTrainOf (s : State) (r : Nat) : Option Nat :=
  if s.hRx r = lsOff || (s.hLogRx r = 0xFF && s.hLogTx r ≠ 0xFF) then none else some (s.hTxOf r)

/-- Put a pair into a state; a direction that is OFF stays OFF. Free directions of its two lanes follow, but wait in
STANDBY where the pair is ACTIVE. -/
def State.hPair (s : State) (t st : Nat) : State :=
  let r := s.hRxOf t
  let half := if st = lsActive then lsStandby else st
  let s := if s.hLoneRx t then s.put (HLINK_LANE_RX_STATE t) half else s
  let s := if s.hLoneTx r then s.put (HLINK_LANE_TX_STATE r) half else s
  let s := if s.hTx t = lsOff then s else s.put (HLINK_LANE_TX_STATE t) st
  if s.hRx r = lsOff then s else s.put (HLINK_LANE_RX_STATE r) st

/-- Host-link TX lane n sends. -/
def State.hSend (s : State) (n : Nat) (o : LineOut) : State := s.updHlane n fun x => x.send o

/-- The TX lanes that train with the pair of TX lane t. -/
def State.hTrainTxs (s : State) (t : Nat) : List Nat := if s.hLoneTx (s.hRxOf t) then [t, s.hRxOf t] else [t]

/-- The pair sends a training set; it carries the cube ID in effect (R264, R290). -/
def State.hSendSet (s : State) (t : Nat) (tb : Bool) : State :=
  s.each (s.hTrainTxs t) fun s k => s.hSend k (.set tb (s.hLogTx k) k (s.rd HLINK_STATUS_CUBE_ID))

/-- The cube's capability block (R264). -/
def hostBlock (logical physical : Nat) (fresh : Bool) : List Byte :=
  natLe 1 1 ++ natLe 1 0 ++ natLe 1 logical ++ natLe 1 physical ++ natLe 1 (b2n fresh) ++ natLe 1 3 ++ natLe 2 0 ++
    natLe 2 4096 ++ natLe 2 4096 ++ natLe 2 0 ++ natLe 2 0

/-- The working lanes of a direction, lowest first. -/
def State.hWorking (s : State) (tx : Bool) : List Nat :=
  (upFrom 0 9).filter fun n => (if tx then s.hTx n else s.hRx n) ≠ lsOff

/-- Does a working lane of each direction carry logical lane l? -/
def State.hCarried (s : State) (l : Nat) : Bool :=
  (s.hWorking true).any (fun n => s.hLogTx n = l) && (s.hWorking false).any fun n => s.hLogRx n = l

/-- The width the working lanes allow (R266): 8 where they carry logical lanes 0 to 7. -/
def State.hWidth (s : State) : Nat :=
  let n := min (s.hWorking true).length (s.hWorking false).length
  if (upFrom 0 8).all s.hCarried then 8 else if 4 ≤ n then 4 else 0

/-- SPARE_TX_USED and SPARE_RX_USED follow the maps. -/
def State.hSpares (s : State) : State :=
  (s.putb HLINK_STATUS_SPARE_TX_USED (s.hLogTx 8 ≠ 0xFF)).putb HLINK_STATUS_SPARE_RX_USED (s.hLogRx 8 ≠ 0xFF)

/-- Width 4 (R266): logical lanes 0 to 3 on the lowest-numbered working lanes of each direction, no other. -/
def State.hAssign4 (s : State) : State :=
  let of := fun (ws : List Nat) (n : Nat) => match findIx (fun x => x = n) ws with
    | some i => if i < 4 then i else 0xFF
    | none => 0xFF
  let txs := s.hWorking true
  let rxs := s.hWorking false
  (s.each (upFrom 0 9) fun s n => (s.put (HLINK_LANE_LOG_TX n) (of txs n)).put (HLINK_LANE_LOG_RX n) (of rxs n)).hSpares

/-- The link leaves UP: STATE, the event, WIDTH. -/
def State.hDown (s : State) (st : Nat) : State :=
  let s := if s.rd HLINK_STATUS_STATE = 2 then s.on HLINK_EVENT_DOWN else s
  (s.put HLINK_STATUS_STATE st).put HLINK_STATUS_WIDTH 0

/-- The molt's evidence (R272, R430): `dir` 0 cube RX, 1 cube TX. -/
def State.hMoltDone (s : State) (l dir old new : Nat) : State :=
  let s := (s.hSpares.on HLINK_EVENT_MOLT).log2 0x0110 (srcHlane old) (l + dir * 2 ^ 8 + old * 2 ^ 16)
    (l + dir * 2 ^ 8 + new * 2 ^ 16)
  s.linkEvent 2 (s.reg 0x300000).toNat (l + dir * 8 + old * 16 + new * 256) 0

/-- A molt whose answer is outstanding ends with the link: a TX molt has left its old lane already (R272). -/
def State.hMoltEnds (s : State) : State :=
  let s := match s.hl.molt with
    | some (_, l, old, true) => (s.put (HLINK_LANE_TX_STATE old) lsOff).hMoltDone l 1 old 8
    | _ => s
  s.updHl fun h => { h with molt := none }

/-- Every pair goes to DETECT, with the link-layer state kept (R265, R270, R293). -/
def State.hRetrain (s : State) : State :=
  let s := (s.hDown 1).hMoltEnds.updHl fun h => { h with out := none }
  let s := s.each ((upFrom 0 9).filter s.hLeads) fun s n => s.hPair n lsDetect
  s.each (upFrom 0 9) fun s n => s.updHlane n Lane.retrained

/-- Retrain with FRESH = 1 (R294). -/
def State.hRetrainFresh (s : State) : State := (s.updHl fun h => { h with fresh := true }).hRetrain

/-- The RESPONSE to a request (R275, R282). COUNT is that of the request where its bytes were accessed or stand for zero
(OK, BUSY), 0 where it was refused (DEDUCED, log 163). -/
def HReq.resp (q : HReq) (status addr : Nat) (data : List Byte) : Resp :=
  Resp.mk q.pkt.tag.toNat status q.pkt.csr addr (if status = 0 || status = 8 then q.pkt.count.toNat else 0) data

/-! Link frames (R261, R262, R267 to R269) -/

/-- The bytes of one link frame's payload. -/
def State.frameBytes (s : State) : Nat := 128 * max 4 (s.rd HLINK_STATUS_WIDTH)

/-- A link frame goes out: one lane frame on each logical lane of the width, payload byte b of lane l being byte
128 l + b (R261, R262). -/
def State.linkOut (s : State) (typ fseq : Nat) (bs : List Byte) : State :=
  let s := s.updHl fun h => { h with out := some { typ := typ, fseq := fseq, ack := h.ackOut, bytes := bs } }
  s.each ((upFrom 0 9).filter fun k => s.hLogTx k < max 4 (s.rd HLINK_STATUS_WIDTH) && s.hTx k ≠ lsOff) fun s k =>
    s.hSend k (.host { typ := typ, fseq := fseq, ack := s.hl.ackOut, lane := s.hLogTx k,
                       payload := BitVec.ofNat 1024 (leNat (slice bs (128 * s.hLogTx k) 128)) })

/-- The link frames a packet's bytes need. -/
def State.framesFor (s : State) (n : Nat) : Nat := ceilDiv n s.frameBytes

/-- Is there room in the replay buffer of 256 frames for n bytes (R268)? -/
def State.bufRoom (s : State) (n : Nat) : Bool := s.hl.buf.length + s.framesFor n ≤ 256

/-- An idle link frame: a payload of zeros, the FSEQ of the next data link frame (R262, R263). -/
def State.linkIdle (s : State) : State := s.linkOut 0 s.hl.txNext []

/-- The data link frames that bytes fill, from FSEQ f on: the payload size n, where RESPONSEs end, and the stream, filled up
with IDLE packets (R274). -/
def linkFrames (f n : Nat) (ends : List Nat) (bs : List Byte) : List TxLinkFrame :=
  (upFrom 0 (ceilDiv bs.length n)).map fun i => {
    fseq := (f + i) % 4096, bytes := slice bs (n * i) n
    ends := (ends.filter fun e => inRange e (n * i + 1) (n * i + n + 1)).map fun e => e - n * i }

/-- Send bytes as data link frames; each is kept for replay (R268). -/
def State.sendBytes (s : State) (bs : List Byte) (resp : Bool) : State :=
  s.each (linkFrames s.hl.txNext s.frameBytes (if resp then [bs.length] else []) bs) fun s f =>
    (s.updHl fun h => { h with buf := h.buf ++ [f], txNext := (h.txNext + 1) % 4096 }).linkOut 1 f.fseq f.bytes

/-- A packet: header, payload padded to 16 bytes, trailer with the CRC-32 (R275, R277). -/
def packet (typ tag len : Nat) (csr : Bool) (cube vc addr status flags count : Nat) (data : List Byte) : List Byte :=
  let h := natLe 1 typ ++ natLe 1 tag ++ natLe 2 len ++ natLe 1 (b2n csr + cube * 2 + vc * 16) ++ natLe 6 addr
    ++ natLe 1 status ++ natLe 2 flags ++ natLe 2 count
  let body := h ++ slice data 0 (16 * len)
  body ++ natLe 4 (crc32 body) ++ List.replicate 12 0

/-- Request a replay from the FSEQ expected (R269). -/
def State.askReplay (s : State) : State :=
  let s := (s.updHl fun h => { h with await := true }).inc HLINK_REPLAY_REQUESTED
  s.linkOut 2 s.hl.txNext (packet 8 0 0 false (s.rd HLINK_STATUS_CUBE_ID) 0 s.hl.rxNext 0 0 0 [])

/-- Number of data link frames from a to b, modulo 4096. -/
def fseqDiff (b a : Nat) : Nat := (b + 4096 - a % 4096) % 4096

/-- An ACK frees the replay buffer up to it (R268). -/
def State.linkAck (s : State) (ack : Nat) : State :=
  match findIx (fun f : TxLinkFrame => f.fseq = ack) s.hl.buf with
  | some i => s.updHl fun h => { h with buf := h.buf.drop (i + 1), acked := h.acked + i + 1 }
  | none => s

/-- Perform a replay from buffer position i (R269); a frame replayed 8 times storms (R270). -/
def State.doReplay (s : State) (i : Nat) : State :=
  let s := s.inc HLINK_REPLAY_SENT
  let s := s.updHl fun h => { h with buf := h.buf.take i ++ (h.buf.drop i).map fun f => { f with tries := f.tries + 1 } }
  let s := s.each (s.hl.buf.drop i) fun s f => s.linkOut 1 f.fseq f.bytes
  match s.hl.buf.find? (fun f => 8 ≤ f.tries) with
  | some f =>
    let s := s.updHl fun h => { h with buf := h.buf.map fun x => { x with tries := 0 } }
    let s := (s.on HLINK_EVENT_REPLAY_STORM).linkEvent 4 (s.reg 0x30000C).toNat f.fseq 0
    s.hRetrain
  | none => s

/-- The stream that is resent at a width change begins with the frame after the last one acknowledged: what lies before the
first packet not complete is skipped (R268, R273). -/
def RxStream.restart (x : RxStream) : RxStream :=
  { x with
    bytes := [], frames := []
    skip := match x.frames with | f :: _ => f.2.1 - f.2.2 | [] => x.skip }

/-- Where in the bytes of the replay buffer RESPONSEs end. -/
def bufEnds : List TxLinkFrame → List Nat
  | [] => []
  | f :: r => f.ends ++ (bufEnds r).map fun e => f.bytes.length + e

/-- Where the width differs from the one before, the unacknowledged bytes, with what fills up their frames, are repacked from
ACK + 1 on, by the host as by the cube (R273). -/
def State.hRepack (s : State) (width : Nat) : State :=
  if s.hl.lastWidth = width then s
  else
  let s := s.updHl fun h => { h with rxNext := (h.ackOut + 1) % 4096, rx := h.rx.restart }
  match s.hl.buf with
  | [] => s
  | f :: r =>
    let fs := linkFrames f.fseq (128 * width) (bufEnds (f :: r)) ((f :: r).flatMap fun x => x.bytes)
    s.updHl fun h => { h with buf := fs, txNext := (f.fseq + fs.length) % 4096 }

/-- FSEQ and ACK of a training frame (R262): the next data link frame of the pair of TX lane t starts afresh, or is the one
after those repacked for the width to come. -/
def State.hNextSeq (s : State) (t : Nat) : Nat × Nat :=
  if s.hl.fresh || (s.hlane t).block.any (fun b => blockByte b 4 % 2 = 1) then (0, 0xFFF)
  else if s.hWidth = 0 then (s.hl.txNext, s.hl.ackOut)
  else ((s.hRepack s.hWidth).hl.txNext, s.hl.ackOut)

/-- The pair sends a training frame with the capability block (R262, R264). -/
def State.hSendBlock (s : State) (t : Nat) : State :=
  s.each (s.hTrainTxs t) fun s k => s.hSend k (.host {
    typ := 3, fseq := (s.hNextSeq t).1, ack := (s.hNextSeq t).2, lane := s.hLogTx k,
    payload := BitVec.ofNat 1024 (leNat (hostBlock (s.hLogTx k) k s.hl.fresh)) })

/-! UP and FRESH (R265, R294) -/

/-- Both sides restart their link-layer state (R294); undelivered responses are discarded, as are packets that the packet layer
has not taken (DESIGN CHOICE, log 194). -/
def State.linkFresh (s : State) (b : BitVec 128) : State :=
  let lost := s.hl.rsp.length + (bufEnds s.hl.buf).length +
    (s.hl.waiting.filter fun q => q.kind ≠ .posted && ! q.stale).length
  let s := s.updHl fun h => { h with
    fresh := false, rxNext := 0, ackOut := 0xFFF, await := false, rx := {}, txNext := 0, buf := [], acked := 0, rsp := []
    waiting := h.waiting.map fun q => { q with stale := true }
    free0 := 4096, free1 := 4096, owe0 := 0, owe1 := 0
    cred2 := bits b.toNat 96 16, cred3 := bits b.toNat 112 16 }
  let s := (s.put HLINK_PEER_CRED_VC2 (bits b.toNat 96 16)).put HLINK_PEER_CRED_VC3 (bits b.toNat 112 16)
  (s.on HLINK_EVENT_FRESH).linkEvent 5 lost (s.reg 0x300000).toNat 0

/-- The LINK event about a width change goes out once the change is made: with the link UP at the new width, or DOWN for good
(R430; DEDUCED, log 197). -/
def State.widthEvent (s : State) : State :=
  if s.hl.widthEvt then (s.updHl fun h => { h with widthEvt := false }).linkEvent 3 (s.reg 0x300000).toNat 0 0 else s

/-- A good data or idle link frame has aligned: the link becomes UP when every logical lane of the width is ACTIVE in both
directions with identical blocks in bytes 4 to 15 (R265). The other direction's alignment shows at the host (DEDUCED,
log 162). It then sends idle link frames, or its REPLAY where its link-layer state was kept (R293). -/
def State.hTryUp (s : State) : State :=
  let w := s.hWidth
  let lane := fun (l : Nat) => (upFrom 0 9).find? fun k => s.hLogTx k = l
  let ok := fun (l : Nat) => match lane l with
    | some k => s.hTx k = lsActive && s.hRx (s.hRxOf k) = lsActive && (s.hlane k).block.isSome
    | none => false
  let key := fun (l : Nat) => match lane l with
    | some k => ((s.hlane k).block.map fun (b : BitVec 128) => b.toNat / 2 ^ 32)
    | none => none
  if s.paused || w = 0 || s.rd HLINK_STATUS_STATE = 2 then s
  else if ! ((upFrom 0 w).all fun l => ok l && key l = key 0) then s
  else
    -- start-up step 3 ends with the link UP (R402)
    let s := if s.devMode = modeBoot && s.rd GLOBAL_BOOT_STEP = 3 then s.put GLOBAL_BOOT_STEP 4 else s
    let s := ((((s.put HLINK_STATUS_STATE 2).put HLINK_STATUS_WIDTH w).put HLINK_STATUS_ATTEMPTS 0).on HLINK_EVENT_UP)
    match (lane 0).bind fun k => (s.hlane k).block with
    | none => s
    | some b =>
      let t := if s.hl.fresh || blockByte b 4 % 2 = 1 then (s.linkFresh b).linkIdle else (s.hRepack w).askReplay
      (t.updHl fun h => { h with lastWidth := w }).widthEvent

/-! Molts and lanes that fail (R271 to R273) -/

/-- The link retrains at the width that its lanes leave it, lane n of a direction among the causes (R266, R273). -/
def State.hNarrow (s : State) (n : Nat) : State :=
  let s := s.hMoltEnds
  let w := s.hWidth
  let s := if w = 8 then s else s.hAssign4
  let s := ((s.hRetrain.on HLINK_EVENT_WIDTH_CHANGE).raiseKD (srcHlane n) 0x58 0 w).updHl fun h => { h with widthEvt := true }
  if w = 0 then (s.hDown 0).widthEvent else s

/-- A lane fails with the spare in use (R273): it goes OFF and the link retrains at the width that is left. -/
def State.hLaneFails (s : State) (tx : Bool) (n : Nat) : State :=
  (s.put (if tx then HLINK_LANE_TX_STATE n else HLINK_LANE_RX_STATE n) lsOff).hNarrow n

/-- Send MOLT on a control link frame. -/
def State.hSendMolt (s : State) (tx : Bool) (l old : Nat) : State :=
  let r := { op := 4, tag := s.hl.nextTag, args := [if tx then 0 else 1, l, 8, old], on := old : CtrlReq }
  let s := s.updHl fun h => { h with molt := some (r, l, old, tx), nextTag := if 255 ≤ h.nextTag then 1 else h.nextTag + 1 }
  s.linkOut 2 s.hl.txNext (natLe 1 4 ++ natLe 1 r.tag ++ r.args.map fun a => BitVec.ofNat 8 a)

/-- Is the spare of a direction in use, or out of service? -/
def State.hSpareGone (s : State) (tx : Bool) : Bool :=
  (if tx then s.hLogTx 8 else s.hLogRx 8) ≠ 0xFF || (if tx then s.hTx 8 else s.hRx 8) = lsOff

/-- Molt logical lane l of a direction, which has failed or is asked for (R271, R272). With the spare gone a lane's failure
changes the width (R273), and nothing comes of a command; a spare that still trains leaves the lane as it is. -/
def State.hMolt (s : State) (tx : Bool) (l : Nat) (failed : Bool) : State :=
  match (upFrom 0 9).find? (fun k => (if tx then s.hLogTx k else s.hLogRx k) = l) with
  | none => s
  | some old =>
    if s.hl.molt.isSome || ! s.linkUp then
      s.updHl fun h => { h with wants := (h.wants.filter fun x => (x.1, x.2.1) ≠ (tx, l)) ++ [(tx, l, failed)] }
    else if s.restarting then s.defer (if tx then .hostTx l else .hostRx l)
    else if s.hSpareGone tx then if failed then s.hLaneFails tx old else s
    else if (if tx then s.hTx 8 else s.hRx 8) ≠ lsStandby then s
    else
      let s := s.hSendMolt tx l old
      -- the cube's own TX switches with the next link frame
      if tx then ((s.put (HLINK_LANE_LOG_TX 8) l).put (HLINK_LANE_TX_STATE 8) lsActive).put (HLINK_LANE_LOG_TX old) 0xFF
      else s

/-- The oldest molt that waits begins where none runs and the link is UP; one whose logical lane is on the spare already
is done. -/
def State.hWants (s : State) : State :=
  match s.hl.wants with
  | [] => s
  | (tx, l, failed) :: r =>
    if s.hl.molt.isSome || ! s.linkUp then s
    else
      let s := s.updHl fun h => { h with wants := r }
      if (if tx then s.hLogTx 8 else s.hLogRx 8) = l then s else s.hMolt tx l failed

/-- The pair of TX lane t goes out of service without a molt (R150, R265): the link runs on at width 4 on the lanes left
(DEDUCED, log 196). -/
def State.hPairOut (s : State) (t : Nat) : State :=
  let bound := s.hLogTx t ≠ 0xFF
  let s := (s.put (HLINK_LANE_RX_STATE (s.hRxOf t)) lsOff).put (HLINK_LANE_TX_STATE t) lsOff
  if bound then s.hNarrow t else s

/-- An attempt of the pair of TX lane t fails (R265): after three its direction at fault moves to the spare or is lost; while
the Almanac restarts it trains again (R346). -/
def State.hAttemptFails (s : State) (t : Nat) : State :=
  let cause := (s.hlane t).failCause
  let n := (s.hlane t).attempts + 1
  let r := s.hRxOf t
  let s := ((s.hPair t lsDetect).updHlane t fun x => { x.retrained with attempts := n })
  if n < 3 then s
  else
    let s := s.updHlane t fun x => { x with attempts := 0 }
    if s.restarting then s
    else if cause = 3 then s.hPairOut t
    else
      let tx := decide (cause = 2)
      let l := if tx then s.hLogTx t else s.hLogRx r
      let k := if tx then t else r
      if l = 0xFF then s.put (if tx then HLINK_LANE_TX_STATE k else HLINK_LANE_RX_STATE k) lsOff
      else if ! s.hSpareGone tx then
        let s := if tx then
            ((s.put (HLINK_LANE_LOG_TX 8) l).put (HLINK_LANE_LOG_TX k) 0xFF).put (HLINK_LANE_TX_STATE k) lsOff
          else ((s.put (HLINK_LANE_LOG_RX 8) l).put (HLINK_LANE_LOG_RX k) 0xFF).put (HLINK_LANE_RX_STATE k) lsOff
        let s := s.hMoltDone l (b2n tx) k 8
        (s.hPair 8 lsDetect).updHlane 8 Lane.retrained
      else s.hLaneFails tx k

/-- Does a host's block on RX lane r break what it must send (R264)? The host's TX lane is the one wired to it. -/
def hBlockBad (b : BitVec 128) (l r : Nat) : Bool :=
  blockByte b 0 ≠ 1 || blockByte b 1 ≠ 1 || blockByte b 2 ≠ l || blockByte b 3 ≠ r || blockByte b 5 ≠ 3 || bits b.toNat 48 48 ≠ 0 ||
    bits b.toNat 96 16 < 258 || (bits b.toNat 112 16 ≠ 0 && bits b.toNat 112 16 < 4)

/-- A capability block of a host lane in EXCHANGE (R264, R265). -/
def State.hBlock (s : State) (t : Nat) (b : BitVec 128) : State :=
  if hBlockBad b (s.hLogTx t) (s.hRxOf t) then (s.updHlane t fun x => { x with mismatch := true }).hAttemptFails t
  else
    let done := (s.hlane t).exchanged b
    let s := s.updHlane t fun x => x.onBlock b
    if done then s.hPair t (if s.hLogTx t = 0xFF then lsStandby else lsActive) else s.hSendBlock t

/-- An error of physical RX lane n: counted in its window, the lane molts past the limit (R271). -/
def State.hLaneError (s : State) (n : Nat) : State :=
  let w := max 1 (s.rd HLINK_CFG_ERR_WINDOW_US)
  let lim := s.rd HLINK_CFG_ERR_LIMIT
  let es := recent s.now w (s.hlane n).rxErrs ++ [(s.now, 1)]
  let s := (s.inc (HLINK_LANE_ERR n)).updHlane n fun x => { x with rxErrs := es }
  if lim ≠ 0 && lim < errCount es && s.hLogRx n ≠ 0xFF then s.hMolt false (s.hLogRx n) true else s

/-- A lane frame arrives on physical RX lane n, which is ACTIVE or in STANDBY: one that is discarded counts, and the
fourth in a row without K28.5 loses the symbol lock, which counts too (R153, R271). -/
def State.hLaneFrame (s : State) (bad noComma : Bool) (n : Nat) : State :=
  if s.hRx n ≠ lsActive && s.hRx n ≠ lsStandby then s
  else
    let run := if noComma then (s.hlane n).noComma + 1 else 0
    let s := s.updHlane n fun x => { x with noComma := if run = 4 then 0 else run }
    let s := if run = 4 then s.hLaneError n else s
    if bad || noComma then s.hLaneError n else s

/-- No valid frame has come on RX lane n for 256 FTCK after a loss of lock (R147, R153, R264): a lane that the link runs on
takes the link down with it, a spare trains alone (DEDUCED, log 195). -/
def State.hLaneDead (s : State) (n : Nat) : State :=
  if s.hRx n ≠ lsActive && s.hRx n ≠ lsStandby then s
  else if s.hLogRx n < s.rd HLINK_STATUS_WIDTH then s.hRetrain
  else match s.hTrainOf n with
    | some t => (s.hPair t lsDetect).updHlane t Lane.retrained
    | none => s

/-! Requests that end, host DMA and pauses -/

/-- A posted write was refused or discarded (R279, R280, R430). -/
def State.hPostedErr (s : State) (q : HReq) (status addr : Nat) : State :=
  (s.on HLINK_EVENT_POSTED_ERR).linkEvent 7 (status + 3 * 2 ^ 8 + b2n q.pkt.csr * 2 ^ 16) 0 addr

/-- A request has been executed or refused: its buffer units are free again (R284), and its RESPONSE is queued, or for a
posted write that failed the evidence is left. -/
def State.hDone (s : State) (q : HReq) (status addr : Nat) (data : List Byte) : State :=
  let n := q.pkt.len.toNat + 2
  if q.kind = .posted then
    let s := if q.stale then s else s.updHl fun h => { h with owe1 := h.owe1 + n }
    if status = 0 then s else s.hPostedErr q status addr
  else if q.stale then s
  else s.updHl fun h => { h with owe0 := h.owe0 + n, rsp := h.rsp ++ [q.resp status addr data] }

/-- Host DMA halts (R283). -/
def State.hDmaHalt (s : State) (status addr : Nat) : State :=
  let s := (((s.on HLINK_DMA_HALTED).put HLINK_DMA_CAUSE status).put HLINK_DMA_ADDR_LO_ADDR (addr % 2 ^ 32)).put
    HLINK_DMA_ADDR_HI_ADDR (addr / 2 ^ 32)
  (s.on HLINK_EVENT_DMA_HALT).linkEvent 9 (s.reg 0x300014).toNat 0 addr

/-- The data plane pauses (R293): electrical idle, STATE DOWN, link-layer state kept. -/
def State.hPause (s : State) : State :=
  s.hRetrain.hDown 0

/-- Training of the host link begins (R264): at start-up and after a pause. -/
def State.hBringUp (s : State) : State := s.hRetrain

end Sys2Proof.Machine
end

