-- ==== Sys2Proof/Machine/TrainCmd.lean ====
section
/-! DEFINITION. Bring-up of vector and host-link lanes (R143, R146 to R150, R264, R265): the events both kinds of lanes
share. -/
namespace Sys2Proof.Machine
open Csr

/-- RECEIVER_DETECT (R147, R149). -/
def execReceiverDetect (l : LaneId) (found : Bool) (s : State) : Outcome :=
  .next (if s.paused || ! found then s
    else match l with
      | .vl k => s.vlaneDetect k
      | .hl n => if s.hTx n = lsDetect && s.hLeads n && s.hRx (s.hRxOf n) ≠ lsOff then (s.hPair n lsTrain).hSendSet n false
        else s)

/-- LANE_BIT_LOCK (R147). -/
def execLaneBitLock (l : LaneId) (s : State) : Outcome :=
  .next (if s.paused then s
    else match l with
      | .vl k => match s.trainOf k with
        | some t => s.vlaneBitLock t
        | none => s
      | .hl n => match s.hTrainOf n with
        | some t =>
          if s.hTx t = lsTrain then ((s.hPair t lsLock).updHlane t fun x => { x with bitLock := true }).hSendSet t false
          else s
        | none => s)

/-- TRAINING_SET_RX (R146, R147, R264). -/
def execTrainingSetRx (l : LaneId) (tb valid : Bool) (cubeId : BitVec 3) (logical : BitVec 8) (s : State) : Outcome :=
  .next (if s.paused then s
    else match l with
      | .vl k => match s.trainOf k with
        | some t => s.vlaneSet t tb valid cubeId.toNat logical.toNat
        | none => s
      | .hl n => match s.hTrainOf n with
        | some t =>
          if s.hTx t = lsLock then
            let s := s.hSendSet t (s.hlane t).symLock
            let s := s.updHlane t fun x =>
              x.onSet tb valid (cubeId.toNat = s.rd HLINK_STATUS_CUBE_ID && logical.toNat = s.hLogTx t)
            if (s.hlane t).tbDone then (s.hPair t lsExchange).hSendBlock t else s
          else s
        | none => s)

/-- TRAINING_FRAME_RX (R144, R148, R152, R264, R265). -/
def execTrainingFrameRx (l : LaneId) (valid : Bool) (payload : BitVec 1024) (s : State) : Outcome :=
  .next (if s.paused then s
    else match l with
      | .vl k => s.vlaneTrainFrame k valid payload
      | .hl n => match s.hTrainOf n with
        | some t =>
          if s.hTx t ≠ lsExchange then s
          else if valid then s.hBlock t (payload.setWidth 128)
          else (s.updHlane t fun x => { x with badCrc := true, block := none, blocks := x.blocks + 1 }).hSendBlock t
        | none => s)

/-- LANE_NO_VALID_FRAME (R153, R264). -/
def execLaneNoValidFrame (l : LaneId) (s : State) : Outcome :=
  .next (match l with
    | .vl k => if s.rxLive k then s.retrainPair (s.txOf k) else s
    | .hl n => if s.paused then s else s.hLaneDead n)

/-- LANE_TRAIN_TIMEOUT (R147, R150, R265). -/
def execLaneTrainTimeout (l : LaneId) (s : State) : Outcome :=
  .next (if s.paused then s
    else match l with
      | .vl k => s.vlaneTimeout k
      | .hl n => if inRange (s.hTx n) lsTrain lsActive && s.hLeads n then s.hAttemptFails n else s)

/-- CTRL_REQUEST_RESEND (R143, R272). -/
def execCtrlRequestResend (l : LaneId) (s : State) : Outcome :=
  .next (if s.paused then s
    else match l with
      | .vl k => s.vlaneResend k
      | .hl n => match s.hl.molt with
        | some (r, m, old, tx) =>
          if r.on = n && r.sends < 64 then
            (s.updHl fun h => { h with molt := some ({ r with sends := r.sends + 1 }, m, old, tx) }).linkOut 2 s.hl.txNext
              (natLe 1 4 ++ natLe 1 r.tag ++ r.args.map fun a => BitVec.ofNat 8 a)
          else s
        | none => s)

/-- LANE_CTRL_TIMEOUT (R143, R272). -/
def execLaneCtrlTimeout (l : LaneId) (s : State) : Outcome :=
  .next (if s.paused then s
    else match l with
      | .vl k => s.vlaneCtrlTimeout k
      | .hl n => match s.hl.molt with
        | some (r, _, _, _) => if r.on = n && 64 ≤ r.sends then (s.raiseKD (srcHlane n) 0x22 0 4).hRetrain else s
        | none => s)

end Sys2Proof.Machine
end

