-- ==== Sys2Proof/Machine/Pause.lean ====
section
/-! DEFINITION. Abandoning self-test slices (R385); clock gating's power states and enables (R328 to R333); pausing and
resuming the data plane (R17, R56, R158, R293). -/
namespace Sys2Proof.Machine
open Csr

/-! Slices (R384, R385) -/

/-- RUNNING follows the slices. -/
def State.stCount (s : State) : State := s.put ST_STATUS_RUNNING s.st.slices.length

/-- A slice leaves: its kind and target are remembered with the time it ended (R384), and ST_LAST (R385, R386); one of the
start-up set that has run to its end is done (R388). -/
def State.sliceGone (s : State) (x : Slice) (outcome : Nat) : State :=
  let key := (x.kind, x.target, x.part)
  let s := { s with st := { s.st with
    slices := s.st.slices.filter fun y => y ≠ x
    ended := (key, s.now) :: s.st.ended.filter fun e => e.1 ≠ key
    setDone := if x.startup && outcome ≠ 2 then key :: s.st.setDone else s.st.setDone } }
  (((s.stCount).put ST_LAST_KIND x.kind).put ST_LAST_OUTCOME outcome).put ST_LAST_TARGET x.target

/-- What a test leaves of an engine's or a capture unit's memories: a tested engine is prepared again, a tested staging
buffer, echo ring or write-combine cache is empty (R385). -/
def State.afterTest (s : State) (x : Slice) : State :=
  if x.kind = 1 || (x.kind = 2 && x.target < 128 && 2 ≤ x.part) then
    if s.engState x.target = 2 then s.prepare x.target else s
  else if x.kind = 2 && x.target < 128 then s.updStg x.target fun g => { g with rows := [], cur := [], segs := [], segBase := 0 }
  else if x.kind = 2 then
    if x.part < 4 then s.updCap (x.target - 128) fun c => { c with ring := [] }
    else s.updCap (x.target - 128) fun c => { c with lines := [] }
  else s

/-- Abandon a slice (R385): incomplete. -/
def State.abandonSlice (s : State) (x : Slice) : State :=
  let s := (s.sliceGone x 2).inc (ST_CNT_INCOMPLETE x.kind)
  let s := if x.kind = 8 then (s.off ALM_CAL_CTRL_BUSY).putb ALM_CAL_CTRL_STALE (s.rd ALM_STATUS_STATE = 3)
    else if x.kind = 7 then s.off (MC_TRN_STAT_RUNNING (x.target % 128)) else s
  if x.kind = 6 then
    let k := x.target % 128
    (s.afterTest x).vlaneLbStop k
  else s.afterTest x

/-- Abandon the slices a test selects. -/
def State.abandonWhere (s : State) (f : Slice → Bool) : State :=
  s.each (s.st.slices.filter f) fun s x => s.abandonSlice x

/-! Power states (R329) -/

/-- Is a partition in RUN, INDEX or MAINT? -/
def State.partOn (s : State) (p : Nat) : Bool := s.declared p && s.pmode p ≠ modeSleep

/-- The fabricated blocks (R328). -/
def gateBlocks : List Nat := (upFrom 0 8).flatMap fun c => (upFrom 0 (classCount c)).map fun i => 128 * c + i

/-- The logical lanes that physical lane pair k carries. -/
def State.laneLogs (s : State) (k : Nat) : List Nat := [s.logTx k, s.logRx k].filter fun l => l < 96

/-- The logical channels that physical channel c carries. -/
def State.logsOf (s : State) (c : Nat) : List Nat := (upFrom 0 32).filter fun k => s.physOf k = c

/-- The partitions block n serves, for classes 0 to 3. -/
def State.blockParts (s : State) (n : Nat) : List Nat :=
  let i := n % 128
  match n / 128 with
  | 0 => (s.engPart i).toList
  | 1 => s.partsList.filter fun p => s.serves i p
  | 2 => s.partsList.filter fun p => (s.logsOf i).any fun k => bit (s.partChans p) k
  | 3 => (s.laneLogs i).filterMap s.lanePart
  | _ => []

/-- Is physical channel c the destination of a migration (R253)? -/
def State.isDest (s : State) (c : Nat) : Bool := (upFrom 0 34).any fun d => (s.mc d).migTo = some c

/-- The power state of block n: 0 RUN, 1 SLEEP, 2 DEEP. While an exit from DEEP trains the lanes, DEEP is over for the blocks
(R399). -/
def State.powerState (s : State) (n : Nat) : Nat :=
  if s.devMode = modeDeep && s.pauses.deep then 2
  else if n / 128 ≤ 3 then
    if (s.blockParts n).any s.partOn || (n / 128 = 2 && (s.mcState (n % 128) = 2 || s.isDest (n % 128) ||
        s.flag (MC_TRN_STAT_RUNNING (n % 128)))) then 0 else 1
  else if s.devMode = modeBoot || s.partsList.isEmpty || s.partsList.any s.partOn then 0 else 1

/-- Is unit n fenced or retired? -/
def State.unitOut (s : State) (n : Nat) : Bool := s.rd (FAULT_UNIT_STATE n) ≠ 0

/-- Does the ACTIVE image bind block n under the maps in effect (R332)? -/
def State.gateBound (s : State) (im : Img) (n : Nat) : Bool :=
  let i := n % 128
  let ls := im.lanes.flatMap fun r => r.tx
  match n / 128 with
  | 0 => im.engines.any fun r => r.engine = i
  | 1 => s.rd (CAP_STATUS_STATE i) ≠ 3 && ls.any fun l => l / 12 = s.groupOf i
  | 2 => im.regions.any fun g => (s.logsOf i).any fun k => bit g.chanMask k
  | 3 => (s.laneLogs i).any fun l => ls.contains l
  | _ => false

/-- Does a self-test slice test block n, so that the scheduler has it clocked (R391)? -/
def State.underTest (s : State) (n : Nat) : Bool := s.st.slices.any fun x => x.target = n

/-- The enable in effect of block n (R329). A block that the ACTIVE image binds with RUN_EN 0 has come to carry a bound
resource since the last commit or apply, by a molt or a substitution: it runs (R333). -/
def State.gateEn (s : State) (n : Nat) : Bool :=
  if s.unitOut n then false
  else if s.underTest n then true
  else match s.powerState n with
    | 0 => s.erd (CLKPWR_GATE_RUN_EN n) = 1 || s.gateBound s.img.active n
    | 1 => s.erd (CLKPWR_GATE_SLEEP_EN n) = 1
    | _ => s.erd (CLKPWR_GATE_DEEP_EN n) = 1

/-- Change the gate unit. -/
def State.updGates (s : State) (f : GateUnit → GateUnit) : State := { s with gates := f s.gates }

/-- Block n's clocks run again (R331); a lane pair retrains from DETECT. -/
def State.ungate (s : State) (n : Nat) : State :=
  let was := s.flag (CLKPWR_GATE_GATED n)
  let s := (s.off (CLKPWR_GATE_GATED n)).off (CLKPWR_GATE_WAITING n)
  let s := s.updGates fun g => { g with refused := g.refused.filter fun x => x.1 ≠ n, woken := g.woken.filter fun x => x.1 ≠ n }
  if was && n / 128 = 3 then
    s.each (s.blockPairs (n % 128)) fun s t =>
      let s := s.updLane t fun x => { x with gatedIdle := false }
      if s.txState t = lsOff || s.txState t = 0 then s else s.retrainPair t
  else s

/-- The blocks that are gated or have a gate request waiting. -/
def State.gateMarked (s : State) : List Nat :=
  (s.csr.filter fun x => inRange x.1 0x801000 0x802000 && bits x.2.toNat 8 2 ≠ 0).map fun x => (x.1 - 0x801000) / 4

/-- Every block whose enable in effect is 1 is clocked; a request that waits for a block that must run is dropped
(R331). -/
def State.gateRefresh (s : State) : State := s.each (s.gateMarked.filter s.gateEn) fun s n => s.ungate n

/-! Pauses -/

/-- The data plane pauses for a further cause (R17): lanes in electrical idle (R158), the host link DOWN (R293) unless
it keeps running in DEEP (R398), gate waits abandoned. A link that DEEP kept goes DOWN with a further cause. -/
def State.pauseLink (s : State) (f : Pauses → Pauses) (keepLink : Bool) : State :=
  let was := s.pauses.any
  let s := { s with pauses := f s.pauses }
  let s := s.putb CLKPWR_STATUS_PAUSED s.pauses.any
  if ! s.pauses.any || s.devMode = modeHold then s
  else if was then (if s.rd HLINK_STATUS_STATE = 2 && ! keepLink then s.hPause else s)
  else
    let s := { s with pauses := { s.pauses with since := s.now } }
    -- a full training in the field is abandoned (R243)
    let s := s.each ((upFrom 0 34).filter fun c => (s.mc c).fullRun) fun s c =>
      ((s.off (MC_TRN_STAT_RUNNING c)).updMc c fun m => { m with fullRun := false }).setDue c
    let s := if keepLink then s.lanesPause else (s.lanesPause).hPause
    s.each (gateBlocks.filter fun n => s.flag (CLKPWR_GATE_WAITING n)) fun s n => s.off (CLKPWR_GATE_WAITING n)

/-- The data plane pauses for a further cause. -/
def State.pauseFor (s : State) (f : Pauses → Pauses) : State := s.pauseLink f false

/-- A cause of the pause ends; with none left the data plane resumes (R56, R158, R293, R385): VT in FREE with its event,
the lanes and the host link train from DETECT, slices caught by the pause are abandoned. -/
def State.resumeFrom (s : State) (f : Pauses → Pauses) : State :=
  let was := s.pauses.any
  let s := { s with pauses := f s.pauses }
  let s := s.putb CLKPWR_STATUS_PAUSED s.pauses.any
  if ! was || s.pauses.any || s.devMode = modeHold then s
  else
    let s := (s.vtFreeRun).vtEvent
    let s := if s.rd HLINK_STATUS_STATE = 2 then s.lanesPause else (s.lanesPause).hBringUp
    (s.abandonWhere fun _ => true).gateRefresh

end Sys2Proof.Machine
end

