-- ==== Sys2Proof/Machine/Gate.lean ====
section
/-! DEFINITION. The commands of clock gating (R330 to R333). -/
namespace Sys2Proof.Machine
open Csr

/-! Which register an address names -/

/-- The capture unit whose block holds address a (R409). -/
def capOfAddr (a : Nat) : Option Nat :=
  if inRange a 0x170000 0x172000 then some 8
  else if inRange a 0x180000 0x200000 && a % 0x10000 < 0x2000 then some ((a - 0x180000) / 0x10000)
  else none

/-- The engine, lane pair or channel whose block holds address a. -/
def engOfAddr (a : Nat) : Option Nat := if inRange a 0x100000 0x148000 then some ((a - 0x100000) / 0x1000) else none
def vlaneOfAddr (a : Nat) : Option Nat := if inRange a 0x200000 0x264000 then some ((a - 0x200000) / 0x1000) else none
def mcOfAddr (a : Nat) : Option Nat := if inRange a 0x400000 0x422000 then some ((a - 0x400000) / 0x1000) else none

/-- The unit whose registers sit at address a, as a source ID. -/
def unitOfAddr (a : Nat) : Option Nat :=
  match engOfAddr a, capOfAddr a, vlaneOfAddr a, mcOfAddr a with
  | some e, _, _, _ => some (srcEng e)
  | _, some u, _, _ => some (srcCap u)
  | _, _, some k, _ => some (srcLane k)
  | _, _, _, some c => some (srcMc c)
  | _, _, _, _ => none

/-- The block of classes 0 to 3, 5 or 6 whose registers sit at address a. -/
def blockOfAddr (a : Nat) : Option Nat :=
  match unitOfAddr a with
  | some n => some n
  | none =>
    if inRange a 0x10000 0x20000 then some (6 * 128 + 2)
    else if inRange a 0x20000 0x30000 then some (6 * 128 + 3)
    else if inRange a 0x500000 0x600000 then some (5 * 128 + 1)
    else if inRange a 0x600000 0x700000 then some (6 * 128)
    else if inRange a 0xA00000 0xB00000 then some (6 * 128 + 1)
    else none

/-- Is an accepted host request one for DRAM space? -/
def HReq.onDram (q : HReq) : Bool := q.kind ≠ .vtset && ! q.pkt.csr

/-- Accepted host requests for registers of block n. -/
def State.csrBusy (s : State) (n : Nat) : Nat :=
  (s.hl.waiting.filter fun q => q.kind ≠ .vtset && q.pkt.csr && blockOfAddr q.pkt.addr.toNat = some n).length

/-- Outstanding memory transactions of unit n of classes 0 to 2, or of the fabric with host DMA. -/
def State.unitBusy (s : State) (n : Nat) : Nat :=
  let i := n % 128
  match n / 128 with
  | 0 => (s.eng i).drqs.length + b2n (s.eng i).vs.isSome
  | 1 => (s.cap i).wbs.length + ((s.cap i).lines.filter fun l => l.filling).length + b2n (s.cap i).dump.isSome
  | 2 => (s.mc i).rq.length
  | _ => s.bw.held.length + (s.hl.waiting.filter HReq.onDram).length

/-- The units whose transactions the crossbar carries. -/
def crossUnits : List Nat := upFrom 0 72 ++ upFrom 0x80 9 ++ upFrom 0x100 34 ++ [5 * 128 + 1]

/-- Outstanding transactions of block n, as master or as target (R330): the crossbar's are those of every unit it joins; a
host-link pair in use carries the host's requests and their responses; the scheduler's are its reads at the port. -/
def State.blockBusy (s : State) (n : Nat) : Nat :=
  let i := n % 128
  s.csrBusy n + match n / 128 with
  | 0 | 1 | 2 => s.unitBusy n
  | 4 => if s.hLogTx i ≠ 0xFF || s.hLogRx i ≠ 0xFF then s.hl.waiting.length + s.hl.rsp.length else 0
  | 5 => if i = 1 then s.unitBusy n else crossUnits.foldl (fun a u => a + s.unitBusy u) 0
  | 6 => if i = 1 then (s.bw.waits.filter fun w => w.acc.master = srcScheduler).length else 0
  | _ => 0

/-- Is a gate request of block n withheld until a sleeping partition has drained (R396)? -/
def State.gateWithheld (s : State) (n : Nat) : Bool :=
  n / 128 ≠ 2 && (s.blockParts n).any fun p => bit (s.rd GLOBAL_PDRAIN_DRAINING) p

/-- Does a pause other than DEEP's own hold gate requests (R330, R334)? -/
def Pauses.holdsGates (p : Pauses) : Bool := p.hck || p.switchover || p.trip || p.rail

/-- GATE_REQUEST (R330): the block's enable in effect is 0 and it is clocked; the request waits for the block to idle. -/
def execGateRequest (n : Fin 1024) (s : State) : Outcome :=
  .next (if s.pauses.holdsGates || s.devMode = modeHold || ! gateBlocks.contains n.val || s.gateEn n || s.gateWithheld n ||
      s.flag (CLKPWR_GATE_GATED n) || s.flag (CLKPWR_GATE_WAITING n) ||
      s.gates.refused.contains (n.val, s.powerState n) || s.gates.woken.any (fun x => x.1 = n.val) then s
    else s.on (CLKPWR_GATE_WAITING n))

/-- The block's clocks stop: a lane pair goes to electrical idle. -/
def State.gateNow (s : State) (n : Nat) : State :=
  let s := (s.off (CLKPWR_GATE_WAITING n)).on (CLKPWR_GATE_GATED n)
  if n / 128 = 3 then
    s.each ((s.blockPairs (n % 128)).filter fun t => s.txState t ≠ lsOff && s.txState t ≠ 0) fun s t =>
      (s.toDetect t).updLane t fun x => { x with gatedIdle := true }
  else s

/-- GATE_COMPLETE (R330): nothing is outstanding any more; a request for a block that must run meanwhile is dropped. -/
def execGateComplete (n : Fin 1024) (s : State) : Outcome :=
  .next (if s.flag (CLKPWR_GATE_WAITING n) && s.blockBusy n = 0 then
      if s.gateEn n then s.off (CLKPWR_GATE_WAITING n) else s.gateNow n
    else s)

/-- Every outstanding memory transaction of unit n of classes 0 to 2, or of the fabric with host DMA, ends with an error
response (R330, R92, R283). -/
def State.unitErrors (s : State) (n : Nat) : State :=
  let i := n % 128
  match n / 128 with
  | 0 =>
    let s := s.each (s.eng i).drqs fun s d =>
      (s.updEng i fun g => { g with drqs := g.drqs.filter fun y => y ≠ d }).asyncTrap i
        (TrapCause.mk 0x06 (dmaDetail d.tag 0 2) d.cube)
    match (s.eng i).vs with
    | some v => (s.updEng i fun g => { g with vs := none }).asyncTrap i (TrapCause.mk 0x06 (dmaDetail 0 1 2) v.next)
    | none => s
  | 1 =>
    let c := s.cap i
    let s := s.each (c.lines.filter fun l => l.filling) fun s l => s.fillFails i l.gran
    let s := s.each c.wbs fun s l => s.dropLine i l
    let s := s.updCap i fun c => { c with wbs := [] }
    match c.dump with
    | some (p, a) => s.dmaHalt i p 2 (XferErr.mk a false)
    | none => s
  | 2 =>
    let s := match (s.mc i).rq.getLast? with
      | some r => s.updMc i fun m => { m with done := some (.errorResponse r.acc r.gran) }
      | none => s
    (s.updMc i fun m => { m with rq := [] }).rqCount i
  | _ =>
    let s := s.each s.bw.held fun s r =>
      s.updMc (s.physOf r.chan) fun m => { m with done := some (.errorResponse r.acc r.gran) }
    let s := { s with bw := { s.bw with held := [] } }
    match s.hl.waiting.filter HReq.onDram with
    | [] => s
    | q :: qs =>
      let s := (s.updHl fun h => { h with waiting := h.waiting.filter fun x => ! x.onDram }).hDmaHalt 5 q.pkt.addr.toNat
      s.each (q :: qs) fun s x => s.hDone x 5 x.pkt.addr.toNat []

/-- Every outstanding transaction of block n ends with an error response (R330). Accesses to registers complete in the step
of their command, and a block that is gated meanwhile answers those to come (R331). -/
def State.gateErrors (s : State) (n : Nat) : State :=
  if n / 128 ≤ 2 || n = 5 * 128 + 1 then s.unitErrors n
  else if n = 5 * 128 then s.each crossUnits fun s u => s.unitErrors u
  else s

/-- GATE_WAIT_TIMEOUT (R330): still busy after 256 FCLK; refused, or forced with FORCE = 1. -/
def execGateWaitTimeout (n : Fin 1024) (s : State) : Outcome :=
  .next (if ! s.flag (CLKPWR_GATE_WAITING n) || s.blockBusy n = 0 then s
    else if s.flag CLKPWR_GATE_COMMIT_FORCE then
      let k := s.blockBusy n
      (((s.gateErrors n).gateNow n).inc CLKPWR_GATE_STAT_FORCED).raise { src := n, kind := 0x42, detail := k }
    else
      (((s.off (CLKPWR_GATE_WAITING n)).on CLKPWR_GATE_STAT_GATE_REFUSED).inc CLKPWR_GATE_STAT_REFUSED).updGates
        fun g => { g with refused := (n.val, s.powerState n) :: g.refused.filter fun x => x.1 ≠ n.val })

/-- May a request wake block n (R331): class 2, or instance 1 of class 5? -/
def wakeable (n : Nat) : Bool := n / 128 = 2 || n = 5 * 128 + 1

/-- GATE_WAKE (R331). -/
def execGateWake (n : Fin 1024) (s : State) : Outcome :=
  .next (if wakeable n && ! s.paused && ! s.unitOut n then s.wake n else s)

/-- GATE_IDLE_REGATE (R331): 1024 FCLK without a request; the block is gated again under R330. -/
def execGateIdleRegate (n : Fin 1024) (s : State) : Outcome :=
  .next (match s.gates.woken.find? (fun x => x.1 = n.val) with
    | none => s
    | some w =>
      if s.paused || s.clk.fclk < w.2 + 1024 then s
      else
        let s := s.updGates fun g => { g with woken := g.woken.filter fun x => x.1 ≠ n.val }
        if s.gateEn n then s else s.on (CLKPWR_GATE_WAITING n))

/-! The group (R332, R333) -/

/-- The first register of the group that fails R332, with its cause: 1 MUST_RUN, 2 BOUND. `en` gives the enables of a
block, bits 0 to 2 as in CLKPWR_GATEn. -/
def State.gateFault (s : State) (im : Img) (en : Nat → Nat) : Option (Nat × Nat) :=
  (gateBlocks.filterMap fun n =>
    let run := bit (en n) 0
    if (n / 128 = 4 || n = 5 * 128 + 1 || n / 128 = 6) && ! (run && bit (en n) 1) then some (n, 1)
    else if ! run && s.gateBound im n then some (n, 2)
    else none).head?

/-- Addresses of the group. -/
def gateAddrs : List Nat := gateBlocks.map fun n => 0x801000 + 4 * n

/-- COMMIT of CLKPWR_GATE_COMMIT (R332, R333). -/
def State.gateCommit (s : State) : State :=
  match s.gateFault s.img.active (fun n => (s.reg (0x801000 + 4 * n)).toNat) with
  | some (n, c) => ((s.on CLKPWR_GATE_COMMIT_COMMIT_ERR).put CLKPWR_GATE_COMMIT_CAUSE c).put CLKPWR_GATE_COMMIT_ERR_BLOCK n
  | none =>
    let s := (s.commitAll gateAddrs).on CLKPWR_GATE_COMMIT_DIVERGED
    (s.updGates fun g => { g with refused := [] }).gateRefresh

/-- RETRY of CLKPWR_GATE_COMMIT (R330). -/
def State.gateRetry (s : State) : State := s.updGates fun g => { g with refused := [] }

/-- GATE_COMMIT (R332). -/
def execGateCommit (s : State) : Outcome := .next s.gateCommit

/-- GATE_RETRY (R330). -/
def execGateRetry (s : State) : Outcome := .next s.gateRetry

end Sys2Proof.Machine
end

