-- ==== Sys2Proof/Machine/BwOps.lean ====
section
/-! DEFINITION. Bandwidth classes (chapter 10): effective shares, the admission checks on shares and reserves, the token
buckets' gain, the requests held at the ports and those in a request queue. -/
namespace Sys2Proof.Machine
open Csr

/-- Sum of SHARE on channel k. -/
def BwCopy.shares (b : BwCopy) (k : Nat) : Nat := (upFrom 0 8).foldl (fun a c => a + b.share (pairN c k)) 0

/-- Sum of RESERVE on channel k. -/
def BwCopy.reserves (b : BwCopy) (k : Nat) : Nat := (upFrom 0 8).foldl (fun a c => a + b.reserve (pairN c k)) 0

/-- U: the usable figure of check 1 in MB/s (R38). -/
def usable (cold : Bool) : Nat := if cold then 41779 else 40038

/-- Check 1 (R38): the lowest channel of a list whose shares exceed U. -/
def BwCopy.shareOver (b : BwCopy) (cold : Bool) (ks : List Nat) : Option Nat := ks.find? fun k => usable cold < b.shares k

/-- Check 2 (R38): the lowest channel whose reserves exceed 48, or that is alive and keeps nothing for the Almanac's
class. -/
def BwCopy.reserveOver (b : BwCopy) (alm : Nat) (alive : Nat → Bool) (ks : List Nat) : Option Nat :=
  ks.find? fun k => 48 < b.reserves k || (alive k && b.reserve (pairN alm k) = 0)

/-- The effective shares of channel k (R217), class 0 first: cut from CL7 down while the channel is hot under cold
admission. -/
def cutShares (share : Nat → Nat) (excess : Nat) : Nat → List Nat
  | 0 => []
  | c + 1 =>
    let cut := min (share c) excess
    cutShares share (excess - cut) c ++ [share c - cut]

/-- Is logical channel k hot? -/
def State.chanHot (s : State) (k : Nat) : Bool := s.flag (MC_STATE_HOT (s.physOf k))

/-- What each bucket gains per FCLK (R213). -/
def tokenGain (eff : Nat) : Nat := ceilDiv (eff * 65536) 54400

/-- Form the effective shares of channel k anew (R216, R217): messages for the classes that are reduced. -/
def State.bwChan (s : State) (k : Nat) : State :=
  let b := s.bwEff
  let excess := if s.chanHot k && s.flag BW_STATUS_ADMIT_COLD then b.shares k - 40038 else 0
  let es := cutShares (fun c => b.share (pairN c k)) excess 8
  let s := s.each (es.zip (upFrom 0 8)) fun s x =>
    let n := pairN x.2 k
    let low := decide (x.1 < b.share n)
    let s := s.put (BW_EFF_EFFECTIVE n) x.1
    let s := s.put (BW_REDUCED_CHANNELS x.2) (putBit (s.rd (BW_REDUCED_CHANNELS x.2)) k low)
    let s := { s with bw := { s.bw with gain :=
      (if x.1 = 0 then [] else [(n, tokenGain x.1)]) ++ s.bw.gain.filter fun g => g.1 ≠ n } }
    if low then
      (s.onBit (BW_BREACH_CHANNELS x.2) k).raiseKD srcFabric 0x40 k x.2
    else s
  s.putb BW_STATUS_ANY_REDUCED ((upFrom 0 8).any fun c => s.rd (BW_REDUCED_CHANNELS c) ≠ 0)

/-- A channel has returned to base (R217): shares restored, logged. -/
def State.bwRestore (s : State) (k : Nat) : State :=
  (s.bwChan k).log 0x0118 srcFabric k

/-- Form every channel's effective shares. -/
def State.bwAll (s : State) : State := s.each (upFrom 0 32) fun s k => s.bwChan k

/-! Buckets and queues (R211 to R214) -/

/-- One FCLK: every bucket with a share gains, up to 64 tokens (R213). -/
def BwUnit.tick (b : BwUnit) : BwUnit :=
  let one := fun t (g : Nat × Nat) => cput (fun _ => 0) t g.1 (min (64 * 65536) (cget (fun _ => 0) t g.1 + g.2))
  { b with tokens := b.gain.foldl one b.tokens }

/-- Tokens a request spends: two for a partial write (R213). -/
def McReq.cost (r : McReq) : Nat := if r.write && r.data.length < 64 then 2 else 1

/-- Latency of a completed request (R221). -/
def State.latency (s : State) (r : McReq) : State := s.latencyAt r.acc.cls r.chan r.stamp

/-- A request has completed. -/
def State.mcDone (s : State) (c : Nat) (r : McReq) (d : McDone) : State :=
  (s.updMc c fun m => { m with done := some d }).latency r

/-- What a completed request gives its master. -/
def McReq.result (r : McReq) : GranRes → McDone
  | .data d => if r.write then .written r.acc r.gran else .data r.acc r.gran d
  | .uncorrectable => .uncorrectable r.acc r.gran
  | .error => .errorResponse r.acc r.gran

/-- Can a request finish without the array: a read or a partial write of a buffered granule, or a full write for which the
buffer has room (R195 to R197)? -/
def State.rqReady (s : State) (c : Nat) (r : McReq) : Bool :=
  (s.wbFind c r.gran).isSome || (r.write && r.data.length = 64 && (s.mc c).wb.length < 32)

/-- Carry out a request that needs no array access. -/
def State.rqRun (s : State) (c : Nat) (r : McReq) : State × GranRes :=
  if ! r.write then s.mcRead r.acc r.chan c r.gran 0
  else if r.data.length = 64 then (s.mcWrite c r.gran r.data, .data [])
  else s.mergeWrite r.acc r.chan c r.gran r.off r.data 0

/-- Requests of the queue that can finish without the array, in order; `kept` are those still queued. Requests of one
granule stay in the order in which they came (R195). -/
def State.rqServe (s : State) (c : Nat) : List McReq → List McReq → State
  | [], kept => (s.updMc c fun m => { m with rq := kept }).rqCount c
  | r :: rest, kept =>
    if kept.any (fun x => x.gran = r.gran) || ! s.rqReady c r then s.rqServe c rest (kept ++ [r])
    else
      let x := s.rqRun c r
      (x.1.mcDone c r (r.result x.2)).rqServe c rest kept

/-- Serve what can be served. -/
def State.rqAdvance (s : State) (c : Nat) : State := s.rqServe c (s.mc c).rq []

/-- A request enters its channel's queue (R193). -/
def State.rqEnter (s : State) (r : McReq) : State :=
  let c := s.physOf r.chan
  let s := s.rowSettle c (bankOf r.gran)
  ((s.updMc c fun m => { m with rq := m.rq ++ [r] }).rqCount c).rqAdvance c

/-- Release one held request into its queue, spending n tokens (fewer where its bucket holds fewer). -/
def State.portRelease (s : State) (r : McReq) (n : Nat) : State :=
  let s := s.spend (pairN r.acc.cls r.chan) n
  ({ s with bw := { s.bw with held := s.bw.held.erase r } }).rqEnter r

/-- The oldest request of class c for channel k that a port holds (R210). -/
def State.headOf (s : State) (pid : Nat × Bool) (c k : Nat) : Option McReq :=
  s.bw.held.find? fun r => r.acc.portId = pid && r.acc.cls = c && r.chan = k

/-- Does a granule of an older transfer stand before the request in its queue at the port (R210)? -/
def State.olderWaits (s : State) (r : McReq) : Bool :=
  s.bw.waits.any fun w => w.acc.portId = r.acc.portId && w.acc.cls = r.acc.cls && w.chan = r.chan && w.since < r.stamp &&
    s.stands w

/-- The regulator of a port looks at its queue of class c for channel k: a request that finds a whole token goes (R213);
else, on SURPLUS, one per port, channel and FCLK cycle, in ascending class order (R214). -/
def State.regRelease (s : State) (pid : Nat × Bool) (c k : Nat) : State :=
  match s.headOf pid c k with
  | none => s
  | some r =>
    if s.accHeld r.acc k || ! s.queueAdmits k c || s.olderWaits r then s
    else if 1 ≤ s.whole (pairN c k) then s.portRelease r r.cost
    else if s.surplusFree r.acc k (fun _ => true) then (s.surplusUsed r.acc k).portRelease r 0
    else s

end Sys2Proof.Machine
end

