-- ==== Sys2Proof/Machine/McCmd.lean ====
section
/-! DEFINITION. The channel controllers' commands (chapters 09 and 10): requests, the write buffer, refresh, the row
activation monitor, the channel map, the regulators. -/
namespace Sys2Proof.Machine
open Csr

/-- MC_REQUEST (R193, R209, R210, R213): a granule request of a master reaches its port's queue; it goes on to the channel
if it finds a token and the queue admits it. A channel out of service answers with an error response. -/
def execMcRequest (k : Fin 32) (master : BitVec 10) (port : Bool) (write : Bool) (gran : BitVec 25) (off : BitVec 6)
    (data : List Byte) (s : State) : Outcome :=
  let bs := data.take (64 - off.toNat)
  .next (match s.portClass master.toNat port k gran.toNat with
    | none => s
    | some cls =>
      let acc := { master := master.toNat, port := port, kind := if ! write then 1 else if bs.length < 64 then 4 else 2,
                   cls := cls : Acc }
      let r := { acc := acc, chan := k, gran := gran.toNat, write := write, off := off.toNat, data := bs,
                 stamp := s.clk.live : McReq }
      if s.paused then s
      else
        let c := s.physOf k
        let s := s.wake (2 * 128 + c)
        if s.chanGone k then s.mcDone c r (.errorResponse r.acc r.gran)
        else ({ s with bw := { s.bw with held := s.bw.held ++ [r] } }).regRelease acc.portId cls k)

/-- REGULATOR_RELEASE (R213, R214): of the port that a master's requests go through. -/
def execRegulatorRelease (k : Fin 32) (c : Fin 8) (master : BitVec 10) (port : Bool) (s : State) : Outcome :=
  .next (if s.paused then s else s.regRelease ({ master := master.toNat, port := port, kind := 0 : Acc }).portId c k)

/-- Can a queued request go to the array now: no earlier request of its granule is queued (R195), no neighbour refresh of its
bank waits (R204), and a write to be merged finds room in the buffer (R197)? -/
def Mc.needsArray (m : Mc) (r : McReq) : Bool :=
  (! r.write || (r.data.length < 64 && m.wb.length < 32)) &&
    ! (m.rq.takeWhile fun x => x ≠ r).any (fun x => x.gran = r.gran) &&
    ! m.hammered.any fun h => h / 32768 = bankOf r.gran

/-- The oldest of a list of requests. -/
def oldestReq (q : List McReq) : Option McReq :=
  q.foldl (fun b r => match b with
    | some x => if r.stamp < x.stamp then some r else some x
    | none => some r) none

/-- The request the controller schedules next (R193). -/
def Mc.pick (m : Mc) (now : Nat) : Option McReq :=
  let q := m.rq.filter m.needsArray
  match oldestReq (q.filter fun r => r.stamp + 512 ≤ now) with
  | some r => some r
  | none => match q.find? (fun r => ! r.write && (m.banks.getD (bankOf r.gran) {}).openRow = some (rowOf r.gran)) with
    | some r => some r
    | none => oldestReq q

/-- ARRAY_READ_COMPLETE (R193, R225, R226, R239, R196): the scheduled array read returns; `upset` are the bits the array's
granule has picked up. -/
def execArrayReadComplete (c : Fin 34) (upset : BitVec 576) (s : State) : Outcome :=
  .next (if s.paused then s
    else
      let s := s.rqAdvance c
      let s := s.each (upFrom 0 64) fun s b => s.rowSettle c b
      match (s.mc c).pick s.clk.live with
      | none => s
      | some r =>
        let s := (s.updMc c fun m => { m with rq := m.rq.erase r }).rqCount c
        let x := if r.write then s.mergeWrite r.acc r.chan c r.gran r.off r.data upset
          else s.mcRead r.acc r.chan c r.gran upset
        (x.1.mcDone c r (r.result x.2)).rqAdvance c)

/-- Bits of buffered granules have flipped (R225). -/
def State.wbUpset (s : State) (c : Nat) (us : List (Nat × BitVec 576)) : State :=
  if us.isEmpty then s
  else s.updMc c fun m => { m with
    wb := us.foldl (fun w u => modAt w u.1 fun e => { e with mask := e.mask ^^^ u.2 }) m.wb }

/-- WRITE_BUFFER_DRAIN (R197): from 24 granules on until 8 are left; else the granule that has stayed for 4096 FCLK, or,
with no read queued, the oldest. `upsets` are bits that have flipped in the buffer since, by its positions (R225). -/
def execWriteBufferDrain (c : Fin 34) (upsets : List (Nat × BitVec 576)) (s : State) : Outcome :=
  .next (if s.paused || s.mcState c = 4 || (s.mc c).dead then s
    else
      let s := s.wbUpset c upsets
      let m := s.mc c
      let n := m.wb.length
      if 24 ≤ n then (s.drainTo c 8 n).rqAdvance c
      else match findIx (fun e : WbEnt => e.stamp + 4096 ≤ s.clk.live) m.wb with
        | some i => (s.drainAt c i).rqAdvance c
        | none => if m.rq.all (fun r => r.write) then (s.drainAt c 0).rqAdvance c else s)

/-- Change bank b of channel c. -/
def State.updBank (s : State) (c b : Nat) (f : Bank → Bank) : State :=
  s.updMc c fun m => { m with banks := m.banks.setIfInBounds b (f (m.banks.getD b {})) }

/-- Bank b of channel c. -/
def State.bank (s : State) (c b : Nat) : Bank := (s.mc c).banks.getD b {}

/-- ROW_CLOSE_TIMEOUT (R193): a row is closed when no queued request hits it, or 128 FCLK after its last access. -/
def execRowCloseTimeout (c : Fin 34) (b : Fin 64) (s : State) : Outcome :=
  .next (if s.paused then s else s.rowSettle c b)

/-! Refresh (R198 to R203) -/

/-- Does a window of a scope cover physical channel c (R65): every channel, or those in the CHANMASKs of a partition's
regions? -/
def State.scopeOver (s : State) (scope c : Nat) : Bool :=
  scope = 0xFF || (s.logsOf c).any fun k => bit (s.partChans scope) k

/-- Is physical channel c inside a no-refresh window (R65; during a pause every window counts as closed, R56)? -/
def State.inNoref (s : State) (c : Nat) : Bool :=
  ! s.paused && s.vt.norefs.any fun w => ! s.reached w.stop && s.scopeOver w.scope c

/-- DEBT_NOW, DEBT_MAX and PREPARED follow the banks. -/
def State.refStat (s : State) (c : Nat) : State :=
  let d := (s.mc c).banks.toList.foldl (fun m b => max m b.debt.toNat) 0
  ((s.put (MC_REF_STAT_DEBT_NOW c) d).peak (MC_REF_STAT_DEBT_MAX c) d).putb (MC_STATE_PREPARED c)
    ((s.mc c).banks.toList.all fun b => b.debt = -1)

/-- One per-bank refresh: the row closes, the pointer moves on, the debt falls; a new refresh window forgets the
activations (R198, R199, R204). -/
def State.refreshOne (s : State) (c b : Nat) : State :=
  let p := ((s.bank c b).ptr + 1) % 8192
  let s := s.updBank c b fun k => { k with openRow := none, debt := k.debt - 1, ptr := p, issued := k.issued + 1 }
  if p = 0 then s.updMc c fun m => { m with acts := m.acts.filter fun x => x.1 / 32768 ≠ b } else s

/-- Refresh bank b until its debt is d. -/
def State.refreshTo (s : State) (c b : Nat) (d : Int) : Nat → State
  | 0 => s
  | n + 1 => if d < (s.bank c b).debt then (s.refreshOne c b).refreshTo c b d n else s

/-- Does the planner refresh this channel: not retired, not in self-refresh (R203)? -/
def State.planned (s : State) (c : Nat) : Bool := s.mcState c ≠ 4 && ! s.flag (MC_STATE_SELFREF c)

/-- REFRESH_DUE (R198 to R200). -/
def execRefreshDue (c : Fin 34) (b : Fin 64) (s : State) : Outcome :=
  .next (if ! s.planned c then s
    else
      let s := s.updBank c b fun k => { k with debt := min 8 (k.debt + 1), issued := 0 }
      let s := s.refStat c
      let d := (s.bank c b).debt
      if s.inNoref c then
        if d = 8 then ((s.refreshOne c b).inc (MC_REF_STAT_FORCED c)).refStat c
        else if 0 < d then s.inc (MC_REF_STAT_POSTPONED c) else s
      else if 2 ≤ d then (s.refreshOne c b).refStat c
      else s)

/-- REFRESH_ISSUE (R199): a due or owed refresh of a bank without queued requests, or at a debt of 2; the one that fell due
and one extra per tREFI. -/
def execRefreshIssue (c : Fin 34) (b : Fin 64) (s : State) : Outcome :=
  .next (
    let d := (s.bank c b).debt
    if ! s.planned c || s.inNoref c || d ≤ 0 || 2 ≤ (s.bank c b).issued then s
    else if d < 2 && (s.mc c).rq.any (fun r => bankOf r.gran = b) then s
    else (s.refreshOne c b).refStat c)

/-- tREFI of channel c in vt, rounded up (R198, R202). -/
def State.trefi (s : State) (c : Nat) : Nat :=
  ceilDiv (if s.flag (MC_STATE_HOT c) then 1950000 else 3900000) (s.rd VT_TICK_PS_TICK_PS)

/-- Does a NOREF_OPEN entry that covers channel c open within d vt (R201)? -/
def State.norefNear (s : State) (c d : Nat) : Bool :=
  s.calLive.any fun x => x.2.code = 6 && ! s.reached x.2.vt && vtDiff x.2.vt s.vt.vt ≤ d &&
    s.scopeOver x.2.part c

/-- NOREF_PREPARE (R201): within one tREFI of a NOREF_OPEN entry that covers the channel, every bank without a queued
request is brought to a debt of −1; within a quarter of tREFI the others are too. -/
def execNorefPrepare (c : Fin 34) (s : State) : Outcome :=
  .next (
    if ! s.planned c || s.inNoref c || s.paused || ! s.norefNear c (s.trefi c) then s
    else
      let busy := fun b => (s.mc c).rq.any fun r => bankOf r.gran = b
      let late := s.norefNear c (s.trefi c / 4)
      (s.each ((upFrom 0 64).filter fun b => late || ! busy b) fun s b => s.refreshTo c b (-1) 10).refStat c)

/-- NEIGHBOUR_REFRESH (R204): the oldest row that reached 4096 activations. -/
def execNeighbourRefresh (c : Fin 34) (s : State) : Outcome :=
  .next (if ! s.planned c then s else match (s.mc c).hammered with
    | [] => s
    | key :: rest =>
      let b := key / 32768
      let s := s.updMc c fun m => { m with hammered := rest, acts := cput (fun _ => 0) m.acts key 0 }
      let s := s.updBank c b fun k => { k with openRow := none }
      (((s.inc (MC_RAM_TNR c)).put (MC_RAM_LAST_PC c) (b / 32)).put (MC_RAM_LAST_BANK c) (b % 32)).put
        (MC_RAM_LAST_ROW c) (key % 32768))

/-! The channel map (R189 to R191) -/

/-- The map's registers. -/
def chmapAddrs : List Nat := (upFrom 0 8).map fun n => 0x430000 + 4 * n

/-- Is a map acceptable (R190)? `old` is the map in effect. -/
def chmapOk (retired : Nat → Bool) (old new : List Nat) : Bool :=
  let moved := (upFrom 0 32).filter fun k => new.getD k 0 ≠ old.getD k 0
  new.all (fun c => c < 34 && ! retired c) && new.eraseDups.length = new.length &&
    match moved with
    | [a, b] => a % 2 = 0 && b = a + 1 && new.getD a 0 = 32 && new.getD b 0 = 33
    | _ => false

/-- The map in a copy: the 32 entries. -/
def State.mapEff (s : State) : List Nat := (upFrom 0 32).map s.physOf
def State.mapPend (s : State) : List Nat := (upFrom 0 32).map fun k => s.rd (MC_CHMAP_PHYS k)

/-- The Almanac's commit of the pending map (R190, R191): refused, or the requests to the moving channels are held. -/
def State.chmapCommit (s : State) : State :=
  if ! chmapOk (fun c => s.mcState c = 4) s.mapEff s.mapPend then s.on MC_CHMAP_COMMIT_COMMIT_ERR
  else s.each ((upFrom 0 32).filter fun k => s.rd (MC_CHMAP_PHYS k) ≠ s.physOf k) fun s k =>
    let new := s.rd (MC_CHMAP_PHYS k)
    s.updMc (s.physOf k) fun m => { m with moving := some new }

/-- The map switches (R191): GEN, the LOGICAL fields, the held requests go to the new channels. What the commit accepted
takes effect, whatever the pending copies hold by now; a channel whose heat the switch changes is scaled anew (R217). -/
def State.chmapSwitch (s : State) : State :=
  let old := (upFrom 0 34).filter fun c => (s.mc c).moving.isSome
  if old.isEmpty || ! old.all (fun c => (s.mc c).rq.isEmpty && (s.mc c).wb.isEmpty && (s.mc c).cq.isEmpty) then s
  else
    let ks := old.map fun c => s.rd (MC_STATE_LOGICAL c)
    let hot := ks.map s.chanHot
    let pend := chmapAddrs.map fun a => (a, s.reg a)
    let map := s.mapEff
    let s := s.each (upFrom 0 32) fun s k => s.put (MC_CHMAP_PHYS k) (((s.mc (map.getD k 0)).moving).getD (map.getD k 0))
    let s := s.commitAll chmapAddrs
    let s := s.each pend fun s x => s.setReg x.1 x.2
    let s := s.each old fun s c =>
      let l := s.rd (MC_STATE_LOGICAL c)
      match (s.mc c).moving with
      | some d => ((s.put (MC_STATE_LOGICAL d) l).put (MC_STATE_LOGICAL c) 0x3F).updMc c fun m => { m with moving := none }
      | none => s
    let s := s.incMod MC_CHMAP_GEN_GEN
    s.each ((ks.zip hot).filter fun x => s.chanHot x.1 ≠ x.2) fun s x =>
      if s.chanHot x.1 then s.bwChan x.1 else s.bwRestore x.1

/-- Has the substitution of a layer come to its last step, so that the Almanac commits the map (R189, R252): both copies
have ended? -/
def State.chmapDue (s : State) (map : List Nat) : Bool :=
  (upFrom 0 32).all fun k => map.getD k 0 = s.physOf k ||
    ((s.mc (s.physOf k)).migTo = some (map.getD k 0) && (s.mc (s.physOf k)).migEnd)

/-- CHMAP_COMMIT (R189, R190, R191): the Almanac writes the pending map and commits it, as the last step of a layer
substitution; a map that passes the check before that is no commit of the Almanac's and changes nothing. -/
def execChmapCommit (map : List (BitVec 6)) (s : State) : Outcome :=
  .next (
    let t := s.each ((map.take 32).zip (upFrom 0 32)) fun s x => s.put (MC_CHMAP_PHYS x.2) x.1.toNat
    if chmapOk (fun c => s.mcState c = 4) t.mapEff t.mapPend && ! s.chmapDue t.mapPend then s else t.chmapCommit)

/-- CHMAP_SWITCH (R191). -/
def execChmapSwitch (s : State) : Outcome := .next s.chmapSwitch

/-! The class group (R218) -/

/-- COMMIT of BW_COMMIT (R218). -/
def State.bwCommit (s : State) : State :=
  let b := s.bwPend
  let alive := (upFrom 0 32).filter s.aliveChan
  let refuse := fun (s : State) (cause ch cl : Nat) =>
    (((s.on BW_COMMIT_ERR_COMMIT_ERR).put BW_COMMIT_ERR_CAUSE cause).put BW_COMMIT_ERR_CHANNEL ch).put BW_COMMIT_ERR_CLASS cl
  match (upFrom 0 256).find? (fun i =>
      let n := pairN (i % 8) (i / 8)
      64 < b.reserve n || b.cap n = 0 || 64 < b.cap n || b.cap n < b.reserve n) with
  | some i => refuse s 1 (i / 8) (i % 8)
  | none => match b.shareOver (s.flag BW_STATUS_ADMIT_COLD) alive with
    | some k => refuse s 2 k 0
    | none => match b.reserveOver (s.rd BW_CLASSMAP_ALMANAC_CLASS) s.aliveChan alive with
      | some k => refuse s 3 k 0
      | none => ((s.commitAll bwAddrs).bwAll).on BW_STATUS_DIVERGED

/-- BW_COMMIT (R218). -/
def execBwCommit (s : State) : Outcome := .next s.bwCommit

end Sys2Proof.Machine
end

