-- ==== Sys2Proof/Machine/FaultOps.lean ====
section
/-! DEFINITION. Reactions to faults (chapter 17): fences, their lifts and retirements per unit class, the failure of a
layer (R251, R252, R256), stops, quiet periods. -/
namespace Sys2Proof.Machine
open Csr

/-- Is n a fabricated unit of classes 0 to 2 (R375)? -/
def fenceable (n : Nat) : Bool := n / 128 ≤ 2 && n % 128 < classCount (n / 128)

/-- Change the fault unit. -/
def State.updFaults (s : State) (f : FaultUnit → FaultUnit) : State := { s with faults := f s.faults }

/-- FENCED_NOW follows the fences. -/
def State.fenceCount (s : State) : State := s.put FAULT_STATUS_FENCED_NOW (min 255 s.faults.fences.length)

/-- The fence in force on unit n. -/
def State.fenceOf (s : State) (n : Nat) : Option Fence := s.faults.fences.find? fun f => f.unit = n

/-! Engines -/

/-- The task of engine e ends at once (R80, R372): unsent rows and passes are discarded. Its general registers stay readable
as the task left them (DESIGN CHOICE, log 186: R108 gives them a value in TRAPPED alone). -/
def State.engCut (s : State) (e reason st : Nat) : State :=
  let s := if s.engState e = 3 then s.taskOver e reason st else s
  let s := (s.stgEmpty e).updEng e fun g => { g with
    wait := .none, async := [], stopReq := none, startWait := none, vs := none, drqs := [] }
  s.put (ENG_STATE_STATE e) st

/-- Fence engine e (R372). -/
def State.engFence (s : State) (e : Nat) (kind : Option Nat) : State := (s.engCut e 4 5).loseEng e kind

/-- The fence of engine e lifts (R372): PREPARING, then WAITING; an engine no image binds returns to UNBOUND or SPARE. -/
def State.engLift (s : State) (e prev : Nat) : State :=
  if prev = 7 then s.put (ENG_STATE_STATE e) 7
  else (if (s.engRec e).isSome then s.prepare e else s.put (ENG_STATE_STATE e) 0).gainEng e

/-- The spare of engine e's cluster, if it is SPARE, becomes UNBOUND and alive (R372). -/
def State.engSpare (s : State) (e : Nat) : State :=
  let sp := e / 9 * 9 + 8
  if sp ≠ e && s.engState sp = 7 then
    if s.restarting then s.defer (.engine e)
    else ((s.put (ENG_STATE_STATE sp) 0).gainEng sp).log2 0x010F (srcEng e) e sp
  else s

/-- Retire engine e (R372). -/
def State.engRetire (s : State) (e : Nat) (kind : Option Nat) : State :=
  ((s.engCut e 5 6).loseEng e kind).engSpare e

/-! Capture units -/

/-- Fence capture unit u (R372). -/
def State.capFence (s : State) (u : Nat) (kind : Option Nat) : State :=
  let g := s.groupOf u
  let s := s.put (CAP_STATUS_STATE u) 2
  if g < 8 then s.loseGroup g kind else s.setMisc IMAGE_ALIVE_MISC_CAP_SPARE_FREE 0 false

/-- The lowest group that no unit serves any more (R429). -/
def State.orphanGroup (s : State) : Option Nat :=
  (upFrom 0 8).find? fun g => (upFrom 0 9).all fun u => s.groupOf u ≠ g

/-- The fence of capture unit u lifts (R372, R429). -/
def State.capLift (s : State) (u : Nat) : State :=
  let g := s.groupOf u
  if g < 8 then
    let s := (s.put (CAP_STATUS_STATE u) 0).gainGroup g
    let s := s.each (s.cap u).missed fun s x => (s.noteGap u x.1 x.2.1).noteGap u x.1 x.2.2
    s.updCap u fun c => { c with missed := [], ring := c.ring.map fun x => { x with stale := true } }
  else match s.orphanGroup with
    | some g => if s.restarting then ((s.put (CAP_STATUS_STATE u) 1).setMisc IMAGE_ALIVE_MISC_CAP_SPARE_FREE 0 true).defer
        .capture
      else s.capTake g
    | none => (s.put (CAP_STATUS_STATE u) 1).setMisc IMAGE_ALIVE_MISC_CAP_SPARE_FREE 0 true

/-! Channels -/

/-- The lost contents of a channel's granules: DATA_LOST for the partitions with a region there (R377). -/
def State.dataLost (s : State) (ps : List Nat) : State := s.each ps fun s p => s.on (FAULT_PART_DATA_LOST p)

/-- Granules the controller could not store (R256). -/
def State.wbLost (s : State) (c k : Nat) : State :=
  let es := (s.mc c).wb ++ (s.mc c).cq
  let s := (s.updMc c fun m => { m with wb := [], cq := [] }).wbCount c
  s.each es fun s e =>
    (s.dataLost (s.ownerOf (cubeAddr k e.gran)).toList).raiseKD (srcMc c) 0x35 (cubeAddr k e.gran) 0

/-- Requests held for logical channel k or queued at controller c end with error responses (R256). -/
def State.endRequests (s : State) (c k : Nat) : State :=
  let es := (s.bw.held.filter fun r => r.chan = k) ++ (s.mc c).rq
  let s := s.setWaits (s.bw.waits.filter fun w => w.chan ≠ k)
  let s := { s with bw := { s.bw with held := s.bw.held.filter fun r => r.chan ≠ k } }
  let s := (s.updMc c fun m => { m with rq := [] }).rqCount c
  s.each es fun s r => s.mcDone c r (.errorResponse r.acc r.gran)

/-- FAULT_UNITn.STATE of unit n becomes RETIRED; a fence on it is over. -/
def State.unitRetired (s : State) (n : Nat) : State :=
  ((s.put (FAULT_UNIT_STATE n) 2).updFaults fun f => { f with
    fences := f.fences.filter fun x => x.unit ≠ n, retiredAt := (n, s.clk.fclk) :: f.retiredAt.filter fun x => x.2 = s.clk.fclk }).fenceCount

/-- Physical channel c becomes RETIRED: no refresh, no armed flip, no suspect mark (R203, R231, R240). -/
def State.chanDead (s : State) (c : Nat) : State :=
  ((((s.put (MC_STATE_STATE c) 4).off (MC_ECC_FLIP_CTRL_ARMED c)).off (MC_ECC_DQSUS_VALID0 c)).off
    (MC_ECC_DQSUS_VALID1 c)).unitRetired (srcMc c)

/-- Retire physical channel c (R256). -/
def State.chanRetire (s : State) (c : Nat) : State :=
  if s.mcState c = 4 then s
  else
    let ks := s.logsOf c
    let s := s.off (MC_ECC_FLIP_CTRL_ARMED c)
    let s := if (s.mc c).dead then s.each ks fun s k => s.wbLost c k else s.drainTo c 0 36
    let s := s.chanDead c
    s.each ks fun s k =>
      let s := (s.endRequests c k).loseChan k (some 0x3F)
      (s.dataLost (s.chanParts k)).raise
        { src := srcMc c, kind := 0x3F, addr := k, detail := k, also := s.chanParts k }

/-- A channel has completed a training (R245, R243): kind, AGE, TEMP. A full training that is needed stays needed after an
incremental one (R246). -/
def State.trained (s : State) (c kind : Nat) : State :=
  let s := ((s.put (MC_TRN_STAT_LAST_KIND c) kind).off (MC_TRN_STAT_DUE c)).put
    (MC_TRN_AGE_TEMP c) (s.rd (MC_TEMP_EFFECTIVE c))
  if kind = 2 then s.updMc c fun m => { m with trainedAt := s.now, dueSince := s.now, overdueMsg := none }
  else (s.off (MC_TRN_STAT_ESCALATED c)).updMc c fun m => { m with trainedAt := s.now, overdueMsg := none, fullReq := false }

/-- Empty the remap table of channel c: no entry valid, every slot blank (R252). -/
def State.remapEmpty (s : State) (c : Nat) : State :=
  let s := s.each (upFrom 0 16) fun s n => s.setBoth (MC_REMAP_VALID c n).addr 0
  (s.put (MC_REMAP_CTRL_USED c) 0).updMc c fun m => { m with slots := Vector.replicate 16 {}, tracker := [], wanted := [] }

/-- Does a migration run? -/
def State.migrating (s : State) : Bool := s.flag MC_LAYER_STAT_MIGRATING

/-- Start the substitution of layer n by layer 16 (R252 step 1, R253): layer 16 leaves self-refresh, and the retraining of
channels 32 and 33 runs, which LAYER_SUBSTITUTION brings to its end. -/
def State.substStart (s : State) (n : Nat) : State :=
  let s := (s.off MC_LAYER_STAT_SPARE_FREE).on MC_LAYER_STAT_MIGRATING
  State.gateRefresh <| s.each [0, 1] fun s h =>
    let c := 2 * n + h
    let d := 32 + h
    let s := (((s.put (MC_STATE_STATE c) 2).off (MC_STATE_SELFREF d)).on (MC_TRN_STAT_RUNNING d)).remapEmpty d
    let s := ((s.updFaults fun f => { f with fences := f.fences.filter fun x => x.unit ≠ srcMc c }).fenceCount).put
      (FAULT_UNIT_STATE (srcMc c)) 0
    let s := s.each (s.logsOf c) fun s k => s.gainChan k
    let s := s.each [c, d] fun s x => (s.on (MC_MIG_PTR_ACTIVE x)).put (MC_MIG_PTR_POINTER x) 0
    ((s.put (MC_MIG_LOST_COUNT c) 0).put (MC_MIG_LOSTFIRST_GRANULE c) 0).updMc c fun m => { m with
      migTo := some d, lostRun := none, migEnd := false }

/-- A migration ends without a switch: its destination has failed. The spare channels are out of service, in self-refresh
(R203, R257). -/
def State.migAbort (s : State) : State :=
  let cs := (upFrom 0 32).filter fun c => (s.mc c).migTo.isSome
  let s := s.off MC_LAYER_STAT_MIGRATING
  let s := s.each (cs ++ [32, 33]) fun s c => (s.off (MC_MIG_PTR_ACTIVE c)).off (MC_TRN_STAT_RUNNING c)
  let s := s.each [32, 33] fun s c => s.on (MC_STATE_SELFREF c)
  s.each cs fun s c => (s.updMc c fun m => { m with migTo := none, moving := none }).chanRetire c

/-- Layer n fails in the channels listed (R251, R257): substitution while the spare layer is free, else retirement of
each failed channel. A layer that already migrates, or a channel already retired, changes nothing. -/
def State.layerFail (s : State) (n : Nat) (cs : List Nat) : State :=
  if s.restarting then s.defer (.layer n cs)
  else if n = 16 then
    if s.flag MC_LAYER_STAT_SPARE_FREE then
      (((s.on MC_LAYER_STAT_SPARE_BAD).off MC_LAYER_STAT_SPARE_FREE).log 0x0112 srcAlmanac 0).each cs fun s c =>
        s.unitRetired (srcMc c)
    else if s.migrating then ((s.on MC_LAYER_STAT_SPARE_BAD).migAbort).each cs fun s c => (s.off (MC_STATE_SELFREF c)).chanDead c
    else if s.flag MC_LAYER_STAT_SPARE_BAD then s
    else s.each cs fun s c => s.chanRetire c
  else if cs.all (fun c => s.mcState c = 4 || s.mcState c = 2) then s
  else if s.flag MC_LAYER_STAT_SPARE_FREE && ! s.migrating then s.substStart n
  else s.each cs fun s c => if (s.mc c).migTo.isSome then s else s.chanRetire c

/-- Fence physical channel c (R372). -/
def State.chanFence (s : State) (c : Nat) (kind : Option Nat) : State :=
  (s.put (MC_STATE_STATE c) 3).each (s.logsOf c) fun s k => s.loseChan k kind

/-- The fence of channel c lifts (R372): a spare channel that a substitution has brought into service meanwhile is ACTIVE. -/
def State.chanLift (s : State) (c prev : Nat) : State :=
  (s.put (MC_STATE_STATE c) (if prev = 1 && ! (s.logsOf c).isEmpty then 0 else prev)).each (s.logsOf c) fun s k => s.gainChan k

/-! Units -/

/-- The state code a unit has now. -/
def State.unitCode (s : State) (n : Nat) : Nat :=
  match n / 128 with
  | 0 => s.engState n
  | 1 => s.rd (CAP_STATUS_STATE (n % 128))
  | _ => s.mcState (n % 128)

/-- Retire unit n (R372): slices on it are abandoned (R385). -/
def State.unitRetire (s : State) (n : Nat) (kind : Option Nat) : State :=
  if ! fenceable n || s.rd (FAULT_UNIT_STATE n) = 2 then s
  else
    let s := s.abandonWhere fun x => x.target = n
    match n / 128 with
    | 0 => (s.unitRetired n).engRetire n kind
    -- unit 8 may have taken the group over: its clocks run (R331)
    | 1 => ((s.unitRetired n).capRetire (n % 128) kind).gateRefresh
    | _ => s.layerFail (n % 128 / 2) [n % 128]

/-- Fence unit n (R371, R372, R375). -/
def State.unitFence (s : State) (n : Nat) (host : Bool) (kind : Option Nat) : State :=
  if ! fenceable n || s.rd (FAULT_UNIT_STATE n) = 2 then s
  else match s.fenceOf n with
    | some f =>
      if f.host then s
      else s.updFaults fun u => { u with fences := u.fences.map fun x =>
        if x.unit = n then { x with host := host, since := s.now } else x }
    | none =>
      let s := s.abandonWhere fun x => x.target = n
      let prev := s.unitCode n
      let s := ((s.updFaults fun u => { u with fences := u.fences ++ [Fence.mk n host s.now prev] }).fenceCount).put
        (FAULT_UNIT_STATE n) 1
      match n / 128 with
      | 0 => s.engFence n kind
      | 1 => s.capFence (n % 128) kind
      | _ => s.chanFence (n % 128) kind

/-- Recoveries of unit n within the preceding second (R374). -/
def State.recent (s : State) (n : Nat) : Nat :=
  (s.faults.recoveries.filter fun x => x.1 = n && s.now ≤ x.2 + 1000000).length

/-- The fence of unit n lifts. -/
def State.unitLift (s : State) (f : Fence) : State :=
  let n := f.unit
  let s := ((s.updFaults fun u => { u with fences := u.fences.filter fun x => x.unit ≠ n }).fenceCount).put
    (FAULT_UNIT_STATE n) 0
  (match n / 128 with
  | 0 => s.engLift n f.prev
  | 1 => s.capLift (n % 128)
  | _ => s.chanLift (n % 128) f.prev).gateRefresh

/-- A policy fence ends (R374): a recovery, or with 3 recent ones a retirement, which is logged. -/
def State.fenceEnds (s : State) (f : Fence) : State :=
  let n := f.unit
  if 3 ≤ s.recent n then
    let k := s.rd (FAULT_UNIT_LAST_KIND n)
    (s.unitRetire n none).logStamped s.vt.vt s.now k (s.logWord n (kindSeverity k) s.roscTimed false)
      (Config.logData k 2 % 2 ^ 96)
  else
    let s := (s.updFaults fun u => { u with recoveries := (n, s.now) :: u.recoveries }).inc (FAULT_UNIT_RECOVERY_COUNT n)
    (s.put (FAULT_UNIT_RECENT n) (min 3 (s.recent n))).unitLift f

/-! Stops (R373) -/

/-- The partitions a message concerns. -/
def State.concerns (s : State) (m : Msg) : List Nat :=
  match m.part with
  | some p => [p]
  | none =>
    if ! m.also.isEmpty then m.also
    else if 4 ≤ m.src / 128 then s.partsList
    else
      let cube := [0x10, 0x11, 0x30, 0x33, 0x34, 0x35, 0x3E].contains m.kind
      match (if cube then s.ownerOf m.addr else none) with
      | some p => [p]
      | none =>
        if m.kind = 0x38 || m.kind = 0x39 then
          s.partsList.filter fun p => (s.blockParts m.src ++ s.blockParts (m.src + 1)).contains p
        else s.blockParts m.src

/-- Stop partition p (R373). -/
def State.policyStop (s : State) (p : Nat) : State :=
  ((s.stopPart p 7 (s.partEngs p)).on (FAULT_PART_POLICY_STOP p)).put (FAULT_PART_HEALTH p) 2

/-- Apply a reaction (R371): 0 log, 1 fence, 2 retire, 3 stop. A retire from a unit of classes 3 to 7 is the slice's own
action (R387). -/
def State.react (s : State) (m : Msg) (r : Nat) : State :=
  if r = 1 then s.unitFence m.src false (some m.kind)
  else if r = 2 then s.unitRetire m.src (some m.kind)
  else if r = 3 then s.each (s.concerns m) fun s p => s.policyStop p
  else s

end Sys2Proof.Machine
end

