-- ==== Sys2Proof/Machine/EccCmd.lean ====
section
/-! DEFINITION. The integrity commands of the channel controllers (chapter 11): leaky bucket, remap table, row repair, the
checker test. -/
namespace Sys2Proof.Machine
open Csr

/-- LEAKY_BUCKET_LEAK (R230): every LB_PERIOD µs the count falls by 1. -/
def execLeakyBucketLeak (c : Fin 34) (s : State) : Outcome := .next (s.leak c)

/-- MC_ECC_CFG of channel c is written: with LB_LIMIT 0 the bucket stays at 0, and a period runs from now on (R230). -/
def State.leakConfig (s : State) (c : Nat) : State :=
  let s := if s.rd (MC_ECC_CFG_LB_LIMIT c) = 0 then s.put (MC_ECC_STAT_LB_COUNT c) 0 else s
  s.updMc c fun m => { m with leakAt := s.now }

/-- The logical channel named in a message about physical channel c (0 where it carries none). -/
def State.logName (s : State) (c : Nat) : Nat := (s.logsOf c).headD 0

/-! The remap table (R233 to R235) -/

/-- The addresses of the remap group of channel c. -/
def remapAddrs (c : Nat) : List Nat := (upFrom 0 16).map fun n => (MC_REMAP_VALID c n).addr

/-- The granule entry n covers: in effect, and in the pending copy. -/
def State.remapEff (s : State) (c n : Nat) : Option Nat :=
  if s.erd (MC_REMAP_VALID c n) = 1 then some (s.erd (MC_REMAP_GRANULE c n)) else none
def State.remapPend (s : State) (c n : Nat) : Option Nat :=
  if s.flag (MC_REMAP_VALID c n) then some (s.rd (MC_REMAP_GRANULE c n)) else none

/-- The first valid pending entry that names the granule of an earlier one (R234). -/
def State.remapDup (s : State) (c : Nat) : Option Nat :=
  (upFrom 0 16).find? fun n => match s.remapPend c n with
    | some g => (upFrom 0 n).any fun m => s.remapPend c m = some g
    | none => false

/-- The granule's current data for a slot: the write buffer's, else read and corrected (R234). -/
def State.remapLoad (s : State) (c gran : Nat) : State × GranRes :=
  match s.wbFind c gran with
  | some e => s.wbCheck (s.almAcc 1) (s.logName c) c e
  | none => s.arrayRead (s.almAcc 1) (s.logName c) c gran 0

/-- Load the slots of the entries listed, or name the first whose granule is uncorrectable. -/
def State.remapLoads (s : State) (c : Nat) : List (Nat × Nat) → List (Nat × Nat × List Byte) →
    State × (Nat ⊕ List (Nat × Nat × List Byte))
  | [], acc => (s, .inr acc)
  | (n, g) :: rest, acc =>
    match s.remapLoad c g with
    | (s, .data d) => s.remapLoads c rest (acc ++ [(n, g, d)])
    | (s, _) => (s, .inl n)

/-- USED follows the entries in effect. -/
def State.remapUsed (s : State) (c : Nat) : State :=
  s.put (MC_REMAP_CTRL_USED c) ((upFrom 0 16).filter fun n => (s.remapEff c n).isSome).length

/-- A refused commit (R234). -/
def State.remapRefuse (s : State) (c cause n : Nat) : State :=
  ((s.on (MC_REMAP_CTRL_COMMIT_ERR c)).put (MC_REMAP_CTRL_CAUSE c) cause).put (MC_REMAP_CTRL_ENTRY c) n

/-! Spare rows (R237, R238) -/

/-- Spare rows of bank b that are used, or failed a march (R386). -/
def State.sparesGone (s : State) (c b : Nat) : List Nat :=
  (upFrom 0 16).filter fun n =>
    (s.mc c).repaired.any (fun x => x.1 / 32768 = b && x.2 = n) || (s.mc c).badRows.contains (b * 16 + n)

/-- Bank and row of a granule as one number. -/
def rowKey (gran : Nat) : Nat := bankOf gran * 32768 + rowOf gran

/-- The 16 granules of a row. -/
def rowGrans (key : Nat) : List Nat :=
  let b := key / 32768
  (upFrom 0 16).map fun i => b / 32 * 2 ^ 24 + key % 32768 * 512 + b % 32 * 16 + i

/-- Schedule the repair of a granule's row, unless it is scheduled or its bank has no spare row left (R237, R238). -/
def State.rowSchedule (s : State) (c gran : Nat) : State :=
  if (s.sparesGone c (bankOf gran)).length = 16 || (s.mc c).repairRows.contains (rowKey gran) then s
  else (s.updMc c fun m => { m with repairRows := m.repairRows ++ [rowKey gran] }).on (MC_ROWREP_PENDING c)

/-- The rows that hold two granules covered by remap entries are scheduled (R237). -/
def State.rowScan (s : State) (c : Nat) : State :=
  let gs := (upFrom 0 16).filterMap (s.remapEff c)
  s.each (gs.filter fun g => 2 ≤ (gs.filter fun h => rowKey h = rowKey g).length) fun s g => s.rowSchedule c g

/-- USED and BANKS_FULL follow the repair fuses of the layer (R238). -/
def State.rowCount (s : State) (c : Nat) : State :=
  (s.put (MC_ROWREP_USED c) (s.mc c).repaired.length).put (MC_ROWREP_BANKS_FULL c)
    ((upFrom 0 64).filter fun b => ((s.mc c).repaired.filter fun x => x.1 / 32768 = b).length = 16).length

/-- Commit the remap group of channel c (R234); does it pass? -/
def State.remapCommit (s : State) (c : Nat) : State × Bool :=
  match s.remapDup c with
  | some n => (s.remapRefuse c 1 n, false)
  | none =>
    let changed := (upFrom 0 16).filter fun n => s.remapEff c n ≠ s.remapPend c n
    match s.remapLoads c (changed.filterMap fun n => (s.remapPend c n).map fun g => (n, g)) [] with
    | (s, .inl n) => (s.remapRefuse c 2 n, false)
    | (s, .inr loads) =>
      let s := s.each changed fun s n => match s.remapEff c n with
        | some g => let x := (s.mc c).slots.getD n {}; s.arrayStore c g x.data x.mask
        | none => s
      let s := s.each loads fun s x => s.slotStore c x.1 x.2.1 x.2.2 0
      (((s.commitAll (remapAddrs c)).remapUsed c).rowScan c, true)

/-- Write entry n of the pending copy. -/
def State.remapSet (s : State) (c n : Nat) (g : Option Nat) : State :=
  match g with
  | some g => (s.put (MC_REMAP_VALID c n) 1).put (MC_REMAP_GRANULE c n) g
  | none => s.put (MC_REMAP_VALID c n) 0

/-- Handle the oldest granule the tracker has passed on (R233, R235, R237). -/
def State.remapAllocate (s : State) (c : Nat) : State :=
  match (s.mc c).wanted with
    | [] => s
    | g :: rest =>
      let s := s.updMc c fun m => { m with wanted := rest }
      if (s.slotOf c g).isSome then s
      else if ! s.flag (MC_REMAP_CTRL_AUTO c) then
        (s.log 0x0116 srcAlmanac (cubeAddr (s.logName c) g)).on (MC_REMAP_STAT_WANTED c)
      else match (upFrom 0 16).find? (fun n =>
          (s.remapEff c n).isNone && (s.remapPend c n).isNone && ! (s.mc c).badSlots.contains n) with
        | none =>
          ((s.on (MC_REMAP_STAT_FULL c)).raiseKD (srcMc c) 0x34 (cubeAddr (s.logName c) g) 0).rowSchedule c g
        | some n =>
          match (s.remapSet c n (some g)).remapCommit c with
          | (s, false) => s.remapSet c n none
          | (s, true) => s

/-- REMAP_ALLOCATE (R233, R235, R237). -/
def execRemapAllocate (c : Fin 34) (s : State) : Outcome :=
  .next (if s.restarting then s else s.remapAllocate c)

/-- REMAP_COMMIT (R233, R234): while AUTO is 1 only the Almanac commits. -/
def execRemapCommit (c : Fin 34) (host : Bool) (s : State) : Outcome :=
  .next (if host && s.flag (MC_REMAP_CTRL_AUTO c) then s else (s.remapCommit c).1)

/-- Does a holiday stay open for at least n µs more (R64: it ends when VT reaches its end)? -/
def State.holidayFor (s : State) (h : Window) (us : Nat) : Bool :=
  ! s.reached h.stop && us * 1000000 ≤ vtDiff h.stop s.vt.vt * s.rd VT_TICK_PS_TICK_PS

/-- Is partition p in MAINT, or inside a holiday that stays open for at least n µs more (R245, R237)? -/
def State.partOpen (s : State) (p us : Nat) : Bool :=
  s.pmode p = modeMaint || s.vt.holidays.any fun h =>
    (h.scope = 0xFF || h.scope = p) && s.holidayFor h us

/-- The partitions with a region on the logical channel of physical channel c. -/
def State.ownersOf (s : State) (c : Nat) : List Nat := (s.logsOf c).flatMap s.chanParts

/-- Is there a window for a row repair on channel c, open for at least n µs more (R237): a holiday that covers the channel,
or every partition with a region on it in MAINT? -/
def State.rowOpen (s : State) (c us : Nat) : Bool :=
  let ps := s.ownersOf c
  ps.all (fun p => s.pmode p = modeMaint) ||
    ps.all fun p => s.vt.holidays.any fun h => (h.scope = 0xFF || h.scope = p) && s.holidayFor h us

/-- Is channel c open for retraining (R245)? Its logical channels are those of its layer: R245 speaks of two (DEDUCED,
log 205). -/
def State.chanOpen (s : State) (c us : Nat) : Bool :=
  (s.ownersOf (c / 2 * 2) ++ s.ownersOf (c / 2 * 2 + 1)).all fun p => s.partOpen p us

/-- One granule moves to the spare row: corrected, or as it stands when it is uncorrectable, which is logged. -/
def State.rowMove (s : State) (c gran : Nat) : State :=
  match s.arrayRead (s.almAcc 1) (s.logName c) c gran 0 with
  | (s, .data d) => s.arrayStore c gran d 0
  | (s, _) =>
    let x := s.stored c gran
    (s.arrayStore c gran x.1 x.2).log 0x0115 (srcMc c) (cubeAddr (s.logName c) gran + 2 ^ 64)

/-- The oldest scheduled repair is done with. -/
def State.rowDone (s : State) (c : Nat) : State :=
  let s := s.updMc c fun m => { m with repairRows := m.repairRows.drop 1 }
  s.putb (MC_ROWREP_PENDING c) (! (s.mc c).repairRows.isEmpty)

/-- ROW_REPAIR (R237, R238). -/
def execRowRepair (c : Fin 34) (s : State) : Outcome :=
  .next (if s.restarting then s else match (s.mc c).repairRows with
    | [] => s
    | key :: _ =>
      let b := key / 32768
      match (upFrom 0 16).find? fun n => ! (s.sparesGone c b).contains n with
      | none => s.rowDone c
      | some sp =>
        if s.paused || s.mcState c = 4 || ! s.rowOpen c 150 then s
        else
          let s := s.each (rowGrans key) fun s g => s.rowMove c g
          let s := ((s.updMc c fun m => { m with repaired := m.repaired ++ [(key, sp)] }).rowDone c).rowCount c
          -- the Almanac frees entries only while AUTO is 1, and only those whose copies are equal (R412)
          let s := if ! s.flag (MC_REMAP_CTRL_AUTO c) then s
            else (s.each (upFrom 0 16) fun s n =>
              if s.remapPend c n = s.remapEff c n && (s.remapPend c n).any fun g => rowKey g = key then s.remapSet c n none
              else s).remapCommit c |>.1
          s.log 0x0115 (srcMc c) (b / 32 + b % 32 * 2 ^ 8 + key % 32768 * 2 ^ 16 + sp * 2 ^ 32))

/-! The checker test (R240) -/

/-- The mask the FLIP registers hold. -/
def State.flipMask (s : State) (c : Nat) : BitVec 576 :=
  BitVec.ofNat 576 ((upFrom 0 18).foldl (fun a n => a + (s.reg (MC_ECC_FLIP_SYM_EVEN c n).addr).toNat * 2 ^ (32 * n)) 0)

/-- ARM. -/
def State.flipArm (s : State) (c : Nat) : State :=
  let m := s.flipMask c
  let sel := s.rd (MC_ECC_FLIP_CTRL_PCSEL c)
  (s.updMc c fun x => { x with flipMask := m, flipSel := sel }).on (MC_ECC_FLIP_CTRL_ARMED c)

/-- DISARM. -/
def State.flipDisarm (s : State) (c : Nat) : State := s.off (MC_ECC_FLIP_CTRL_ARMED c)

/-- ECC_FLIP_ARM (R240). -/
def execEccFlipArm (c : Fin 34) (s : State) : Outcome := .next (s.flipArm c)

/-- ECC_FLIP_DISARM (R240). -/
def execEccFlipDisarm (c : Fin 34) (s : State) : Outcome := .next (s.flipDisarm c)

end Sys2Proof.Machine
end

