-- ==== Sys2Proof/Machine/McTrain.lean ====
section
/-! DEFINITION. Training, shift repair, substitution and migration (chapter 12). -/
namespace Sys2Proof.Machine
open Csr

/-! Windows (R241) -/

/-- A TSV's window: its width and its centre, in delay steps. -/
structure Win where
  width : Nat
  centre : Nat
deriving DecidableEq, Repr, Inhabited

/-- The longest run of clean steps from lo up to hi, the first of equals: where it begins, and its length (R241). -/
def longestRun (m : BitVec 128) (lo hi : Nat) : Nat × Nat :=
  ((upFrom lo (hi - lo)).foldl (fun (b : (Nat × Nat) × Nat) i =>
    if m.getLsbD i then
      let n := b.2 + 1
      (if b.1.2 < n then (i + 1 - n, n) else b.1, n)
    else (b.1, 0)) ((0, 0), 0)).1

/-- The window that a sweep of the steps from lo up to hi finds: its centre is the middle step, rounded down (R241). -/
def winIn (m : BitVec 128) (lo hi : Nat) : Win :=
  let r := longestRun m lo hi
  Win.mk r.2 (r.1 + (r.2 - 1) / 2)

/-- The window of a full sweep. -/
def winOf (m : BitVec 128) : Win := winIn m 0 128

/-- A TSV that a list of maps does not reach is clean at every step. -/
def mapAt (ms : List (BitVec 128)) (n : Nat) : BitVec 128 := ms.getD n (BitVec.allOnes 128)

/-- The windows of a channel: read and write of the DQs (36h + j), and those of the 14 CA signals. -/
structure Wins where
  rd : List Win
  wr : List Win
  ca : List Win
deriving DecidableEq, Repr, Inhabited

/-- The windows of a sweep over every step. -/
def sweepWins (w : Sweep) : Wins where
  rd := (upFrom 0 72).map fun n => winOf (mapAt w.rd n)
  wr := (upFrom 0 72).map fun n => winOf (mapAt w.wr n)
  ca := (upFrom 0 14).map fun n => winOf (mapAt w.ca n)

/-- The least width a DQ window must have. -/
def State.dqNeeds (s : State) (c n : Nat) : Nat :=
  max 1 (4 * s.rd (MC_TRN_CFG_MIN_WIN c) + (if s.flag (MC_TRN_DQWIN_STRESS c n) then 4 else 0))

/-- The least width a CA window must have. -/
def State.caNeeds (s : State) (c : Nat) : Nat := max 1 (4 * s.rd (MC_TRN_CFG_MIN_WIN c))

/-- The narrower width of a DQ's two windows. -/
def Wins.dqWidth (w : Wins) (n : Nat) : Nat := min (w.rd.getD n default).width (w.wr.getD n default).width

/-- Do both windows of DQ n (36h + j) pass? -/
def State.dqHolds (s : State) (c n : Nat) (w : Wins) : Bool := s.dqNeeds c n ≤ w.dqWidth n

/-- The DQs whose windows fail. -/
def State.dqFails (s : State) (c : Nat) (w : Wins) : List Nat := (upFrom 0 72).filter fun n => ! s.dqHolds c n w

/-- The CA signals whose windows fail. -/
def State.caFails (s : State) (c : Nat) (w : Wins) : List Nat :=
  (upFrom 0 14).filter fun j => (w.ca.getD j default).width < s.caNeeds c

/-- The first of the narrowest of n windows, by number. -/
def narrowest (width : Nat → Nat) (n : Nat) : Nat :=
  (upFrom 1 (n - 1)).foldl (fun b j => if width j < width b then j else b) 0

/-- Take the windows of DQ n into use (R243). A width of 128 does not fit the field, which shows 127. -/
def State.dqTake (s : State) (c n : Nat) (w : Wins) : State :=
  let r := w.rd.getD n default
  let x := w.wr.getD n default
  (((s.put (MC_TRN_DQWIN_RD_WIDTH c n) (min 127 r.width)).put (MC_TRN_DQWIN_RD_CENTER c n) r.centre).put
    (MC_TRN_DQWIN_WR_WIDTH c n) (min 127 x.width)).put (MC_TRN_DQWIN_WR_CENTER c n) x.centre

/-- Take all windows into use, with the narrowest of each pseudo-channel and of the CA (R243). -/
def State.takeWins (s : State) (c : Nat) (w : Wins) : State :=
  let s := s.each (upFrom 0 72) fun s n => s.dqTake c n w
  let n0 := narrowest w.dqWidth 36
  let n1 := narrowest (fun j => w.dqWidth (36 + j)) 36
  let ca := w.ca.getD (narrowest (fun j => (w.ca.getD j default).width) 14) default
  let s := ((((s.put (MC_TRN_WORST_WIN0 c) (w.dqWidth n0)).put (MC_TRN_WORST_DQ0 c) n0).put (MC_TRN_WORST_WIN1 c)
    (w.dqWidth (36 + n1))).put (MC_TRN_WORST_DQ1 c) n1)
  ((s.put (MC_TRN_CA_WIDTH c) ca.width).put (MC_TRN_CA_CENTER c) ca.centre).updMc c fun m => { m with
    caWin := w.ca.map fun x => (x.width, x.centre) }

/-! Shift repair (R248 to R250) -/

/-- The repaired DQ positions of pseudo-channel h. -/
def State.dqReps (s : State) (c h : Nat) : List Nat :=
  (if h = 0 then [s.rd (MC_TSV_DQ_REP0_PC0 c), s.rd (MC_TSV_DQ_REP1_PC0 c)]
    else [s.rd (MC_TSV_DQ_REP0_PC1 c), s.rd (MC_TSV_DQ_REP1_PC1 c)]).filter fun p => p ≠ 0x3F

/-- The TSV position that carries DQ j: each repaired position moves the signals at and above it up by one. -/
def State.dqPos (s : State) (c h j : Nat) : Nat :=
  ((s.dqReps c h).mergeSort).foldl (fun p f => if f ≤ p then p + 1 else p) j

/-- The TSV position that carries CA signal j. -/
def State.caPos (s : State) (c j : Nat) : Nat := if s.rd (MC_TSV_CA_REP c) ≤ j then j + 1 else j

/-- What a failed position leads to. -/
inductive TsvRes where
  | repaired
  | kept
  | failed
deriving DecidableEq, Repr

/-- A repair counts in REPAIRS where it is made in the field. -/
def State.repairCount (s : State) (c : Nat) : State := if s.devMode = modeBoot then s else s.inc (MC_TSV_STAT_REPAIRS c)

/-- The suspect mark of pseudo-channel h clears. -/
def State.unsuspect (s : State) (c h : Nat) : State :=
  s.off (if h = 0 then MC_ECC_DQSUS_VALID0 c else MC_ECC_DQSUS_VALID1 c)

/-- Does the position carry the suspect DQ of pseudo-channel h (R231)? A shift that takes it out of use clears the mark
(R248). -/
def State.suspectAt (s : State) (c h pos : Nat) : Bool :=
  (upFrom 0 36).any fun j => s.suspect c h j && s.dqPos c h j = pos

/-- A DQ position of pseudo-channel h has failed: the shift moves on to the next spare, or with both spares in use the first
dead position stays corrected, and a second one fails the channel (R248, R250). -/
def State.dqFail (s : State) (c h pos : Nat) : State × TsvRes :=
  let reps := s.dqReps c h
  let dead := (s.mc c).deadDq
  if reps.contains pos || dead.contains (h, pos) then (s, .kept)
  else if reps.length < 2 then
    let f := if h = 0 then (if reps.isEmpty then MC_TSV_DQ_REP0_PC0 c else MC_TSV_DQ_REP1_PC0 c)
      else (if reps.isEmpty then MC_TSV_DQ_REP0_PC1 c else MC_TSV_DQ_REP1_PC1 c)
    let s := s.when (s.suspectAt c h pos) fun s => s.unsuspect c h
    (((s.put f pos).repairCount c).log 0x0113 (srcMc c) (pos + h * 2 ^ 8 + (reps.length + 1) * 2 ^ 16), .repaired)
  else if dead.any (fun x => x.1 = h) then (s, .failed)
  else
    let s := ((s.on (if h = 0 then MC_TSV_STAT_DQ_EXH0 c else MC_TSV_STAT_DQ_EXH1 c)).raiseKD (srcMc c) 0x3D 0 h).updMc c
      fun m => { m with deadDq := (h, pos) :: m.deadDq }
    (if s.flag MC_LAYER_STAT_SPARE_FREE && ! s.migrating then s.layerFail (c / 2) [c] else s, .kept)

/-- A CA position has failed: the spare takes over, or the channel fails (R248, R250). The spare itself, open while it is
not in use, carries no signal: it counts as used. -/
def State.caFail (s : State) (c pos : Nat) : State × TsvRes :=
  if s.rd (MC_TSV_CA_REP c) = pos then (s, .kept)
  else if s.flag (MC_TSV_STAT_CA_EXH c) then (if pos = 14 && s.rd (MC_TSV_CA_REP c) = 0xF then (s, .kept) else (s, .failed))
  else if pos = 14 then (s.on (MC_TSV_STAT_CA_EXH c), .kept)
  else (((((s.put (MC_TSV_CA_REP c) pos).on (MC_TSV_STAT_CA_EXH c)).repairCount c).log 0x0113 (srcMc c) (pos + 2 ^ 9)),
    .repaired)

/-- Handle a list of failed positions; did any repair change a path, did any fail the channel? -/
def State.tsvFails (s : State) (c : Nat) (dqs : List (Nat × Nat)) (cas : List Nat) : State × Bool × Bool :=
  let r := dqs.foldl (fun (a : State × Bool × Bool) x =>
    let y := a.1.dqFail c x.1 x.2
    (y.1, a.2.1 || y.2 = .repaired, a.2.2 || y.2 = .failed)) (s, false, false)
  cas.foldl (fun (a : State × Bool × Bool) x =>
    let y := a.1.caFail c x
    (y.1, a.2.1 || y.2 = .repaired, a.2.2 || y.2 = .failed)) r

/-- The TSV position (pseudo-channel, position) of DQ n (36h + j). -/
def State.dqAt (s : State) (c n : Nat) : Nat × Nat := (n / 36, s.dqPos c (n / 36) (n % 36))

/-- One step of a full training (R242): what an attempt finds failing is repaired, and after a repair the step is repeated.
What the attempt that ends the step measured, or none where the channel fails. -/
def State.attempts {α : Type} (s : State) (c : Nat) (fails : State → α → List (Nat × Nat) × List Nat) (clean : α) :
    List α → State × Option α
  | [] => (s, some clean)
  | a :: rest =>
    let f := fails s a
    let r := s.tsvFails c f.1 f.2
    if r.2.2 then (r.1, none)
    else if r.2.1 then r.1.attempts c fails clean rest
    else (r.1, some a)

/-- A channel fails full training (R243). -/
def State.trainFailed (s : State) (c : Nat) : State :=
  ((s.on (MC_TRN_STAT_FAIL c)).raiseKD (srcMc c) 0x3B 0 0).layerFail (c / 2) [c]

/-- Signals that a list of maps shows with no window at all. -/
def blind (ms : List (BitVec 128)) (n : Nat) : List Nat := (upFrom 0 n).filter fun j => (winOf (mapAt ms j)).width = 0

/-- Steps 2 to 5 of a full training (R242): the windows found, none where the channel fails. -/
def State.trainSweeps (s : State) (c : Nat) (run : TrainRun) : State × Option Wins :=
  match s.attempts c (fun s ms => ([], (blind ms 14).map (s.caPos c))) [] run.ca with
  | (s, none) => (s, none)
  | (s, some ca) => match s.attempts c (fun s ms => ((blind ms 72).map (s.dqAt c), [])) [] run.rd with
    | (s, none) => (s, none)
    | (s, some rd) => match s.attempts c (fun s ms => ((blind ms 72).map (s.dqAt c), [])) [] run.wr with
      | (s, none) => (s, none)
      | (s, some wr) =>
        let r := s.attempts c (fun s (w : Sweep) =>
          ((s.dqFails c (sweepWins w)).map (s.dqAt c), (s.caFails c (sweepWins w)).map (s.caPos c))) (Sweep.mk [] [] [])
          (Sweep.mk rd wr ca :: run.margin)
        (r.1, r.2.map sweepWins)

/-- A full training (R242, R243): its five steps in order; its settings are taken into use only when it completes. -/
def State.fullTraining (s : State) (c kind : Nat) (run : TrainRun) : State :=
  match s.attempts c (fun _ (o : Opens) => (o.dq.map (fun x => (x.1.val, x.2.val)), o.ca.map (·.val))) (Opens.mk [] [])
      run.opens with
  | (s, none) => s.trainFailed c
  | (s, some _) => match s.trainSweeps c run with
    | (s, none) => s.trainFailed c
    | (s, some w) => (s.takeWins c w).trained c kind

/-- May a full training run in the field (R246)? -/
def State.fullOpen (s : State) (c : Nat) : Bool := (s.ownersOf c).all fun p => s.pmode p = modeMaint

/-- A full training in the field begins (R245, R246): the channel's requests are held, its write buffer drains. -/
def State.fullBegin (s : State) (c : Nat) : State :=
  (((s.drainTo c 0 36).on (MC_TRN_STAT_RUNNING c)).updMc c fun m => { m with fullRun := true }).gateRefresh

/-- The full training of channel c no longer runs. -/
def State.fullOver (s : State) (c : Nat) : State :=
  (s.off (MC_TRN_STAT_RUNNING c)).updMc c fun m => { m with fullRun := false }

/-- CHANNEL_FULL_TRAINING (R242, R243, R246): at BOOT, or in the field when it is requested and the channel is free; there
the first such command begins it and the next one brings it to its end, or abandons it where the channel is free no
longer. None begins or repairs while the Almanac restarts (R346). -/
def execChannelFullTraining (c : Fin 34) (run : TrainRun) (s : State) : Outcome :=
  .next (if s.paused || s.mcState c = 4 then s
    else if s.restarting then s
    else if s.devMode = modeBoot then (if s.rd GLOBAL_BOOT_STEP = 5 then s.fullTraining c 1 run else s)
    else if (s.mc c).fullRun then
      if s.fullOpen c then (s.fullOver c).fullTraining c 3 run else s.fullOver c
    else if ((s.mc c).fullReq || s.flag (MC_TRN_STAT_ESCALATED c)) && s.fullOpen c && ! s.flag (MC_TRN_STAT_RUNNING c) then
      s.fullBegin c
    else s)

/-! Retraining (R244 to R247) -/

/-- The steps within 16 of a centre in use. -/
def incRange (centre : Nat) : Nat × Nat := (centre - 16, min 128 (centre + 17))

/-- The window that an incremental sweep finds around a centre. -/
def incWin (m : BitVec 128) (centre : Nat) : Win := winIn m (incRange centre).1 (incRange centre).2

/-- Does an incremental sweep around a centre show a window edge: steps of both kinds? -/
def incEdge (m : BitVec 128) (centre : Nat) : Bool :=
  let steps := upFrom (incRange centre).1 ((incRange centre).2 - (incRange centre).1)
  steps.any m.getLsbD && ! steps.all m.getLsbD

/-- The centres in use: read and write of the DQs, and the CA signals. -/
def State.centres (s : State) (c : Nat) : List Nat × List Nat × List Nat :=
  ((upFrom 0 72).map fun n => s.rd (MC_TRN_DQWIN_RD_CENTER c n), (upFrom 0 72).map fun n => s.rd (MC_TRN_DQWIN_WR_CENTER c n),
    (upFrom 0 14).map fun j => ((s.mc c).caWin.getD j (0, 0)).2)

/-- The windows of an incremental sweep (R241, R246). -/
def State.incWins (s : State) (c : Nat) (w : Sweep) : Wins :=
  let f := fun (ms : List (BitVec 128)) (cs : List Nat) => (upFrom 0 cs.length).map fun n => incWin (mapAt ms n) (cs.getD n 0)
  Wins.mk (f w.rd (s.centres c).1) (f w.wr (s.centres c).2.1) (f w.ca (s.centres c).2.2)

/-- Is DQ n dead, its spares being exhausted (R250)? -/
def State.dqDead (s : State) (c n : Nat) : Bool := (s.mc c).deadDq.contains (s.dqAt c n)

/-- Does every TSV of an incremental sweep show an edge, and every window pass, but for a dead DQ (R246, R250)? -/
def State.incHolds (s : State) (c : Nat) (w : Sweep) : Bool :=
  let cs := s.centres c
  let x := s.incWins c w
  ((upFrom 0 72).all fun n => s.dqDead c n ||
    (incEdge (mapAt w.rd n) (cs.1.getD n 0) && incEdge (mapAt w.wr n) (cs.2.1.getD n 0) && s.dqHolds c n x)) &&
  ((upFrom 0 14).all fun j => incEdge (mapAt w.ca j) (cs.2.2.getD j 0)) && (s.caFails c x).isEmpty

/-- A full training is needed (R246). -/
def State.escalate (s : State) (c : Nat) : State :=
  if s.flag (MC_TRN_STAT_DUE c) then (s.on (MC_TRN_STAT_ESCALATED c)).off (MC_TRN_STAT_DUE c)
  else if s.flag (MC_TRN_STAT_ESCALATED c) then s
  else (s.updMc c fun m => { m with dueSince := s.now }).on (MC_TRN_STAT_ESCALATED c)

/-- An incremental retraining ends (R244 to R246): the new settings, or escalation with the old ones. -/
def State.retrainEnds (s : State) (c : Nat) (w : Sweep) : State :=
  let s := s.off (MC_TRN_STAT_RUNNING c)
  let s := if s.incHolds c w then (s.takeWins c (s.incWins c w)).trained c 2 else s.escalate c
  if (s.mc c).reqAgain then (s.updMc c fun m => { m with reqAgain := false }).setDue c else s

/-- RETRAIN_PERIOD_DUE (R244). -/
def execRetrainPeriodDue (c : Fin 34) (s : State) : Outcome :=
  .next (
    let p := s.rd (MC_TRN_CFG_PERIOD_S c)
    if p ≠ 0 && (s.mc c).trainedAt + p * 1000000 ≤ s.now then s.setDue c else s)

/-- A request for retraining (R244): while one runs, for after it. -/
def State.trainReq (s : State) (c : Nat) : State :=
  if s.flag (MC_TRN_STAT_RUNNING c) then (s.setDue c).updMc c fun m => { m with reqAgain := true } else s.setDue c

/-- A request for full training (R246). -/
def State.trainFull (s : State) (c : Nat) : State := s.updMc c fun m => { m with fullReq := true }

/-- REQ (R244). -/
def execTrainReq (c : Fin 34) (s : State) : Outcome := .next (s.trainReq c)

/-- FULL (R246). -/
def execTrainFull (c : Fin 34) (s : State) : Outcome := .next (s.trainFull c)

/-- TRAIN_OVERDUE (R247). -/
def execTrainOverdue (c : Fin 34) (s : State) : Outcome :=
  .next (
    let o := s.rd (MC_TRN_CFG_OVERDUE_S c)
    let from_ := match (s.mc c).overdueMsg with
      | some t => t
      | none => (s.mc c).dueSince
    if o ≠ 0 && (s.flag (MC_TRN_STAT_DUE c) || s.flag (MC_TRN_STAT_ESCALATED c)) && from_ + o * 1000000 ≤ s.now then
      ((s.on (MC_TRN_STAT_OVERDUE c)).raiseKD (srcMc c) 0x3C 0 0).updMc c fun m => { m with overdueMsg := some s.now }
    else s)

/-- The signals shifted to other TSVs are retrained (R248 step 4): their windows are taken into use, or, where one fails
R241, the old settings stay and a full training is needed (R246). -/
def State.shiftTrain (s : State) (c h j : Nat) (w : Sweep) : State :=
  let ns := ((upFrom j (36 - j)).map fun i => 36 * h + i).filter fun n => ! s.dqDead c n
  if ns.all (fun n => s.dqHolds c n (sweepWins w)) then s.each ns fun s n => s.dqTake c n (sweepWins w) else s.escalate c

/-- TSV_DQ_REPAIR (R248, R250): the interconnect test of the suspect position passes or not, and what the retraining
finds. -/
def execTsvDqRepair (c : Fin 34) (pc : Fin 2) (sound : Bool) (sweep : Sweep) (s : State) : Outcome :=
  .next (
    let h := pc.val
    let sus := if h = 0 then s.flag (MC_ECC_DQSUS_VALID0 c) else s.flag (MC_ECC_DQSUS_VALID1 c)
    let j := if h = 0 then s.rd (MC_ECC_DQSUS_SYM0 c) else s.rd (MC_ECC_DQSUS_SYM1 c)
    let n := 36 * h + j
    if ! sus || s.paused || s.restarting || (s.mc c).migTo.isSome || s.mcState c = 4 || ! s.chanOpen c 100 then s
    else
      let s := s.drainTo c 0 36
      if sound && s.dqHolds c n (sweepWins sweep) then
        ((((s.dqTake c n (sweepWins sweep)).unsuspect c h).inc (MC_TSV_STAT_REPAIRS c)).log 0x0114 (srcMc c)
          (s.dqPos c h j + h * 2 ^ 8))
      else match s.dqFail c h (s.dqPos c h j) with
        | (s, .repaired) => (s.shiftTrain c h j sweep).unsuspect c h
        | (s, .kept) => s
        | (s, .failed) => s.layerFail (c / 2) [c])

/-- A TSV test in the field ends with positions that fail (R248, R250, R386): the channel's requests are held and its write
buffer drains; the shifts are set and the channel retrained; a channel that fails goes to R251. -/
def State.tsvTested (s : State) (c : Nat) (o : Opens) (w : Sweep) : State :=
  let s := s.drainTo c 0 36
  let r := s.tsvFails c (o.dq.map fun y => (y.1.val, y.2.val)) (o.ca.map (·.val))
  let s := r.1
  if r.2.2 then s.layerFail (c / 2) [c]
  else if ! r.2.1 then s
  else if (s.dqFails c (sweepWins w)).all (s.dqDead c) && (s.caFails c (sweepWins w)).isEmpty then s.takeWins c (sweepWins w)
  else s.escalate c

/-! Substitution and migration (R251 to R258) -/

/-- The retraining of the spare channels ends (R252 step 1): the spare layer is ready for the copy. -/
def State.spareReady (s : State) (w0 w1 : Sweep) : State :=
  s.each [(32, w0), (33, w1)] fun s x =>
    if s.migrating && s.flag (MC_TRN_STAT_RUNNING x.1) && ! (s.mc x.1).fullRun then s.retrainEnds x.1 x.2 else s

/-- LAYER_SUBSTITUTION (R251, R252, R257): layer n fails in the channels named; `dead` says they no longer answer. The
sweeps are those of the retraining that readies channels 32 and 33 for a substitution that runs. -/
def execLayerSubstitution (n : Fin 17) (even odd dead : Bool) (w0 w1 : Sweep) (s : State) : Outcome :=
  .next (
    let cs := (if even then [2 * n.val] else []) ++ (if odd then [2 * n.val + 1] else [])
    let s := if dead then s.each cs fun s c => s.updMc c fun m => { m with dead := true } else s
    let s := if cs.isEmpty then s else s.layerFail n cs
    if s.paused then s else s.spareReady w0 w1)

/-- SUBST (R258): refused, or the substitution starts. -/
def State.layerSubst (s : State) (n : Nat) : State :=
  if ! s.flag MC_LAYER_STAT_SPARE_FREE || s.migrating || 16 ≤ n || s.mcState (2 * n) ≠ 0 || s.mcState (2 * n + 1) ≠ 0 then
    s.on MC_LAYER_STAT_REFUSED
  else if s.restarting then s.defer (.subst n)
  else s.substStart n

/-- SUBST (R258). -/
def execLayerSubst (layer : BitVec 5) (s : State) : Outcome := .next (s.layerSubst layer.toNat)

/-- The granules of the log ring on logical channel 1 (R356). -/
def logGran : Nat := 0x7F000000 / 64

/-- The log entries lost with a run of granules of logical channel k: the first SEQ and how many (R255). -/
def State.lostLog (s : State) (k first n : Nat) : Option (Nat × Nat) :=
  if k ≠ 1 then none
  else
    let c := s.alm.copied
    let lost := (upFrom (c - 65536) (min c 65536)).filter fun q =>
      inRange (logGran + q % 65536 / 2) first (first + n)
    lost.head?.map fun q => (q, lost.length)

/-- The Almanac rebuilds at the destination what it has copies of among the lost granules of the system region: training
patterns and remap metadata (R255; their places and contents are free, log entry 175). -/
def State.rebuild (s : State) (c first n : Nat) : State :=
  match (s.mc c).migTo with
  | none => s
  | some d => s.each ((upFrom first n).filter fun g => inSysRegion (64 * g)) fun s g =>
      match Config.almanacCopy s.free (s.logName c) g with
      | none => s
      | some b => { s.arrayStore d g (natLe 64 b.toNat) 0 with free := s.free + 1 }

/-- A run of poisoned granules ends: one MIGRATION_LOSS (R254), lost contents of the regions it touches, what the
Almanac rebuilds, a LOG_GAP for the log entries it held (R255). -/
def State.lossEnds (s : State) (c : Nat) : State :=
  match (s.mc c).lostRun with
  | none => s
  | some (first, n) =>
    let s := s.updMc c fun m => { m with lostRun := none }
    let k := s.logName c
    let ps := s.partsList.filter fun p => (s.partRegions p).any fun g =>
      bit g.chanMask k && g.base < (first + n) * 64 && first * 64 < g.base + g.size
    let s := (s.dataLost ps).raise { src := srcMc c, kind := 0x3E, addr := cubeAddr k first, detail := min n 0xFFFF, also := ps }
    let s := s.rebuild c first n
    match s.lostLog k first n with
    | some (q, m) => s.log 0x0109 srcAlmanac (q + m * 2 ^ 32)
    | none => s

/-- A granule cannot be read: it becomes poisoned at the destination (R254). -/
def State.poison (s : State) (c d gran : Nat) : State :=
  let s := s.arrayStore d gran (List.replicate 64 0) poisonMask
  let s := if s.rd (MC_MIG_LOST_COUNT c) = 0 then s.put (MC_MIG_LOSTFIRST_GRANULE c) gran else s
  (s.inc (MC_MIG_LOST_COUNT c)).updMc c fun m => { m with lostRun := match m.lostRun with
    | some (f, n) => some (f, n + 1)
    | none => some (gran, 1) }

/-- MIGRATION_GRANULE_COPY (R252, R253, R254): the granule at the copy pointer, read in the Almanac's class on the source's
logical channel, once the spare channels are ready. -/
def execMigrationGranuleCopy (c : Fin 34) (upset : BitVec 576) (s : State) : Outcome :=
  .next (match (s.mc c).migTo with
    | none => s
    | some d =>
      let g := s.rd (MC_MIG_PTR_POINTER c)
      let k := s.logName c
      let a := s.almAcc 1
      if s.paused || (s.mc c).migEnd || s.flag (MC_TRN_STAT_RUNNING d) then s
      else if s.memHeld a (cubeAddr k g) 64 then s.portWait a (cubeAddr k g) 64
      else
        let r := if (s.mc c).dead then (s, GranRes.error) else (s.portTake a (cubeAddr k g) 64).mcRead a k c g upset
        let s := match r.2 with
          | .data b => (r.1.lossEnds c).arrayStore d g b 0
          | _ => r.1.poison c d g
        let s := s.each [c.val, d] fun s x => s.put (MC_MIG_PTR_POINTER x) (g + 1)
        if g + 1 = 2 ^ 25 then (s.lossEnds c).updMc c fun m => { m with migEnd := true } else s)

/-- The source channels of the migration that runs. -/
def State.migSources (s : State) : List Nat := (upFrom 0 32).filter fun c => (s.mc c).migTo.isSome

/-- The substitution is over (R252 steps 4 and 5). -/
def State.substEnds (s : State) (n : Nat) (ks : List Nat) : State :=
  let lost := fun h => s.rd (MC_MIG_LOST_COUNT (2 * n + h)) * 2 ^ (32 * h)
  let s := s.each [0, 1] fun s h =>
    let c := 2 * n + h
    let s := (s.chanDead c).updMc c fun m => { m with migTo := none, moving := none }
    let s := s.each [c, 32 + h] fun s x => s.off (MC_MIG_PTR_ACTIVE x)
    -- a fence on the spare channel holds on (R372)
    if (s.fenceOf (srcMc (32 + h))).isSome then s.each (s.logsOf (32 + h)) fun s k => s.loseChan k none
    else s.put (MC_STATE_STATE (32 + h)) 0
  let s := (((s.put MC_LAYER_STAT_SUBST_FROM n).on MC_LAYER_STAT_DONE).off MC_LAYER_STAT_MIGRATING).log2 0x0111 srcAlmanac
    (ks.getD 0 0 + ks.getD 1 0 * 2 ^ 8 + 2 * n * 2 ^ 16 + (2 * n + 1) * 2 ^ 24)
    (ks.getD 0 0 + ks.getD 1 0 * 2 ^ 8 + 32 * 2 ^ 16 + 33 * 2 ^ 24)
  s.log 0x0120 srcAlmanac (lost 0 + lost 1)

/-- MIGRATION_COMPLETE (R252 steps 3 to 5): the copies have ended; the map is committed, and once it has switched the old
channels retire. -/
def execMigrationComplete (s : State) : Outcome :=
  .next (
    let cs := s.migSources
    let n := cs.headD 0 / 2
    if s.paused || cs.isEmpty || ! cs.all (fun c => (s.mc c).migEnd) then s
    else
      let ks := [s.rd (MC_STATE_LOGICAL (2 * n)), s.rd (MC_STATE_LOGICAL (2 * n + 1))]
      if cs.all (fun c => s.logsOf c = []) then
        s.substEnds n [s.rd (MC_STATE_LOGICAL 32), s.rd (MC_STATE_LOGICAL 33)]
      else
        let s := if cs.any (fun c => (s.mc c).moving.isSome) then s
          else ((s.put (MC_CHMAP_PHYS (ks.getD 0 0)) 32).put (MC_CHMAP_PHYS (ks.getD 1 0)) 33).chmapCommit
        let s := (s.each cs fun s c => s.drainTo c 0 64).chmapSwitch
        if cs.all (fun c => s.logsOf c = []) then s.substEnds n ks else s)

end Sys2Proof.Machine
end

