-- ==== Sys2Proof/Machine/Sensors.lean ====
section
/-! DEFINITION. The non-maskable event (R327), layer and site temperatures (R205 to R208, R347, R348, R353, R354). -/
namespace Sys2Proof.Machine
open Csr

/-- Change the management subsystem. -/
def State.updAlm (s : State) (f : AlmUnit → AlmUnit) : State := { s with alm := f s.alm }

/-- ALERT follows the cause bits (R327). -/
def State.alertNow (s : State) : State :=
  s.putb CLKPWR_NMI_ALERT (s.flag CLKPWR_NMI_HCK_LOST || s.flag CLKPWR_NMI_THERMAL_TRIP || s.flag CLKPWR_NMI_RAIL_FAULT ||
    s.flag CLKPWR_NMI_T_FAIL)

/-- A cause of the non-maskable event sets (R327); an IBI with payload 0x02 where IBIs are enabled (R359). -/
def State.nmi (s : State) (f : Fld) : State :=
  let was := s.flag f
  let s := (s.on f).alertNow
  if ! was && s.alm.sb.ibiOn then s.updAlm fun a => { a with sb := { a.sb with ibi := some 2 } } else s

/-- The condition behind a cause bit holds now, so that a clear leaves the bit set (R7, R327). -/
def State.nmiHolds (s : State) : Nat :=
  b2n (s.flag CLKPWR_STATUS_HCK_LOST) + 2 * b2n s.pauses.trip + 4 * b2n s.pauses.rail

/-- Every layer goes into self-refresh (R208, R338). -/
def State.selfRefresh (s : State) : State :=
  s.each ((upFrom 0 34).filter fun c => s.mcState c ≠ 4) fun s c => s.on (MC_STATE_SELFREF c)

/-- Does the planner keep channel c in self-refresh: is it out of service as a spare, and no migration's destination (R203)?
A fence leaves a spare channel what it was. -/
def State.spareOut (s : State) (c : Nat) : Bool :=
  ! s.isDest c && (s.mcState c = 1 || (s.mcState c = 3 && match s.fenceOf (srcMc c) with
    | some f => f.prev = 1
    | none => false))

/-- The layers leave self-refresh, but for an unused spare layer (R203). -/
def State.leaveSelfRefresh (s : State) : State :=
  s.each ((upFrom 0 34).filter fun c => s.mcState c ≠ 4 && ! s.spareOut c) fun s c => s.off (MC_STATE_SELFREF c)

/-- The channels of layer n. -/
def layerChans (n : Nat) : List Nat := [2 * n, 2 * n + 1]

/-- A trip (R208): pause, self-refresh, the non-maskable event; a calibration that runs is abandoned. -/
def State.trip (s : State) (src detail : Nat) : State :=
  if s.pauses.trip then s
  else
    let s := (s.pauseFor fun p => { p with trip := true }).selfRefresh
    let s := s.each (upFrom 0 34) fun s c => s.on (MC_STATE_TRIP c)
    let s := (s.nmi CLKPWR_NMI_THERMAL_TRIP).raiseKD src 0x3A 0 detail
    s.abandonWhere fun x => x.kind = 8

/-- Are reported values held: a calibration runs, or the Almanac restarts (R346, R351)? -/
def State.stale (s : State) : Bool := s.flag ALM_CAL_CTRL_STALE

/-- Round a sum of readings divided by d: the spec gives no rounding, so where the quotient is not whole a free bit
chooses. -/
def State.quot (s : State) (x d : Int) : Int × State :=
  if x % d = 0 then (x / d, s)
  else
    let r := s.drawBit
    (x / d + (b2n r.1 : Int), r.2)

/-! Layers -/

/-- The live effective temperature of layer k, 1/8 °C. -/
def State.layerT (s : State) (k : Nat) : Int := s.alm.eff.toList.getD k 0

/-- Δk in force. -/
def State.delta (s : State) (k : Nat) : Int := sextInt 12 (s.rd (ALM_LAYER_DELTA k))

/-- est(k) of the previous round's temperatures (R353). -/
def State.est (s : State) (k : Nat) : Int × State :=
  let r := if k = 0 then s.quot (32 * s.layerT 1 + s.alm.sites.toList.foldl (fun a x => a + x.temp) 0) 64
    else if k = 16 then (s.layerT 15, s)
    else s.quot (s.layerT (k - 1) + s.layerT (k + 1)) 2
  (r.1 + s.delta k, r.2)

/-- The layer turns hot or back to base (R202, R206, R217). -/
def State.setHot (s : State) (n : Nat) (hot : Bool) : State :=
  s.each ((layerChans n).filter fun c => s.flag (MC_STATE_HOT c) ≠ hot && s.mcState c ≠ 4) fun s c =>
    let s := s.putb (MC_STATE_HOT c) hot
    let s := (s.inc (if hot then MC_HOTCNT_TO_HOT c else MC_HOTCNT_TO_BASE c)).raiseKD (srcMc c)
      (if hot then 0x36 else 0x37) 0 0
    s.each (s.logsOf c) fun s k => if hot then s.bwChan k else s.bwRestore k

/-- The states the effective temperature T of layer n drives (R206); a failed reading makes the layer hot beside it, until the
next valid one (R205). -/
def State.thermal (s : State) (n : Nat) (t : Int) (failed : Bool) : State :=
  let warm := 680 < t || ((s.mc (2 * n)).hotNow && 656 ≤ t)
  let s := (s.updMc (2 * n) fun m => { m with hotNow := warm }).setHot n (failed || warm)
  let above := (s.mc (2 * n)).overRange
  let s := if ! above && 760 < t then
      ((s.each (layerChans n) fun s c => (s.on (MC_STATE_OVER_RANGE c)).updMc c fun m => { m with overRange := true }).log
        0x0117 srcAlmanac n)
    else if above && t < 744 then s.each (layerChans n) fun s c => s.updMc c fun m => { m with overRange := false }
    else s
  let thr := s.flag (MC_STATE_THROTTLE (2 * n))
  let s := if ! thr && 800 ≤ t then
      (s.each (layerChans n) fun s c => s.on (MC_STATE_THROTTLE c)).raiseKD (srcMc (2 * n)) 0x39 0 n
    else if thr && t < 776 then s.each (layerChans n) fun s c => s.off (MC_STATE_THROTTLE c)
    else s
  let s := s.each (layerChans n) fun s c =>
    let d := s.rd (MC_TRN_CFG_TEMP_DELTA c)
    let far := (t - sextInt 12 (s.rd (MC_TRN_AGE_TEMP c))).natAbs
    if d ≠ 0 && s.rd (MC_TRN_STAT_LAST_KIND c) ≠ 0 && 8 * d ≤ far then s.setDue c else s
  if 840 ≤ t then s.trip (srcMc (2 * n)) n else s

/-- The cross-check of layer n's reading with its estimate (R354). -/
def State.crossCheck (s : State) (n : Nat) (read est : Int) : State :=
  let m := s.mc (2 * n)
  let low := if read < est - 32 then m.lowRounds + 1 else 0
  let good := if est - 16 ≤ read then m.goodRounds + 1 else 0
  let s := s.updMc (2 * n) fun m => { m with lowRounds := low, goodRounds := good }
  if low = 4 && ! s.flag (ALM_LAYER_SUSPECT n) then
    ((s.on (ALM_LAYER_SUSPECT n)).raiseKD srcSensors 0x6A 0 n).updAlm fun a => { a with calSuspect := true }
  else if 64 ≤ good && s.flag (ALM_LAYER_SUSPECT n) then (s.off (ALM_LAYER_SUSPECT n)).log 0x0108 srcSensors n
  else s

/-- One layer's round (R205, R353): its estimate is in hand. -/
def State.layerRound (s : State) (n : Nat) (read : Option Int) (est : Int) : State :=
  let t := match read with | some r => max r est | none => est
  let s := s.puti (ALM_LAYER_EST n) est
  let s := s.updAlm fun a => { a with eff := a.eff.setIfInBounds n t }
  let s := match read with
    | some r => s.crossCheck n r est
    | none =>
      let s := s.updMc (2 * n) fun m => { m with lowRounds := 0, goodRounds := 0 }
      (s.each (layerChans n) fun s c => s.on (MC_TEMP_READ_FAIL c)).raiseKD (srcMc (2 * n)) 0x38 0 n
  let s := if s.stale then s
    else s.each (layerChans n) fun s c =>
      (match read with | some r => s.puti (MC_TEMP_READ c) r | none => s).puti (MC_TEMP_EFFECTIVE c) t
  s.thermal n t read.isNone

/-- A reading inside −40 to 150 °C. -/
def validRead (r : Option (BitVec 12)) : Option Int :=
  match r with
  | some v => if -320 ≤ v.toInt && v.toInt ≤ 1200 then some v.toInt else none
  | none => none

/-- Has everything stayed at or below 95.0 °C (R208)? -/
def State.coolNow (s : State) : State :=
  let cool := s.alm.eff.toList.all (fun t => t ≤ 760) && s.alm.sites.toList.all (fun x => x.temp ≤ 760)
  s.updAlm fun a => { a with coolSince := if cool then some (a.coolSince.getD s.now) else none }

/-- The 17 estimates of a round, all from the previous round's temperatures. -/
def State.ests (s : State) : List Nat → List Int → List Int × State
  | [], acc => (acc, s)
  | k :: rest, acc =>
    let r := s.est k
    r.2.ests rest (acc ++ [r.1])

/-- A reading of layer n reaches its controllers while no firmware forms effective temperatures (R205): a valid one shows
in MC_TEMP.READ unless reported values are held, a failed one makes the layer hot until a valid one arrives. -/
def State.bareRead (s : State) (n : Nat) (read : Option Int) : State :=
  match read with
  | some r => if s.stale then s else s.each (layerChans n) fun s c => s.puti (MC_TEMP_READ c) r
  | none => ((s.each (layerChans n) fun s c => s.on (MC_TEMP_READ_FAIL c)).raiseKD (srcMc (2 * n)) 0x38 0 n)

/-- LAYER_TEMP_SAMPLE (R205 to R208, R346, R353, R354): one round of the 17 layers' readings. While the loader runs there is
no firmware to form effective temperatures; while the Almanac restarts the last ones rise by 1 °C. -/
def execLayerTempSample (readings : List (Option (BitVec 12))) (s : State) : Outcome :=
  .next (match s.rd ALM_STATUS_STATE with
    | 0 => s.each (upFrom 0 17) fun s n =>
      let r := validRead (readings.getD n none)
      ((s.bareRead n r).updMc (2 * n) fun m => { m with hotNow := false }).setHot n r.isNone
    | 3 =>
      let s := s.updAlm fun a => { a with eff := a.eff.map fun t => t + 8 }
      (s.each (upFrom 0 17) fun s n =>
        let r := validRead (readings.getD n none)
        (s.bareRead n r).thermal n (s.layerT n) r.isNone).coolNow
    | _ =>
      let r := (s.updAlm fun a => { a with rounds := true }).ests (upFrom 0 17) []
      ((r.2.each (upFrom 0 17) fun s n => s.layerRound n (validRead (readings.getD n none)) (r.1.getD n 0))).coolNow)

/-- TRIP_EXIT (R208, R244). -/
def execTripExit (s : State) : Outcome :=
  .next (match s.alm.coolSince with
    | some t =>
      if s.pauses.trip && t + 10000 ≤ s.now then
        let s := s.each (upFrom 0 34) fun s c => s.off (MC_STATE_TRIP c)
        let s := if s.pauses.rail || s.pauses.deep then s
          else s.leaveSelfRefresh.each ((upFrom 0 34).filter fun c => s.mcState c < 4 && ! s.spareOut c) fun s c => s.setDue c
        s.resumeFrom fun p => { p with trip := false }
      else s
    | none => s)

/-! Base-die sites (R347, R348) -/

/-- The two elements of a pair: 0 A and B, 1 A and C, 2 B and C. -/
def pairOf (e : Int × Int × Int) (p : Nat) : Int × Int :=
  if p = 0 then (e.1, e.2.1) else if p = 1 then (e.1, e.2.2) else e.2

/-- How far apart a pair is. -/
def pairGap (e : Int × Int × Int) (p : Nat) : Nat := ((pairOf e p).1 - (pairOf e p).2).natAbs

/-- The best-agreeing pair, the lowest code of equals. -/
def bestPair (e : Int × Int × Int) : Nat := [1, 2].foldl (fun b p => if pairGap e p < pairGap e b then p else b) 0

/-- An element's value in units of 2^-21 °C: its reading in 1/64 °C times SLOPE (1.15) plus OFFSET in 1/64 °C (R347; the
spec gives the coefficients' units, not the formula: log 86). -/
def State.siteElem (s : State) (n : Nat) (raw : BitVec 16) : Int :=
  raw.toInt * (s.rd (ALM_CAL_COEF_SLOPE n) : Int) + sextInt 16 (s.rd (ALM_CAL_COEF_OFFSET n)) * 2 ^ 15

/-- What voltage monitor r shows in mV: its reading times SLOPE plus OFFSET in 0.1 mV, never below 0 (log 86). -/
def State.railMv (s : State) (r : Nat) (raw : BitVec 16) : Nat × State :=
  let x := (raw.toNat : Int) * (s.rd (ALM_CAL_VCOEF_SLOPE r) : Int) * 10 + sextInt 16 (s.rd (ALM_CAL_VCOEF_OFFSET r)) * 2 ^ 15
  let q := s.quot (max x 0) (10 * 2 ^ 15)
  (q.1.toNat, q.2)

/-- One sample of site n with its corrected elements, in 2^-21 °C. -/
def State.siteRound (s : State) (n : Nat) (e : Int × Int × Int) : State :=
  let x := s.alm.sites.toList.getD n {}
  let best := bestPair e
  let apart := if 2 * 2 ^ 21 < pairGap e (s.rd (ALM_SITE_PAIR n)) then x.apart + 1 else 0
  let agree := if pairGap e best ≤ 2 ^ 21 then x.agree + 1 else 0
  let dis := s.flag (ALM_SITE_DISAGREE n)
  let s := if dis && 64 ≤ agree then (s.off (ALM_SITE_DISAGREE n)).put (ALM_SITE_PAIR n) best
    else if ! dis && 16 ≤ apart then
      if pairGap e best ≤ 2 * 2 ^ 21 then s.put (ALM_SITE_PAIR n) best
      else (s.on (ALM_SITE_DISAGREE n)).raiseKD srcSensors 0x69 0 n
    else s
  let p := pairOf e (s.rd (ALM_SITE_PAIR n))
  let t := if s.flag (ALM_SITE_DISAGREE n) then s.quot (max e.1 (max e.2.1 e.2.2)) (2 ^ 18)
    else s.quot (p.1 + p.2) (2 ^ 19)
  let y := { temp := t.1, apart := if 16 ≤ apart then 0 else apart, agree := agree : Site }
  let s := t.2.updAlm fun a => { a with sites := a.sites.setIfInBounds n y }
  let s := if s.stale then s else s.puti (ALM_SITE_TEMP n) t.1
  if 840 ≤ t.1 then s.trip srcSensors (0x80 + n) else s

/-- SITE_SAMPLE (R347, R348, R208): the readings of the elements of the 32 sites in 1/64 °C, and with them those of the
voltage and current monitors, whose values are held while STALE is set (R346, R351). -/
def execSiteSample (elems : List (BitVec 16 × BitVec 16 × BitVec 16)) (rails phases : List (BitVec 16))
    (vin power : BitVec 16) (s : State) : Outcome :=
  .next (if ! s.sensed then s else
    let s := s.each ((elems.take 32).zip (upFrom 0 32)) fun s x =>
      s.siteRound x.2 (s.siteElem (3 * x.2) x.1.1, s.siteElem (3 * x.2 + 1) x.1.2.1, s.siteElem (3 * x.2 + 2) x.1.2.2)
    let v := s.railMv 5 vin
    let s := v.2.updAlm fun a => { a with vinNow := min v.1 0xFFFF }
    let s := if s.stale then s
      else
        let s := s.each ((rails.take 5).zip (upFrom 0 5)) fun s x =>
          let v := s.railMv x.2 x.1
          v.2.put (CLKPWR_RAIL_MV x.2) v.1
        let s := s.updAlm fun a => { a with vin := a.vinNow, power := power.toNat }
        s.each ((phases.take 28).zip (upFrom 0 28)) fun s x => s.put (CLKPWR_PHASE_MA x.2) x.1.toNat
    s.coolNow)

end Sys2Proof.Machine
end

