-- ==== Sys2Proof/Machine/ClkCmd.lean ====
section
/-! DEFINITION. Root PLLs, the clock monitor, phases and rails (chapter 15). -/
namespace Sys2Proof.Machine
open Csr

/-- The lock and retirement bits of PLL i. -/
def pllLockF (i : Nat) : Fld := if i = 0 then CLKPWR_STATUS_PLL0_LOCK else CLKPWR_STATUS_PLL1_LOCK
def pllRetF (i : Nat) : Fld := if i = 0 then CLKPWR_STATUS_PLL0_RETIRED else CLKPWR_STATUS_PLL1_RETIRED

/-- Change the clock unit. -/
def State.updClk (s : State) (f : ClkUnit → ClkUnit) : State := { s with clocks := f s.clocks }

/-- PLL i tries to relock, or has stopped to. -/
def State.pllTry (s : State) (i : Nat) (b : Bool) : State :=
  s.updClk fun c => if i = 0 then { c with trying0 := b } else { c with trying1 := b }

/-- Does PLL i try to relock? -/
def State.pllTries (s : State) (i : Nat) : Bool := if i = 0 then s.clocks.trying0 else s.clocks.trying1

/-- HCK is lost (R325). -/
def State.hckLost (s : State) : State :=
  if s.flag CLKPWR_STATUS_HCK_LOST then s
  else
    let s := ((((s.on CLKPWR_STATUS_HCK_LOST).on CLKPWR_STATUS_ALM_ROSC).on CLKPWR_STATUS_HKCK_ROSC).off
      CLKPWR_STATUS_SWITCHING).pauseFor fun p => { p with hck := true, switchover := false }
    let s := s.updClk fun c => { c with goodWindows := 0, skipWin := false }
    ((s.nmi CLKPWR_NMI_HCK_LOST).inc CLKPWR_COUNT_LOSSES).raiseKD srcMonitor 0x60 0 0

/-- PLL_UNLOCK (R321, R322, R324). -/
def execPllUnlock (i : Fin 2) (s : State) : Outcome :=
  .next (if ! s.flag (pllLockF i) then s
    else
      let primary := s.rd CLKPWR_STATUS_PRIMARY = i.val
      let s := (s.off (pllLockF i)).pllTry i true
      if ! s.flag CLKPWR_STATUS_PLL0_LOCK && ! s.flag CLKPWR_STATUS_PLL1_LOCK then (s.off CLKPWR_STATUS_STANDBY_OK).hckLost
      else if primary then
        -- in a loss of HCK the PLL that is still locked serves (DEDUCED, log 201)
        if s.flag CLKPWR_STATUS_HCK_LOST then (s.put CLKPWR_STATUS_PRIMARY (1 - i.val)).off CLKPWR_STATUS_STANDBY_OK
        else ((s.on CLKPWR_STATUS_SWITCHING).on CLKPWR_STATUS_ALM_ROSC).pauseFor fun p => { p with switchover := true }
      else s.off CLKPWR_STATUS_STANDBY_OK)

/-- PLL_SWITCHOVER_COMPLETE (R321): the old primary is the standby if it has relocked meanwhile (R322). -/
def execPllSwitchoverComplete (s : State) : Outcome :=
  .next (if ! s.flag CLKPWR_STATUS_SWITCHING then s
    else
      let new := 1 - s.rd CLKPWR_STATUS_PRIMARY
      let s := (((s.put CLKPWR_STATUS_PRIMARY new).off CLKPWR_STATUS_SWITCHING).off CLKPWR_STATUS_ALM_ROSC).putb
        CLKPWR_STATUS_STANDBY_OK (s.flag (pllLockF (1 - new)))
      ((s.inc CLKPWR_COUNT_SWITCHOVERS).raiseKD srcMonitor 0x62 0 new).resumeFrom fun p => { p with switchover := false })

/-- PLL_RELOCK (R322, R326): the standby, or after a loss of HCK the first to relock the primary. -/
def execPllRelock (i : Fin 2) (s : State) : Outcome :=
  .next (if ! s.pllTries i || s.flag (pllRetF i) then s
    else
      let other := s.flag (pllLockF (1 - i))
      let s := (s.on (pllLockF i)).pllTry i false
      -- the monitor windows that count begin after the one in progress (R326)
      if s.flag CLKPWR_STATUS_HCK_LOST && ! other then
        (s.put CLKPWR_STATUS_PRIMARY i).updClk fun c => { c with goodWindows := 0, skipWin := true }
      else if other then s.on CLKPWR_STATUS_STANDBY_OK
      else s)

/-- PLL_RELOCK_TIMEOUT (R322): retired until the next power-up. -/
def execPllRelockTimeout (i : Fin 2) (s : State) : Outcome :=
  .next (if ! s.pllTries i then s
    else ((s.pllTry i false).on (pllRetF i)).raiseKD srcMonitor 0x63 0 i)

/-- HCK is restored (R326). -/
def State.hckBack (s : State) : State :=
  let s := ((s.off CLKPWR_STATUS_HCK_LOST).off CLKPWR_STATUS_ALM_ROSC).off CLKPWR_STATUS_HKCK_ROSC
  (s.raiseKD srcMonitor 0x61 0 0).resumeFrom fun p => { p with hck := false }

/-- Is the primary PLL locked? -/
def State.pllServes (s : State) : Bool := s.flag (pllLockF (s.rd CLKPWR_STATUS_PRIMARY))

/-- Does the clock monitor watch: not in HOLD, and in DEEP only once an exit has a locked PLL or finds HCK lost (R398, R399)? -/
def State.monitors (s : State) : Bool :=
  s.devMode ≠ modeHold && (s.devMode ≠ modeDeep || s.flag CLKPWR_STATUS_HCK_LOST || (s.modes.exiting && s.pllServes))

/-- CLOCK_MONITOR_WINDOW (R324, R326): a window ends with its count. -/
def execClockMonitorWindow (count : BitVec 16) (s : State) : Outcome :=
  .next (if ! s.monitors then s
    else
      let s := s.put CLKPWR_MON_LAST count.toNat
      let good := 4352 ≤ count.toNat && count.toNat ≤ 17408
      let s := if good then s else s.inc CLKPWR_COUNT_BAD_WINDOWS
      if ! s.flag CLKPWR_STATUS_HCK_LOST then if good then s else s.hckLost
      else if ! good then s.updClk fun c => { c with goodWindows := 0, skipWin := false }
      else if ! s.pllServes then s
      else if s.clocks.skipWin then s.updClk fun c => { c with skipWin := false }
      else
        let s := s.updClk fun c => { c with goodWindows := c.goodWindows + 1 }
        if max 1 (s.rd CLKPWR_CFG_RESUME_WINDOWS) ≤ s.clocks.goodWindows then s.hckBack else s)

/-! Phases and rails (R335 to R338) -/

/-- The phase map: the rail of phase p in bits [3p+2:3p]. -/
def State.phaseMap (s : State) : Nat := (upFrom 0 28).foldl (fun a p => a + s.rd (CLKPWR_PHASE_RAIL p) * 8 ^ p) 0

/-- RAIL_DEGRADED says that some rail runs below its minimum of phases (R338). -/
def State.railsDegraded (s : State) : State :=
  s.putb CLKPWR_STATUS_RAIL_DEGRADED ((upFrom 0 5).any fun r => s.rd (CLKPWR_RAIL_PHASES r) < s.rd (CLKPWR_RAIL_MIN r))

/-- Rail r loses a phase that no spare replaces (R336 to R338); below its minimum it is degraded. -/
def State.railLoses (s : State) (r : Nat) : State :=
  let s := (s.put (CLKPWR_RAIL_PHASES r) (s.rd (CLKPWR_RAIL_PHASES r) - 1)).railsDegraded
  if s.rd (CLKPWR_RAIL_PHASES r) < s.rd (CLKPWR_RAIL_MIN r) then s.raiseKD srcRegulator 0x66 0 r else s

/-- The lowest free spare takes the place of phase p of rail r, or the rail runs with one phase fewer (R337); `before` is the phase
map with p. -/
def State.phaseMolt (s : State) (p r before : Nat) : State :=
  match (upFrom 0 28).find? (fun q => s.rd (CLKPWR_PHASE_STATE q) = 1) with
  | some q =>
    let s := (s.put (CLKPWR_PHASE_STATE q) 0).put (CLKPWR_PHASE_RAIL q) r
    ((s.inc CLKPWR_COUNT_PHASE_MOLTS).log2 0x010E srcRegulator before s.phaseMap).raiseKD srcRegulator 0x64 0 (q * 2 ^ 8 + p)
  | none => (s.raiseKD srcRegulator 0x65 0 p).railLoses r

/-- PHASE_FAULT (R337, R338): the phase is disabled at once; its molt waits while the Almanac restarts (R346). -/
def execPhaseFault (p : Fin 28) (s : State) : Outcome :=
  .next (
    let before := s.phaseMap
    let r := s.rd (CLKPWR_PHASE_RAIL p)
    let st := s.rd (CLKPWR_PHASE_STATE p)
    if st = 2 then s
    else
      let s := (s.put (CLKPWR_PHASE_STATE p) 2).put (CLKPWR_PHASE_RAIL p) 7
      if st = 1 then s
      else if s.restarting then s.defer (.phase p r before)
      else s.phaseMolt p r before)

/-- The DRAM contents are lost: every byte reads as memory nothing has written does. -/
def State.dramLost (s : State) : State :=
  { s with dram := [], masks := [], filled := 0, modes := { s.modes with coldDram := true, kept := {} } }

/-- RAIL_FAULT (R338): of a rail other than VAUX. Only a reset leaves it. -/
def execRailFault (r : Fin 4) (s : State) : Outcome :=
  .next (
    let s := ((s.pauseFor fun p => { p with rail := true }).on (CLKPWR_RAIL_FAULT r)).nmi CLKPWR_NMI_RAIL_FAULT
    let s := s.selfRefresh
    if r.val = 1 || r.val = 2 then s.dramLost else s)

end Sys2Proof.Machine
end

