-- ==== Sys2Proof/Machine/FaultCmd.lean ====
section
/-! DEFINITION. The fault collector (R366 to R378): taking a message, quiet periods, FAULT_CTRL, ACK. -/
namespace Sys2Proof.Machine
open Csr

/-- The contents of a fault's log entry (R370): ADDRESS, DETAIL, MASTER, ACCESS, reaction, as one number; their layout in
DATA is open. -/
def Msg.logData (m : Msg) (r : Nat) : Nat :=
  m.addr % 2 ^ 36 + m.detail % 2 ^ 16 * 2 ^ 36 + m.by % 2 ^ 11 * 2 ^ 52 + m.access % 8 * 2 ^ 63 + r % 4 * 2 ^ 66

/-- DETAIL of a fault event (R370). -/
def Msg.eventDetail (m : Msg) (r : Nat) (first : Bool) : Nat :=
  m.src % 1024 + kindSeverity m.kind * 2 ^ 10 + r % 4 * 2 ^ 12 + b2n first * 2 ^ 14 + m.detail % 2 ^ 16 * 2 ^ 16 +
    m.by % 2 ^ 11 * 2 ^ 32 + m.access % 8 * 2 ^ 43

/-- Load the first-error record (R368). -/
def State.feLoad (s : State) (h : HeldMsg) (r : Nat) : State :=
  let m := h.msg
  let s := (((((s.put FAULT_FE_STATUS_ACCESS m.access).put FAULT_FE_STATUS_KIND m.kind).put FAULT_FE_STATUS_SEVERITY
    (kindSeverity m.kind)).put FAULT_FE_STATUS_REACTION r).put FAULT_FE_STATUS_SOURCE m.src).on FAULT_FE_STATUS_VALID
  let s := ((s.put FAULT_FE_ADDR_LO_ADDR m.addr).put FAULT_FE_ADDR_HI_ADDR (m.addr / 2 ^ 32)).put FAULT_FE_MASTER_DETAIL
    m.detail
  let s := (s.put FAULT_FE_MASTER_PORT (m.by / 1024)).put FAULT_FE_MASTER_MASTER m.by
  let s := (s.put FAULT_FE_VT_LO_VT h.vt).put FAULT_FE_VT_HI_VT (h.vt / 2 ^ 32)
  (s.put FAULT_FE_UPTIME_LO_UPTIME h.uptime).put FAULT_FE_UPTIME_HI_UPTIME (h.uptime / 2 ^ 32)

/-- May a (source, kind) pair be logged and forwarded: not within 1 ms of its last entry (R370)? -/
def State.mayLog (s : State) (m : Msg) : Bool :=
  match s.faults.logged.find? fun x => x.1 = (m.src, m.kind) with
  | some x => x.2 + 1000 ≤ s.now
  | none => true

/-- The collector takes a message with its stamps (R368, R370, R371). -/
def State.collect (s : State) (h : HeldMsg) : State :=
  let m := h.msg
  let r := s.rd (FAULT_KIND_REACTION m.kind)
  let s := ((s.noteUnit m).inc (FAULT_KIND_COUNT m.kind)).inc FAULT_COUNT_TOTAL
  let first := ! s.flag FAULT_FE_STATUS_VALID
  let s := if first then s.feLoad h r
    else (s.inc FAULT_COUNT_LATER).updFaults fun f => { f with late := some (s.clk.fclk, h, r) }
  let s := if s.mayLog m then
      let s := s.updFaults fun f => { f with
        logged := ((m.src, m.kind), s.now) :: f.logged.filter fun x => x.1 ≠ (m.src, m.kind) }
      let s := s.logStamped h.vt h.uptime m.kind (logWordOf m.src (kindSeverity m.kind) h.rosc h.unlocked false)
        (Config.logData m.kind (m.logData r) % 2 ^ 96)
      if s.rd FAULT_CFG_EVENT_MIN ≤ kindSeverity m.kind then s.event 0x05 m.kind (m.eventDetail r first) m.addr else s
    else s
  -- any message restarts the quiet period of a unit the policy has fenced (R374)
  let s := s.updFaults fun f => { f with
    fences := f.fences.map fun x => if x.unit = m.src && ! x.host then { x with since := s.now } else x }
  s.react m r

/-- Apply a source's reaction latch (R366): the strongest of log, fence and retire, and the stops. -/
def State.latchApply (s : State) (src : Nat) : State :=
  match s.faults.latches.find? fun x => x.src = src with
  | none => s
  | some l =>
    let s := s.updFaults fun f => { f with latches := f.latches.filter fun x => x.src ≠ src }
    (s.react { src := src, kind := l.kind } l.react).each l.stops fun s m => s.react m 3

/-- The source the collector takes from next: round robin after the last one (R366). -/
def FaultUnit.nextSrc (f : FaultUnit) : Option Nat :=
  let srcs := f.queue.map (·.src) ++ f.latches.map (·.src)
  let least := fun (l : List Nat) => l.foldl (fun (b : Option Nat) x => some (min x (b.getD x))) none
  match least (srcs.filter fun x => f.last < x) with
  | some x => some x
  | none => least srcs

/-- The host clears VALID of the first-error record: a message taken in the same FCLK cycle comes after the clear, and loads the
record (R369); its event says so (R370). -/
def State.feClear (s : State) : State :=
  match s.faults.late with
  | some (t, h, r) =>
    if t ≠ s.clk.fclk || s.flag FAULT_FE_STATUS_VALID then s
    else
      let s := ((s.put FAULT_COUNT_LATER (s.rd FAULT_COUNT_LATER - 1)).feLoad h r).updFaults fun f => { f with late := none }
      let mark := fun (e : Event) => if e.code = 0x05 && e.sub = h.msg.kind && e.detail / 2 ^ 14 % 2 = 0 then
        { e with detail := e.detail + 2 ^ 14 } else e
      { s with hl := { s.hl with evq := match s.hl.evq.reverse with
          | [] => []
          | e :: l => (mark e :: l).reverse } }
  | none => s

/-- FAULT_MESSAGE_TAKE (R366): first what the Almanac holds, then the queues; one message in an FCLK cycle. The collector
is paused with the data plane. -/
def execFaultMessageTake (s : State) : Outcome :=
  .next (if s.paused || s.faults.takenAt = some s.clk.fclk then s
    else
      let s := s.updFaults fun f => { f with takenAt := some s.clk.fclk }
      match s.faults.intake with
      | h :: rest => ((s.updFaults fun f => { f with intake := rest }).collect h).latchApply h.msg.src
      | [] => match s.faults.nextSrc with
        | none => s
        | some src =>
          let s := s.updFaults fun f => { f with last := src }
          match s.faults.queue.find? fun m => m.src = src with
          | some m =>
            ((s.updFaults fun f => { f with queue := f.queue.erase m }).collect
              (s.stamped m)).latchApply src
          | none => s.latchApply src)

/-- QUIET_PERIOD_EXPIRY (R374). -/
def execQuietPeriodExpiry (unit : BitVec 10) (s : State) : Outcome :=
  .next (match s.fenceOf unit.toNat with
    | some f =>
      let waiting := s.faults.queue.any fun m => m.src = f.unit
      if f.host || s.paused || waiting || s.now < f.since + s.rd FAULT_CFG_QUIET_US then s else s.fenceEnds f
    | none => s)

/-- FENCE of FAULT_CTRL (R375). -/
def State.ctrlFence (s : State) (n : Nat) : State :=
  if ! fenceable n then s.on FAULT_STATUS_CMD_REFUSED else s.unitFence n true none

/-- UNFENCE of FAULT_CTRL (R375). -/
def State.ctrlUnfence (s : State) (n : Nat) : State :=
  match s.fenceOf n with
  | none => s.on FAULT_STATUS_CMD_REFUSED
  | some f => if f.host then s.unitLift f else s.fenceEnds f

/-- RETIRE of FAULT_CTRL (R372, R375). -/
def State.ctrlRetire (s : State) (n : Nat) : State :=
  if ! fenceable n then s.on FAULT_STATUS_CMD_REFUSED else s.unitRetire n none

/-- A write of FAULT_CTRL (R375): more than one command bit is refused. -/
def State.faultCtrl (s : State) (n : Nat) (fence unfence retire : Bool) : State :=
  match fence, unfence, retire with
  | false, false, false => s
  | true, false, false => s.ctrlFence n
  | false, true, false => s.ctrlUnfence n
  | false, false, true => s.ctrlRetire n
  | _, _, _ => s.on FAULT_STATUS_CMD_REFUSED

/-- FAULT_PARTp.ACK (R378). -/
def State.partAck (s : State) (p : Nat) : State :=
  if ! s.allAlive p then s.on FAULT_STATUS_CMD_REFUSED
  else if s.rd (FAULT_PART_HEALTH p) = 1 then
    (s.put (FAULT_PART_HEALTH p) 0).updFaults fun f => { f with lost := putBit f.lost p false }
  else s

/-- FENCE (R375). -/
def execFaultFence (unit : BitVec 10) (s : State) : Outcome := .next (s.ctrlFence unit.toNat)

/-- UNFENCE (R375). -/
def execFaultUnfence (unit : BitVec 10) (s : State) : Outcome := .next (s.ctrlUnfence unit.toNat)

/-- RETIRE (R372, R375). -/
def execFaultRetire (unit : BitVec 10) (s : State) : Outcome := .next (s.ctrlRetire unit.toNat)

/-- ACK (R378). -/
def execFaultAck (p : Fin 16) (s : State) : Outcome := .next (s.partAck p)

/-- An apply that names partition p restores its health (R378). -/
def State.partHealed (s : State) (p : Nat) : State :=
  (((((((s.updFaults fun f => { f with lost := putBit f.lost p false }).put (FAULT_PART_HEALTH p) 0).off (FAULT_PART_LOST_ENGINE p)).off (FAULT_PART_LOST_LANE p)).off
    (FAULT_PART_LOST_CAPTURE p)).off (FAULT_PART_LOST_CHANNEL p)).off (FAULT_PART_DATA_LOST p)).off
    (FAULT_PART_POLICY_STOP p)

end Sys2Proof.Machine
end

