-- ==== Sys2Proof/Machine/SelfTest.lean ====
section
/-! DEFINITION. In-field self-test (chapter 18): which slice may start, how slices end, the start-up set; calibration
(R349 to R352). -/
namespace Sys2Proof.Machine
open Csr

/-! Which slices may start (R381 to R384) -/

/-- Is some holiday open for n µs more, or some declared partition in MAINT? -/
def State.anyOpen (s : State) (us : Nat) : Bool :=
  s.partsList.any (fun p => s.pmode p = modeMaint) || s.vt.holidays.any fun h => s.holidayFor h us

/-- Is unit n open (R381, R383)? -/
def State.unitOpen (s : State) (n us : Nat) : Bool :=
  let ps := s.blockParts n
  if ps.isEmpty then s.anyOpen us else ps.all fun p => s.partOpen p us

/-- Is the target of a slice open for its budget? -/
def State.sliceOpen (s : State) (kind target us : Nat) : Bool :=
  if kind = 8 then s.anyOpen us
  else if target / 128 = 2 then s.chanOpen (target % 128) us
  else s.unitOpen target us

/-- Is engine e idle for a test (R382)? -/
def State.engIdle (s : State) (e : Nat) : Bool := [0, 2, 7].contains (s.engState e) && s.drained e

/-- Is capture unit u idle for a test (R382)? -/
def State.capIdle (s : State) (u us : Nat) : Bool :=
  s.rd (CAP_STATUS_STATE u) = 1 ||
    (s.rd (CAP_STATUS_STATE u) = 0 && (s.cap u).ring.isEmpty && (s.cap u).queue.isEmpty &&
      (s.partsList.filter fun p => s.serves u p).all fun p => s.partOpen p us && s.mapClean u p)

/-- Is lane pair k idle for a loopback (R382)? -/
def State.laneIdle (s : State) (k : Nat) : Bool :=
  (s.txState k = lsActive && ! s.laneInRun (s.logTx k)) ||
    (s.logTx k = 0xFF && s.logRx k = 0xFF && s.txState k = lsStandby && s.rxState k = lsStandby)

/-- Is the target of a slice idle (R382)? -/
def State.sliceIdle (s : State) (kind target us : Nat) : Bool :=
  if kind = 1 then target < 72 && s.engIdle target
  else if kind = 2 then
    if target / 128 = 0 then target < 72 && s.engIdle target
    else target / 128 = 1 && target % 128 < 9 && s.capIdle (target % 128) us
  else if kind = 6 then target / 128 = 3 && target % 128 < 100 && s.laneIdle (target % 128)
  else if kind = 8 then target = srcSensors
  else target / 128 = 2 && target % 128 < 34 && s.mcState (target % 128) < 3 &&
    ! s.flag (MC_TRN_STAT_RUNNING (target % 128))

/-- Does a kind test this part of a target (R379)? Engine: 0 and 1 the staging buffer's segments, one for each bank (DEDUCED, log
191), 2 instruction cache, 3 local SRAM. Capture unit: 0 to 3 echo ring, 4 write-combine cache. March: 0 to 7 the spare rows of 8 banks, 8 the free remap slots, 9 the
spare layer. Read-verify: the logical channel. -/
def State.slicePart (s : State) (kind target part : Nat) : Bool :=
  let c := target % 128
  if kind = 2 then (if target / 128 = 0 then part < 4 else part < 5)
  else if kind = 3 then
    if 32 ≤ c && s.flag MC_LAYER_STAT_SPARE_FREE then part = 9 else part < 9
  else if kind = 4 then part < 32 && s.physOf part = c
  else if kind = 7 then part = 0 && s.flag (MC_TRN_STAT_DUE c)
  else part = 0

/-- When the last run of a kind on a target's part ended; 0 for never. -/
def State.lastRun (s : State) (kind target part : Nat) : Nat :=
  match s.st.ended.find? fun x => x.1 = (kind, target, part) with
  | some x => x.2 + 1
  | none => 0

/-- Has MIN_GAP_MS passed? -/
def State.gapOver (s : State) (kind target part : Nat) : Bool :=
  s.lastRun kind target part = 0 || (kind = 8 && s.alm.calReq) || s.lastRun kind target part - 1 + s.rd (ST_GAP_MIN_GAP_MS kind) * 1000 ≤ s.now

/-- May a target take a slice of a kind beside those that run (R384)? -/
def State.sliceFree (s : State) (kind target : Nat) : Bool :=
  s.st.slices.length < 8 && s.st.slices.all fun x => x.target ≠ target && ! (kind = 8 && x.kind = 8)

/-- Is a slice eligible now (R379 to R384)? -/
def State.eligible (s : State) (kind target part : Nat) : Bool :=
  let b := s.rd (ST_KIND_BUDGET_US kind)
  s.flag (ST_KIND_ENABLE kind) && b ≠ 0 && s.sliceFree kind target && s.slicePart kind target part &&
    s.sliceIdle kind target b && s.sliceOpen kind target b && s.gapOver kind target part

/-- The (target, part) pairs of a kind. -/
def State.sliceTargets (s : State) (kind : Nat) : List (Nat × Nat) :=
  let mcs := upFrom 0x100 34
  match kind with
  | 1 => (upFrom 0 72).map fun e => (e, 0)
  | 2 => ((upFrom 0 72).flatMap fun e => (upFrom 0 4).map fun i => (e, i)) ++
      (upFrom 0x80 9).flatMap fun u => (upFrom 0 5).map fun i => (u, i)
  | 3 => mcs.flatMap fun c => (upFrom 0 10).map fun i => (c, i)
  | 4 => (upFrom 0 32).map fun k => (0x100 + s.physOf k, k)
  | 6 => (upFrom 0x180 100).map fun k => (k, 0)
  | 8 => [(srcSensors, 0)]
  | _ => mcs.map fun c => (c, 0)

/-- Does the scheduler's order allow this slice now (R384): no eligible slice has waited longer, and none of a lower kind
as long? -/
def State.inTurn (s : State) (kind target part : Nat) : Bool :=
  let mine := s.lastRun kind target part
  (upFrom 1 8).all fun k => (s.sliceTargets k).all fun t =>
    ! s.eligible k t.1 t.2 || (if k < kind then mine < s.lastRun k t.1 t.2 else mine ≤ s.lastRun k t.1 t.2)

/-! Starting and ending -/

/-- What the start of a slice does to its target: a gated one is clocked first (R391). -/
def State.sliceBegins (s : State) (x : Slice) : State :=
  let i := x.target % 128
  let s := s.gateRefresh
  if x.kind = 6 then (if s.logTx i = 0xFF then s.lbOpen i 0 1024 else s.vlaneLbStart i 0 1024)
  else if x.kind = 7 then (s.drainTo i 0 36).on (MC_TRN_STAT_RUNNING i)
  else if x.kind = 8 then
    ((s.on ALM_CAL_CTRL_BUSY).on ALM_CAL_CTRL_STALE).updAlm fun a => { a with
      calSuspect := (upFrom 0 17).any fun n => s.flag (ALM_LAYER_SUSPECT n), calReq := false }
  else s

/-- Has a slice of the start-up set still to run: its target can be tested, and it has not run to its end (R388)? -/
def State.setOwes (s : State) (kind target part : Nat) : Bool :=
  s.slicePart kind target part && s.sliceIdle kind target 0 && ! s.st.setDone.contains (kind, target, part)

/-- May the start-up set start a slice now: of its kinds, one of kind 1 at a time in a cluster (R388)? -/
def State.setMay (s : State) (kind target part : Nat) : Bool :=
  [1, 2, 6, 8].contains kind && s.sliceFree kind target && s.setOwes kind target part &&
    (kind ≠ 1 || s.st.slices.all fun x => x.kind ≠ 1 || x.target / 9 ≠ target / 9)

/-- Has every slice of the start-up set run whose target can be tested (R388)? -/
def State.setOver (s : State) : Bool :=
  s.st.slices.isEmpty && [1, 2, 6, 8].all fun k => (s.sliceTargets k).all fun t => ! s.setOwes k t.1 t.2

/-- SLICE_START (R381 to R384): the slice that is in turn, after every Calendar action and fault reaction of the FCLK cycle;
among slices that have waited equally long the operands tell which. During the start-up set no holiday, budget or gap is
asked for (R388). -/
def execSliceStart (kind : Fin 8) (target : BitVec 10) (part : BitVec 5) (s : State) : Outcome :=
  let k := kind.val + 1
  let t := target.toNat
  let p := part.toNat
  let x := { kind := k, target := t, part := p, since := s.now, budget := s.rd (ST_KIND_BUDGET_US k),
             startup := s.st.setRuns.isSome : Slice }
  let may := if s.st.setRuns.isSome then s.setMay k t p
    else s.devMode = modeReady && s.boundaryDone && s.eligible k t p && s.inTurn k t p
  .next (if s.paused || s.flag ST_CTRL_HOLD || s.rd ALM_STATUS_STATE ≠ 2 || ! may then s
    else (({ s with st := { s.st with slices := s.st.slices ++ [x] } }.stCount).inc (ST_CNT_RUNS k)).sliceBegins x)

/-- A slice ends clean. -/
def State.slicePass (s : State) (x : Slice) : State := (s.sliceGone x 0).afterTest x

/-- A slice fails (R386): counted; in the start-up set its kind is noted (R388). -/
def State.sliceFail (s : State) (x : Slice) : State :=
  let s := ((s.sliceGone x 1).inc (ST_CNT_FAILED x.kind)).afterTest x
  if x.startup then { s with st := { s.st with failedKinds := s.st.failedKinds ||| 2 ^ (x.kind - 1) } } else s

/-- SELFTEST_FAIL from the block tested (R386). -/
def State.selftestFail (s : State) (x : Slice) : State := s.raiseKD x.target 0x70 0 x.kind

/-- ST_LAST_ADDR. -/
def State.lastAddr (s : State) (a : Nat) : State :=
  (s.put ST_LAST_ADDR_LO_ADDR (a % 2 ^ 32)).put ST_LAST_ADDR_HI_ADDR (a / 2 ^ 32)

/-- Does read-verify read a granule of logical channel k (R380)? -/
def State.verifies (s : State) (k gran : Nat) : Bool :=
  inSysRegion (gran * 64) || match s.ownerOf (cubeAddr k gran) with
    | some p => s.partOpen p 0
    | none => false

/-- Read-verify passes n granules from the pointer on, fewer where its reads must wait at the port; did it find an
uncorrectable one (R380)? -/
def State.readVerify (s : State) (k : Nat) : Nat → Bool → State × Bool
  | 0, ue => (s, ue)
  | n + 1, ue =>
    let g := s.rd (ST_RVPTR_POINTER k)
    if s.verifies k g && s.memHeld (s.schedAcc 1) (cubeAddr k g) 64 then (s.portWait (s.schedAcc 1) (cubeAddr k g) 64, ue)
    else
    let r := if s.verifies k g then (s.portTake (s.schedAcc 1) (cubeAddr k g) 64).readGran (s.schedAcc 1) k g else (s, .data [])
    let bad := match r.2 with | .uncorrectable => true | _ => false
    let s := if bad then r.1.lastAddr (cubeAddr k g) else r.1
    let s := if g + 1 = 2 ^ 25 then (s.put (ST_RVPTR_POINTER k) 0).on (ST_RVPTR_WRAPPED k)
      else s.put (ST_RVPTR_POINTER k) (g + 1)
    s.readVerify k n (ue || bad)

/-- A loopback slice whose 1024 frames have been compared ends, or goes on in far-end mode where the companion offers it
(R152, R379, R386). -/
def State.loopSliceEnds (s : State) (x : Slice) : State :=
  let k := x.target % 128
  let bound := s.logTx k ≠ 0xFF
  let s := s.vlaneLbStop k
  if s.rd (VLANE_LB_ERRORS k) ≠ 0 then
    let s := (s.sliceFail x).selftestFail x
    if bound then (s.moltTx k).moltRx (s.rxOf k)
    else (s.laneOff (VLANE_STATE_TX_STATE k)).laneOff (VLANE_STATE_RX_STATE k)
  else if bound && x.stage = 0 && s.flag (VLANE_PEER_FAR_LB k) then
    ({ s with st := { s.st with slices := s.st.slices.map fun y => if y = x then { y with stage := 1 } else y } }).vlaneLbStart
      k 2 1024
  else s.slicePass x

/-- A loopback slice is asked how it stands: before its 1024 frames have been compared it runs on; one whose loopback has ended
earlier (by a molt, a retraining, the host's LB_STOP) is incomplete (DESIGN CHOICE, log 192). -/
def State.loopSlice (s : State) (x : Slice) : State :=
  let short := decide (s.rd (VLANE_LB_FRAMES (x.target % 128)) < 1024)
  match (s.lane (x.target % 128)).lb with
  | some l => if l.waiting || short then s else s.loopSliceEnds x
  | none => if short then s.abandonSlice x else s.loopSliceEnds x

/-- SLICE_COMPLETE (R380, R386). -/
def execSliceComplete (kind : Fin 8) (target : BitVec 10) (part : BitVec 5) (res : SliceResult) (s : State) : Outcome :=
  let c := target.toNat % 128
  .next (match s.st.slices.find? fun x => x.kind = kind.val + 1 && x.target = target.toNat && x.part = part.toNat with
    | none => s
    | some x =>
      if s.paused then s
      else match x.kind, res with
        | 1, r | 2, r => if r = .clean then s.slicePass x else (s.sliceFail x).selftestFail x
        | 3, .clean => s.slicePass x
        | 3, .badRow b n a =>
          ((s.sliceFail x).lastAddr a.toNat).updMc c fun m => { m with badRows := m.badRows ++ [b.val * 16 + n.val] }
        | 3, .badSlot n => (s.sliceFail x).updMc c fun m => { m with badSlots := m.badSlots ++ [n.val] }
        | 3, .bad a => if x.part = 9 then ((s.sliceFail x).lastAddr a.toNat).layerFail (c / 2) [c] else s
        | 4, .verified n =>
          -- it reads until 5 µs before the end of its budget (R380)
          if s.now < x.since + (x.budget - 5) then s
          else
            let r := s.readVerify x.part n false
            r.1.sliceGone x (if r.2 then 3 else 0)
        | 5, .clean => s.slicePass x
        | 5, .tested o w => (s.tsvTested c o w).sliceFail x
        | 6, _ => s.loopSlice x
        | 7, .retrained w =>
          let ok := s.incHolds c w
          let s := s.retrainEnds c w
          if ok then s.slicePass x else s.sliceFail x
        | _, _ => s)

/-- A slice has reached its budget: read-verify, which ends 5 µs before, is complete (R380), any other abandoned (R385). -/
def State.sliceExpires (s : State) (x : Slice) : State :=
  if x.kind = 4 then s.sliceGone x 0 else s.abandonSlice x

/-- SLICE_BUDGET_EXPIRY (R385): in a pause a slice keeps its state (R17). -/
def execSliceBudgetExpiry (kind : Fin 8) (target : BitVec 10) (part : BitVec 5) (s : State) : Outcome :=
  .next (if s.paused then s
    else s.each (s.st.slices.filter fun x => x.kind = kind.val + 1 && x.target = target.toNat && x.part = part.toNat &&
      ! x.startup && x.since + x.budget ≤ s.now) fun s x => s.sliceExpires x)

/-- Slices whose target is open no longer are abandoned (R385): after a holiday closes or a partition leaves MAINT. -/
def State.closeSlices (s : State) : State :=
  s.abandonWhere fun x => ! x.startup && ! s.sliceOpen x.kind x.target 0

/-- ABANDON of ST_CTRL (R385). -/
def State.abandonAll (s : State) : State := s.abandonWhere fun _ => true

/-- ABANDON (R385). -/
def execAbandon (s : State) : Outcome := .next s.abandonAll

/-! The start-up set (R388) -/

/-- STARTUP_SELFTEST (R388, R402): step 7, after memory training and with the Almanac RUNNING. -/
def execStartupSelftest (s : State) : Outcome :=
  .next (if s.devMode = modeBoot && s.rd GLOBAL_BOOT_STEP = 7 && ! s.flag ST_STATUS_STARTUP_DONE && s.st.setRuns.isNone then
      { s with st := { s.st with setRuns := some s.now, setDone := [], failedKinds := 0 } }
    else s)

/-- The start-up read-verify writes every host-usable granule of the channels in service with 0xA5, in ascending order: a flip
that is armed takes the first of them it may (R240; DESIGN CHOICE of the order, log 190). -/
def State.fillAll (s : State) : State :=
  let cs := ((upFrom 0 32).map s.physOf).filter fun c => s.mcState c ≠ 4
  let gone := fun (c off : Nat) => cs.contains c && ! inSysRegion off
  let s := { s with
    dram := s.dram.filter fun x => ! gone (x.1 / 2 ^ 31) (x.1 % 2 ^ 31)
    masks := s.masks.filter fun x => ! gone (x.1 / 2 ^ 25) (x.1 % 2 ^ 25 * 64)
    filled := cs.foldl (fun m c => putBit m c true) s.filled
    modes := { s.modes with coldDram := false } }
  s.each cs fun s c =>
    let g := if (s.mc c).flipSel = 1 then 2 ^ 24 else 0
    let r := s.flipTake c g
    { r.2 with masks := cput (fun _ => 0) r.2.masks (granKey c g) r.1 }

/-- The device enters READY (R403), with its time and the ALMANAC event, whose SUB and DETAIL no rule gives: free
values. -/
def State.enterReady (s : State) : State :=
  let s := ((s.put GLOBAL_MODE_MODE modeReady).put GLOBAL_BOOT_STEP 8).put GLOBAL_BOOT_READY_MS (min 0xFFFF (s.now / 1000))
  let a := s.draw 256
  let b := a.2.draw (2 ^ 64)
  b.2.event 0x07 a.1 b.1 0

/-- The start-up read-verify after a reset with PWROK high reads every host-usable granule; only those with flipped bits
leave evidence. -/
def State.readAll (s : State) : State :=
  s.each (upFrom 0 32) fun s k =>
    let c := s.physOf k
    let kept := (upFrom 0 16).filterMap fun n => if s.erd (MC_REMAP_VALID c n) = 1 then some (s.erd (MC_REMAP_GRANULE c n)) else none
    let arr := (s.masks.filter fun x => x.1 / 2 ^ 25 = c && x.2 ≠ 0).map fun x => x.1 % 2 ^ 25
    s.each ((arr ++ kept.filter (! arr.contains ·)).filter fun g => ! inSysRegion (g * 64)) fun s g =>
      if s.mcState c = 4 then s else (s.readGran (s.schedAcc 1) k g).1

/-- STARTUP_SET_COMPLETE (R388, R403): every slice of the set has run, and the read-verify ends; `weak` are the granules
that did not read back clean twice. STARTUP_FAIL says that the set marked a block: a slice failed whose block R386 marks, or a
granule went into a remap table (DEDUCED, log 193). -/
def execStartupSetComplete (weak : List (Fin 32 × BitVec 25)) (s : State) : Outcome :=
  .next (match s.st.setRuns with
    | none => s
    | some t =>
      if ! s.setOver || s.paused || s.rd ALM_STATUS_STATE ≠ 2 then s
      else
        let cold := s.modes.coldDram
        let s := if cold then
            (s.fillAll).each weak fun s x =>
              let c := s.physOf x.1
              (s.updMc c fun m => { m with wanted := x.2.toNat :: m.wanted }).remapAllocate c
          else s.readAll
        let s := ((s.on ST_STATUS_STARTUP_DONE).put ST_STARTUP_DURATION_MS (min 0xFFFF ((s.now - t) / 1000))).put
          ST_STARTUP_KINDS_FAILED s.st.failedKinds
        let s := s.putb ST_STATUS_STARTUP_FAIL (s.st.failedKinds % 128 ≠ 0 || (cold && ! weak.isEmpty))
        let s : State := { s with st := { s.st with setRuns := none } }
        s.enterReady)

/-! Calibration (R349 to R352) -/

/-- ALM_CAL_REQ (R349): a request waits for a slice; one that arrives during a calibration adds nothing. -/
def State.calRequest (s : State) : State :=
  if s.flag ALM_CAL_CTRL_BUSY then s else s.updAlm fun a => { a with calReq := true }

/-- ALM_CAL_REQ (R349). -/
def execAlmCalReq (s : State) : Outcome := .next s.calRequest

/-- Trim n of the data in block B6 (W2 to W14, R300), as the shadows in effect hold them; the spec does not give the format. -/
def State.factoryTrim (s : State) (n : Nat) : Nat :=
  Config.factoryTrim ((upFrom 98 13).foldl (fun a w => a * 2 ^ 32 + (s.effReg (0x700100 + 4 * w)).toNat) 0) n

/-- The factory Δk (R352). -/
def State.factoryDelta (s : State) (k : Nat) : Int := sextInt 12 (s.factoryTrim (200 + k))

/-- New Δk, unless a layer was SUSPECT or it lies outside 3 °C of the factory value (R352). -/
def State.newDelta (s : State) (k : Nat) (d : BitVec 12) : State :=
  if (d.toInt - s.factoryDelta k).natAbs ≤ 24 then s.puti (ALM_LAYER_DELTA k) d.toInt
  else s.log 0x0107 srcAlmanac k

/-- CALIBRATION_COMPLETE (R350 to R352): the worst disagreement of the two runs, in 1/8 °C and mV, and what they found. -/
def execCalibrationComplete (siteDiff voltDiff : Nat) (coef vcoef : List (BitVec 32)) (pairs : List (Fin 3))
    (deltas : List (BitVec 12)) (s : State) : Outcome :=
  .next (match s.st.slices.find? fun x => x.kind = 8 with
    | none => s
    | some x =>
      if s.paused then s
      else
        let s := (s.off ALM_CAL_CTRL_BUSY).putb ALM_CAL_CTRL_STALE (s.rd ALM_STATUS_STATE = 3)
        if siteDiff ≤ 4 && voltDiff ≤ 5 then
          let s := s.each ((coef.take 96).zip (upFrom 0 96)) fun s y => s.setReg (ALM_CAL_COEF_OFFSET y.2).addr y.1
          let s := s.each ((vcoef.take 6).zip (upFrom 0 6)) fun s y => s.setReg (ALM_CAL_VCOEF_OFFSET y.2).addr y.1
          let s := s.each ((pairs.take 32).zip (upFrom 0 32)) fun s y => s.put (ALM_SITE_PAIR y.2) y.1.val
          let s := if s.alm.calSuspect then s
            else s.each ((deltas.take 17).zip (upFrom 0 17)) fun s y => s.newDelta y.2 y.1
          (((s.on ALM_CAL_CTRL_DONE).incMod ALM_CAL_CTRL_RUNS).log 0x0105 srcAlmanac 0).slicePass x
        else ((s.on ALM_CAL_CTRL_CAL_BAD).log 0x0106 srcAlmanac (siteDiff % 2 ^ 32 + voltDiff % 2 ^ 32 * 2 ^ 32)).sliceFail x)

end Sys2Proof.Machine
end

