-- ==== Sys2Proof/Machine/Fuse.lean ====
section
/-! DEFINITION. Fuses (chapter 14): what the shadows mean, sensing, the sequencer and the shadow override. -/
namespace Sys2Proof.Machine
open Csr

/-! The shadows and what they mean (R297 to R309) -/

/-- Change the fuse array. -/
def State.updFuses (s : State) (f : FuseUnit → FuseUnit) : State := { s with fuses := f s.fuses }

/-- Word w of the shadows in effect: a value written under the override waits for a reset (R317). -/
def State.shadow (s : State) (w : Nat) : Word := s.effReg (0x700100 + 4 * w)

/-- May word w change after its block is sealed (R297)? -/
def fuseAppendable (w : Nat) : Bool := decide (w < 4) || inRange w 71 79

/-- The 16 words of block k, read from f. -/
def fuseBlock (f : Nat → Word) (k : Nat) : List Word := (upFrom (16 * k) 16).map f

/-- The seal that block k should carry: the CRC-32 of words 0 to 14, every appendable word read as 0 (R302). -/
def blockSeal (f : Nat → Word) (k : Nat) : Word :=
  fuseSeal ((upFrom (16 * k) 15).map fun w => if fuseAppendable w then 0 else f w)

/-- Is block k BLANK (R302)? -/
def blockBlank (f : Nat → Word) (k : Nat) : Bool := (fuseBlock f k).all fun w => w = 0

/-- Is block k SEALED (R302)? -/
def blockSealed (f : Nat → Word) (k : Nat) : Bool := ! blockBlank f k && f (16 * k + 15) = blockSeal f k

/-- May block k be BLANK (R303)? -/
def mayBeBlank (k : Nat) : Bool := k = 2 || k = 3 || k = 7

/-- The blocks that are FAILED, as a mask (R302, R303); B0 is BLANK and L0 clear on an unpersonalized cube. -/
def failedBlocks (f : Nat → Word) (unpers : Bool) : Nat :=
  (upFrom 0 8).foldl (fun m k =>
    let ok := blockSealed f k || (blockBlank f k && (mayBeBlank k || (k = 0 && unpers)))
    putBit m k (! ok)) 0

/-- Is block k SEALED, as sensed? -/
def State.blockSound (s : State) (k : Nat) : Bool := ! bit (s.rd FUSE_STATUS_SEAL_FAIL) k && ! bit (s.rd FUSE_STATUS_BLANK) k

/-- The anti-rollback slots as one number. -/
def arbSlots (f : Nat → Word) : Nat := (f 0).toNat + (f 1).toNat * 2 ^ 32

/-- Are the anti-rollback slots not a run of set slots from slot 0 (R309)? -/
def arbBad (v : Nat) : Bool := Nat.land v (v + 1) ≠ 0

/-- The version in effect: the set slots, or the highest set slot plus 1 (R307, R309). -/
def arbVersion (v : Nat) : Nat := if v = 0 then 0 else Nat.log2 v + 1

/-- Cube ID slot i. -/
def idSlot (f : Nat → Word) (i : Nat) : Nat := bits (f 2).toNat (8 * i) 8

/-- Does a slot have USED set and an exact complement (R307)? -/
def idValid (b : Nat) : Bool := b % 2 = 1 && bits b 1 3 + bits b 4 3 = 7

/-- Does a slot have USED set without an exact complement (R309)? -/
def idBad (b : Nat) : Bool := b % 2 = 1 && ! idValid b

/-- The override ID: of the highest-numbered valid slot (R307). -/
def idOverride (f : Nat → Word) : Option Nat :=
  (([3, 2, 1, 0].map (idSlot f)).find? idValid).map fun b => bits b 1 3

/-- Are the locks and FACTORY_LOCK in effect whatever the array holds (R304)? Not on an unpersonalized cube (R303). -/
def State.lockAll (s : State) : Bool := s.flag FUSE_STATUS_P_FAIL && ! s.flag FUSE_STATUS_UNPERSONALIZED

/-- FUSE_LIMITS from the shadows in effect and the outcomes of the sense (R304, R307, R309). -/
def State.setLimits (s : State) : State :=
  let f := s.shadow
  let pFail := s.flag FUSE_STATUS_P_FAIL
  let v := arbSlots f
  let slots := (upFrom 0 4).map (idSlot f)
  let bad := slots.any idBad
  let w3 := (f 3).toNat
  let ovr := if s.lockAll || bad then none else idOverride f
  let revoked := Nat.lor (w3 % 8) (bits (s.rd FUSE_STATUS_SEAL_FAIL) 1 3)
  let s := ((s.put FUSE_LIMITS_ARB_VERSION (arbVersion v)).putb FUSE_LIMITS_ARB_BAD (arbBad v)).putb FUSE_LIMITS_ID_BAD bad
  let s := (s.putb FUSE_LIMITS_EXHAUSTED (pFail || arbBad v || bad)).put FUSE_LIMITS_ID_SLOTS_USED
    (slots.filter fun b => b ≠ 0).length
  let s := (s.putb FUSE_LIMITS_ID_OVR_VALID ovr.isSome).put FUSE_LIMITS_ID_OVR (ovr.getD 0)
  let s := (s.put FUSE_LIMITS_KEY_REVOKED revoked).putb FUSE_LIMITS_SB_FW_UPDATE (bit w3 10 && ! pFail)
  (s.putb FUSE_LIMITS_SIGN_REQUIRED (bit w3 9 || pFail)).putb FUSE_LIMITS_FACTORY_LOCK
    (bit w3 8 || s.lockAll)

/-- The digest of key slot k. -/
def State.keyDigest (s : State) (k : Nat) : List Byte :=
  (upFrom (16 * (k + 1)) 12).flatMap fun w => natLe 4 (s.shadow w).toNat

/-- Is key slot k usable for a purpose: 0 FIRMWARE, 1 IMAGE (R299)? -/
def State.keyUsable (s : State) (k purpose : Nat) : Bool :=
  decide (k < 3) && s.blockSound (k + 1) && (s.keyDigest k).any (fun b => b ≠ 0) &&
    ! bit (s.rd FUSE_LIMITS_KEY_REVOKED) k && bit (s.shadow (16 * (k + 1) + 12)).toNat purpose

/-- Does the test port hold factory privilege (R292, R301, R304)? -/
def State.factoryPort (s : State) : Bool := s.flag FUSE_STATUS_SENSED && ! s.flag FUSE_LIMITS_FACTORY_LOCK

/-! Sensing (R301 to R306) -/

/-- Field record n of block B4 (R300): its 14 bits, where it is well formed and USED. -/
def fieldRec (w : Nat) : Option Nat :=
  if bit w 14 && ! bit w 15 && bits w 30 2 = 0 && bits w 0 14 + bits w 16 14 = 0x3FFF then some (w % 0x4000) else none

/-- Set the trims that come from block B6: stress marks (R300), coefficients and factory Δk. -/
def State.fuseTrims (s : State) : State :=
  let stress := fun (h j : Nat) => if j < 32 then bit (s.shadow (96 + h)).toNat j else bit (s.shadow 98).toNat (4 * h + j - 32)
  let s := s.each (upFrom 0 34) fun s c => s.each (upFrom 0 72) fun s n => s.putb (MC_TRN_DQWIN_STRESS c n) (stress (n / 36) (n % 36))
  let s := s.each (upFrom 0 96) fun s n => s.setReg (0x900100 + 4 * n) (BitVec.ofNat 32 (s.factoryTrim n))
  let s := s.each (upFrom 0 6) fun s n => s.setReg (0x900280 + 4 * n) (BitVec.ofNat 32 (s.factoryTrim (96 + n)))
  s.each (upFrom 0 17) fun s k => s.puti (ALM_LAYER_DELTA k) (s.factoryDelta k)

/-- A fused retirement of phase p: the lowest free spare takes its place (R336). -/
def State.phaseFused (s : State) (p : Nat) : State :=
  let r := s.rd (CLKPWR_PHASE_RAIL p)
  let st := s.rd (CLKPWR_PHASE_STATE p)
  if st = 2 then s
  else
    let s := (s.put (CLKPWR_PHASE_STATE p) 2).put (CLKPWR_PHASE_RAIL p) 7
    if st = 1 then s
    else match (upFrom 0 28).find? fun q => s.rd (CLKPWR_PHASE_STATE q) = 1 with
      | some q => (s.put (CLKPWR_PHASE_STATE q) 0).put (CLKPWR_PHASE_RAIL q) r
      | none => s.railLoses r

/-- PLL 0 is retired by the fuses: PLL 1 becomes primary, without a standby (R320). -/
def State.pllFused (s : State) : State :=
  if bit (s.shadow 89).toNat 0 then (s.on CLKPWR_STATUS_PLL0_RETIRED).put CLKPWR_STATUS_PRIMARY 1 else s

/-- Classify the shadows and apply what they say (R302 to R309). -/
def State.fuseClassify (s : State) (held : Bool) : State :=
  let f := s.shadow
  let locks := s.rd FUSE_LOCKS_READ
  let unpers := blockBlank f 0 && ! bit locks 0
  let failed := failedBlocks f unpers
  let blank := (upFrom 0 8).foldl (fun m k => putBit m k (blockBlank f k)) 0
  let pBlocks := Nat.land failed 0x8F
  let tFail := Nat.land failed 0x70 ≠ 0
  let s := (s.put FUSE_STATUS_SEAL_FAIL failed).put FUSE_STATUS_BLANK blank
  let s := (s.putb FUSE_STATUS_P_FAIL (pBlocks ≠ 0 || unpers)).putb FUSE_STATUS_T_FAIL tFail
  let s := s.putb FUSE_STATUS_UNPERSONALIZED unpers
  let s := ((s.putb FUSE_STATUS_OVERRIDE held).on FUSE_STATUS_SENSED).put FUSE_LOCKS_IN_EFFECT (if s.lockAll then 0xFF else locks)
  let s := s.setLimits
  let s := if s.flag FUSE_STATUS_P_FAIL then s.log 0x011B srcFuse pBlocks else s
  let s := if s.flag FUSE_LIMITS_ARB_BAD || s.flag FUSE_LIMITS_ID_BAD then
      s.log 0x011D srcFuse ((s.reg 0x700008).toNat) else s
  s.each (upFrom 71 8) fun s w =>
    let v := (s.shadow w).toNat
    if bit v 14 && (fieldRec v).isNone then s.log 0x011E srcFuse (w + v * 2 ^ 32) else s

/-- The cube ID and the sideband address in effect (R290, R298, R304). -/
def State.fuseIds (s : State) : State :=
  let id := if s.flag FUSE_LIMITS_ID_OVR_VALID then s.rd FUSE_LIMITS_ID_OVR else s.pins.straps
  let a := if bit (s.rd FUSE_STATUS_SEAL_FAIL) 0 then 0 else bits (s.shadow 4).toNat 0 7
  (s.put HLINK_STATUS_CUBE_ID id).put ALM_SB_STATIC_ADDR (if a = 0 then 0x50 + id else a)

/-- What follows the classification (R305, R336, R405): HOLD with ALERT_N low, where the loader still reads the sensors with the
coefficients of a sealed block B6 (R339), or start-up step 1. -/
def State.fuseApply (s : State) : State :=
  let s := s.fuseIds.when (s.blockSound 6) State.fuseTrims
  if s.flag FUSE_STATUS_T_FAIL then
    let s := s.nmi CLKPWR_NMI_T_FAIL
    if s.flag GLOBAL_RESET_CAUSE_WARM then s.dramLost else s
  else
    let s := s.pllFused
    let s := s.each ((upFrom 0 28).filter fun p => bit (s.shadow 88).toNat p) fun s p => s.phaseFused p
    s.put GLOBAL_BOOT_STEP 1

/-- The logical value of word w, of the lock row: the OR of its two copies (R296). -/
def FuseUnit.word (f : FuseUnit) (w : Nat) : Word := f.words.getD w 0 ||| f.twins.getD w 0
def FuseUnit.lockRow (f : FuseUnit) : Nat := Nat.lor f.locks f.lockTwins

/-- Lock k is blown, in both copies. -/
def FuseUnit.lockBlow (f : FuseUnit) (k : Nat) : FuseUnit :=
  { f with locks := putBit f.locks k true, lockTwins := putBit f.lockTwins k true }

/-- One word of the array as the two passes read it: the weak bits read 0 in the normal pass, the tight ones in the
tight-margin pass, which misses all the normal pass misses. -/
def State.senseWord (s : State) (weak tight : Nat → Word) (w : Nat) : State :=
  let v := s.fuses.word w
  let n := v &&& ~~~(weak w)
  let t := n &&& ~~~(tight w)
  let s := ((s.setReg (0x700300 + 4 * w) n).setReg (0x700500 + 4 * w) t).setBoth (0x700100 + 4 * w) (n ||| t)
  if n = t then s
  else
    let s := (s.put (FUSE_MARGINAL_WORDS (w / 32)) (putBit (s.rd (FUSE_MARGINAL_WORDS (w / 32))) (w % 32) true)).put
      FUSE_STATUS_MARGINAL (putBit (s.rd FUSE_STATUS_MARGINAL) (w / 16) true)
    s.log 0x011C srcFuse (w + n.toNat * 2 ^ 32 + t.toNat * 2 ^ 64)

/-- The mask a list of (word, mask) pairs gives word w. -/
def maskOf (l : List (BitVec 7 × Word)) (w : Nat) : Word :=
  match l.find? fun x => x.1.toNat = w with
  | some x => x.2
  | none => 0

/-- FUSE_SENSE_COMPLETE (R301, R302, R317): `weak` and `tight` are the blown bits that the normal pass and the
tight-margin pass read as 0, `lockWeak` and `lockTight` those of the lock row. -/
def execFuseSenseComplete (weak tight : List (BitVec 7 × Word)) (lockWeak lockTight : BitVec 8) (s : State) : Outcome :=
  .next (if s.devMode ≠ modeHold || s.rd GLOBAL_BOOT_STEP ≠ 0 || s.flag FUSE_STATUS_SENSED || ! s.pins.pwrok ||
      ! s.pins.resetN then s
    else if s.fuses.held then
      let s := s.each (upFrom 0 128) fun s w => s.setEff (0x700100 + 4 * w) (s.reg (0x700100 + 4 * w))
      ((s.updFuses fun f => { f with held := false }).fuseClassify true).fuseApply
    else
      let s := s.each (upFrom 0 128) fun s w => s.senseWord (maskOf weak) (maskOf tight) w
      let n := Nat.land s.fuses.lockRow (255 - lockWeak.toNat)
      let t := Nat.land n (255 - lockTight.toNat)
      let s := (s.put FUSE_LOCKS_READ n).putb FUSE_STATUS_LOCK_MARGINAL (n ≠ t)
      (s.fuseClassify false).fuseApply)

/-- FUSE_SENSE_TIMEOUT (R402): no sense within 1 ms: P_FAIL and T_FAIL, and HOLD. -/
def execFuseSenseTimeout (s : State) : Outcome :=
  .next (if s.devMode ≠ modeHold || s.rd GLOBAL_BOOT_STEP ≠ 0 || s.flag FUSE_STATUS_SENSED || ! s.pins.pwrok ||
      ! s.pins.resetN || s.flag FUSE_STATUS_T_FAIL then s
    else
      let s := ((s.on FUSE_STATUS_P_FAIL).on FUSE_STATUS_T_FAIL).put FUSE_LOCKS_IN_EFFECT 0xFF
      let s := s.setLimits.nmi CLKPWR_NMI_T_FAIL
      if s.flag GLOBAL_RESET_CAUSE_WARM then s.dramLost else s)

/-! The sequencer (R310 to R316) -/

/-- Codes of FUSE_PGM_STAT. -/
def pgmRefuse (s : State) (code : Nat) : State := (s.put FUSE_PGM_STAT_CODE code).on FUSE_PGM_STAT_ERR

/-- May the sequencer run a command (R310)? -/
def State.fuseConditions (s : State) : Bool :=
  (s.devMode = modeHold || s.devMode = modeBoot || (s.devMode = modeReady && s.partsList.all fun p => s.pmode p ≠ modeRun)) &&
    (s.alm.sites.toList.all fun x => decide (0 ≤ x.temp) && decide (x.temp ≤ 680)) && inRange s.alm.vinNow 1746 1855

/-- The value of a word as both passes read it at the last sense or verify. -/
def State.fuseNow (s : State) (w : Nat) : Word := s.reg (0x700300 + 4 * w) ||| s.reg (0x700500 + 4 * w)

/-- The value of a word at the tight margin. -/
def State.fuseTight (s : State) (w : Nat) : Word := s.reg (0x700500 + 4 * w)

/-- Why PROGRAM is refused (R311 to R313), 0 if it is not. -/
def State.programRefused (s : State) (c : FuseCmd) : Nat :=
  let inEffect := fun k => bit (s.rd FUSE_LOCKS_IN_EFFECT) k
  if c.lockRow then
    let k := c.word
    if s.flag FUSE_OVR_ENABLE then 7
    else if 8 ≤ k then 9
    else if inEffect k && ! bit (s.rd FUSE_LOCKS_READ) k then 3
    else if s.fuseNow (16 * k + 15) = 0 || s.fuseNow (16 * k + 15) ≠ blockSeal s.fuseTight k then 9
    else 0
  else
    let w := c.word
    let k := w / 16
    if ! fuseAppendable w && inEffect k then 3
    else if ! fuseAppendable w && w % 16 ≠ 15 && s.fuseNow (16 * k + 15) ≠ 0 then 4
    else if w < 4 then 5
    else if fuseAppendable w && (s.fuseNow w ≠ 0 || (fieldRec c.data).isNone) then 6
    else if s.flag FUSE_OVR_ENABLE then 7
    else if w % 16 = 15 && (BitVec.ofNat 32 c.data ≠ blockSeal s.fuseTight k ||
        s.fuseNow w &&& ~~~(BitVec.ofNat 32 c.data) ≠ 0) then 8
    else 0

/-- The lowest cube ID slot that is fully zero in the array (R308). -/
def State.freeIdSlot (s : State) : Option Nat := (upFrom 0 4).find? fun i => idSlot s.fuseNow i = 0

/-- Why ADVANCE is refused (R314), 0 if it is not. -/
def State.advanceRefused (s : State) (c : FuseCmd) : Nat :=
  let v := c.data % 128
  if ! s.blockSound 0 || s.flag FUSE_LIMITS_EXHAUSTED || 5 < c.setting then 10
  else if c.setting = 0 && (v < s.rd FUSE_LIMITS_ARB_VERSION || 64 < v) then 10
  else if c.setting = 1 && s.freeIdSlot.isNone then 10
  else if c.setting = 2 && (2 < v || bit (s.rd FUSE_LIMITS_KEY_REVOKED) v) then 10
  else if c.setting = 2 && ! ([0, 1, 2].any fun k => k ≠ v && s.keyUsable k 0) then 11
  else 0

/-- A command reaches the sequencer (R310): it runs, or is refused; one that finds another running has no effect but
BUSY_SEEN. -/
def State.fuseStart (s : State) (c : FuseCmd) : State :=
  if s.fuses.cmd.isSome then s.on FUSE_PGM_STAT_BUSY_SEEN
  else
    let code :=
      if c.op = 0 || 3 < c.op then 1
      else if ! s.fuseConditions then 2
      else if c.op = 1 then s.programRefused c
      else if c.op = 3 then s.advanceRefused c
      else 0
    if code ≠ 0 then
      let s := pgmRefuse s code
      if c.almanac then s.log 0x0104 srcAlmanac (c.data + code * 2 ^ 8) else s
    else (s.updFuses fun f => { f with cmd := some c }).on FUSE_STATUS_PGM_BUSY

/-- The command in the sequencer's registers. -/
def State.fuseRegs (s : State) (op : Nat) : FuseCmd where
  op := op
  lockRow := s.flag FUSE_PGM_ADDR_TARGET
  word := s.rd FUSE_PGM_ADDR_WORD
  setting := s.rd FUSE_PGM_ADDR_SETTING
  data := s.rd FUSE_PGM_DATA_DATA

/-- A write of FUSE_PGM_CMD; without factory privilege it changes nothing (R310). -/
def State.fuseWrite (s : State) (op : Nat) (factory : Bool) : State :=
  if factory && s.factoryPort then s.fuseStart (s.fuseRegs op) else s

/-- PROGRAM (R311 to R313). -/
def execFuseProgram (factory : Bool) (s : State) : Outcome := .next (s.fuseWrite 1 factory)

/-- STRENGTHEN (R315). -/
def execFuseStrengthen (factory : Bool) (s : State) : Outcome := .next (s.fuseWrite 2 factory)

/-- ADVANCE (R314). -/
def execFuseAdvance (factory : Bool) (s : State) : Outcome := .next (s.fuseWrite 3 factory)

/-- The bits a command sets, in the order the rules give (R308, R311): word and bit; bits that no rule orders come in ascending
order. -/
def State.fuseGoal (s : State) (c : FuseCmd) : List (Nat × Nat) :=
  if c.op = 1 then
    if c.lockRow then []
    else
      let new := maskBits 32 (Nat.land c.data ((~~~(s.fuseNow c.word)).toNat))
      let new := if fuseAppendable c.word then (new.filter fun b => b ≠ 14) ++ new.filter fun b => b = 14 else new
      new.map fun b => (c.word, b)
  else if c.op = 3 then
    let v := c.data % 128
    match c.setting with
    | 0 => (upFrom (s.rd FUSE_LIMITS_ARB_VERSION) (v - s.rd FUSE_LIMITS_ARB_VERSION)).map fun b => (b / 32, b % 32)
    | 1 => match s.freeIdSlot with
      | some i =>
        let id := v % 8
        ((maskBits 3 id).map fun b => (2, 8 * i + 1 + b)) ++ ((maskBits 3 (7 - id)).map fun b => (2, 8 * i + 4 + b)) ++ [(2, 8 * i)]
      | none => []
    | 2 => [(3, v)]
    | n => [(3, n + 5)]
  else []

/-- Those among them that the array does not hold yet: they are blown. -/
def State.fuseBits (s : State) (c : FuseCmd) : List (Nat × Nat) :=
  (s.fuseGoal c).filter fun x => ! bit (s.fuseNow x.1).toNat x.2

/-- Bits set in one copy of the array. -/
def blowIn (v : Vector Word 128) (bs : List (Nat × Nat)) : Vector Word 128 :=
  bs.foldl (fun (v : Vector Word 128) x => v.setIfInBounds x.1 (v.getD x.1 0 ||| BitVec.ofNat 32 (2 ^ x.2))) v

/-- Blow bits of the array, in both copies (R311). -/
def State.fuseBlow (s : State) (bs : List (Nat × Nat)) : State :=
  s.updFuses fun f => { f with words := blowIn f.words bs, twins := blowIn f.twins bs }

/-- FUSE_ARRAY and FUSE_TIGHT show blown bits as verified; `weak` of them do not reach the tight margin. -/
def State.fuseShow (s : State) (bs : List (Nat × Nat)) (weak : Nat × Nat → Bool) : State :=
  s.each bs fun s x =>
    let m := BitVec.ofNat 32 (2 ^ x.2)
    let s := s.setReg (0x700300 + 4 * x.1) (s.reg (0x700300 + 4 * x.1) ||| m)
    if weak x then s else s.setReg (0x700500 + 4 * x.1) (s.reg (0x700500 + 4 * x.1) ||| m)

/-- The value of a setting as FUSE_ADVANCE logs it: the setting's number and its words W0 to W3. -/
def State.settingNow (s : State) (n : Nat) : Nat :=
  n * 2 ^ 64 + (match n with
    | 0 => arbSlots s.shadow
    | 1 => (s.shadow 2).toNat
    | _ => (s.shadow 3).toNat)

/-- A completed ADVANCE (R314): the shadow of the setting, FUSE_LIMITS and the log. -/
def State.advanced (s : State) (c : FuseCmd) (bs : List (Nat × Nat)) : State :=
  let before := s.settingNow c.setting
  let s := s.each bs fun s x => s.setBoth (0x700100 + 4 * x.1) (s.shadow x.1 ||| BitVec.ofNat 32 (2 ^ x.2))
  let s := s.setLimits
  s.log2 0x011F srcFuse before (s.settingNow c.setting)

/-- The sequencer is free again. -/
def State.fuseFree (s : State) : State := (s.updFuses fun f => { f with cmd := none }).off FUSE_STATUS_PGM_BUSY

/-- The bits that STRENGTHEN re-pulses: those the normal pass reads as 1 (R315). -/
def State.repulsed (s : State) (c : FuseCmd) : Word :=
  if c.lockRow then BitVec.ofNat 32 (2 ^ c.word) &&& BitVec.ofNat 32 (s.rd FUSE_LOCKS_READ) else s.reg (0x700300 + 4 * c.word)

/-- STRENGTHEN of a word ends (R315): the bits the normal pass reads now, and which of them fail the tight margin. -/
def State.strengthened (s : State) (c : FuseCmd) (unread weak : Word) : State :=
  if c.lockRow then s
  else
    let n := s.repulsed c &&& ~~~unread
    (s.setReg (0x700300 + 4 * c.word) n).setReg (0x700500 + 4 * c.word) (n &&& ~~~weak)

/-- FUSE_COMMAND_COMPLETE (R311, R314, R315): `most` pulses were the most any bit needed. With `good` none, every bit
verified; with `good` n, the bit after the first n still failed after 4 pulses and the command gave up, that bit blown
(`blown`) below the tight margin or not at all. `unread` and `weak` are what STRENGTHEN's verify finds: bits the normal
pass reads 0, bits that fail the tight margin; of the bits re-pulsed each ends the command. -/
def execFuseCommandComplete (most : Fin 5) (good : Option (BitVec 7)) (blown : Bool) (unread weak : Word) (s : State) :
    Outcome :=
  .next (match s.fuses.cmd with
    | none => s
    | some c =>
      let goal := s.fuseGoal c
      let bs := s.fuseBits c
      let fails := if c.op = 2 then decide (s.repulsed c &&& (weak ||| unread) ≠ 0) else match good with
        | some n => decide (n.toNat < bs.length) || (c.op = 1 && c.lockRow)
        | none => false
      let done := match good with
        | some n => if fails then bs.take n.toNat else bs
        | none => bs
      let last := if fails && blown then (bs.drop done.length).take 1 else []
      let s := ((s.fuseBlow (done ++ last)).fuseShow (done ++ last) fun x => last.contains x)
      let s := if c.op = 2 then s.strengthened c unread weak else s
      let s := if c.op = 1 && c.lockRow && ! fails then s.updFuses fun f => f.lockBlow c.word else s
      let s := if c.op = 3 && ! fails then s.advanced c goal else s
      let s := s.fuseFree.put FUSE_PGM_STAT_PULSES (if bs.isEmpty && c.op = 3 then 0 else most.val)
      let s := if fails && c.almanac then s.log 0x0104 srcAlmanac (c.data + 12 * 2 ^ 8) else s
      if fails then pgmRefuse s 12 else (s.put FUSE_PGM_STAT_CODE 0).on FUSE_PGM_STAT_DONE)

/-- A reset or a fall of PWROK stops a command after its current pulse (R316): how many bits are blown is open, and for a
PROGRAM whose order no rule gives, which. -/
def State.fuseInterrupt (s : State) : State :=
  match s.fuses.cmd with
  | none => s
  | some c =>
    let bs := s.fuseBits c
    let r := s.draw (bs.length + 1)
    let s := if c.op = 1 && ! c.lockRow && ! fuseAppendable c.word then
        let m := r.2.draw (2 ^ 32)
        m.2.fuseBlow (bs.filter fun x => bit m.1 x.2)
      else r.2.fuseBlow (bs.take r.1)
    let s := if c.op = 1 && c.lockRow then
        let b := s.drawBit
        if b.1 then b.2.updFuses fun f => f.lockBlow c.word else b.2
      else s
    s.fuseFree

/-! The shadow override (R317) -/

/-- A write of FUSE_OVR: refused without factory privilege or under the P-class lock; clearing ENABLE clears HOLD. -/
def State.fuseOvr (s : State) (hold enable factory : Bool) : State :=
  if ! factory || ! s.factoryPort then s
  else
    let en := enable && ! bit (s.rd FUSE_LOCKS_IN_EFFECT) 0
    (s.putb FUSE_OVR_ENABLE en).putb FUSE_OVR_HOLD (hold && (en || (s.flag FUSE_OVR_HOLD && ! s.flag FUSE_OVR_ENABLE)))

/-- FUSE_OVR_WRITE (R317). -/
def execFuseOvrWrite (hold enable factory : Bool) (s : State) : Outcome := .next (s.fuseOvr hold enable factory)

end Sys2Proof.Machine
end

