-- ==== Sys2Proof/Machine/Crypto.lean ====
section
/-! DEFINITION. The two algorithms that R32 and R33 name: SHA-384, and ECDSA verification over curve P-384. Their
constants are those of the published standards the rules name (log entry 3). -/
namespace Sys2Proof.Machine

/-- Round constants 0 to 19 of SHA-384. -/
def shaK0 : List Nat := [
  0x428A2F98D728AE22, 0x7137449123EF65CD, 0xB5C0FBCFEC4D3B2F, 0xE9B5DBA58189DBBC,
  0x3956C25BF348B538, 0x59F111F1B605D019, 0x923F82A4AF194F9B, 0xAB1C5ED5DA6D8118,
  0xD807AA98A3030242, 0x12835B0145706FBE, 0x243185BE4EE4B28C, 0x550C7DC3D5FFB4E2,
  0x72BE5D74F27B896F, 0x80DEB1FE3B1696B1, 0x9BDC06A725C71235, 0xC19BF174CF692694,
  0xE49B69C19EF14AD2, 0xEFBE4786384F25E3, 0x0FC19DC68B8CD5B5, 0x240CA1CC77AC9C65]

/-- Round constants 20 to 39 of SHA-384. -/
def shaK1 : List Nat := [
  0x2DE92C6F592B0275, 0x4A7484AA6EA6E483, 0x5CB0A9DCBD41FBD4, 0x76F988DA831153B5,
  0x983E5152EE66DFAB, 0xA831C66D2DB43210, 0xB00327C898FB213F, 0xBF597FC7BEEF0EE4,
  0xC6E00BF33DA88FC2, 0xD5A79147930AA725, 0x06CA6351E003826F, 0x142929670A0E6E70,
  0x27B70A8546D22FFC, 0x2E1B21385C26C926, 0x4D2C6DFC5AC42AED, 0x53380D139D95B3DF,
  0x650A73548BAF63DE, 0x766A0ABB3C77B2A8, 0x81C2C92E47EDAEE6, 0x92722C851482353B]

/-- Round constants 40 to 59 of SHA-384. -/
def shaK2 : List Nat := [
  0xA2BFE8A14CF10364, 0xA81A664BBC423001, 0xC24B8B70D0F89791, 0xC76C51A30654BE30,
  0xD192E819D6EF5218, 0xD69906245565A910, 0xF40E35855771202A, 0x106AA07032BBD1B8,
  0x19A4C116B8D2D0C8, 0x1E376C085141AB53, 0x2748774CDF8EEB99, 0x34B0BCB5E19B48A8,
  0x391C0CB3C5C95A63, 0x4ED8AA4AE3418ACB, 0x5B9CCA4F7763E373, 0x682E6FF3D6B2B8A3,
  0x748F82EE5DEFB2FC, 0x78A5636F43172F60, 0x84C87814A1F0AB72, 0x8CC702081A6439EC]

/-- Round constants 60 to 79 of SHA-384. -/
def shaK3 : List Nat := [
  0x90BEFFFA23631E28, 0xA4506CEBDE82BDE9, 0xBEF9A3F7B2C67915, 0xC67178F2E372532B,
  0xCA273ECEEA26619C, 0xD186B8C721C0C207, 0xEADA7DD6CDE0EB1E, 0xF57D4F7FEE6ED178,
  0x06F067AA72176FBA, 0x0A637DC5A2C898A6, 0x113F9804BEF90DAE, 0x1B710B35131C471B,
  0x28DB77F523047D84, 0x32CAAB7B40C72493, 0x3C9EBE0A15C9BEBC, 0x431D67C49C100D4C,
  0x4CC5D4BECB3E42B6, 0x597F299CFC657E2A, 0x5FCB6FAB3AD6FAEC, 0x6C44198C4A475817]

/-- Initial hash value of SHA-384. -/
def shaIV : List Nat := [
  0xCBBB9D5DC1059ED8, 0x629A292A367CD507, 0x9159015A3070DD17, 0x152FECD8F70E5939,
  0x67332667FFC00B31, 0x8EB44A8768581511, 0xDB0C2E0D64F98FA7, 0x47B5481DBEFA4FA4]

/-- The 80 round constants. -/
def shaK : List Nat := shaK0 ++ shaK1 ++ shaK2 ++ shaK3

/-- Addition modulo 2^64. -/
def add64 (a b : Nat) : Nat := (a + b) % 2 ^ 64

/-- Rotate a 64-bit word right. -/
def ror64 (x n : Nat) : Nat := (x >>> n) ||| ((x <<< (64 - n)) % 2 ^ 64)

/-- The schedule words after the first 16, newest first in the accumulator. -/
def shaSched : Nat → List Nat → List Nat
  | 0, acc => acc
  | n + 1, acc =>
    let w15 := acc.getD 14 0
    let w2 := acc.getD 1 0
    let s0 := Nat.xor (Nat.xor (ror64 w15 1) (ror64 w15 8)) (w15 >>> 7)
    let s1 := Nat.xor (Nat.xor (ror64 w2 19) (ror64 w2 61)) (w2 >>> 6)
    shaSched n (add64 (add64 (acc.getD 15 0) s0) (add64 (acc.getD 6 0) s1) :: acc)

/-- The eight working words of SHA-384. -/
structure ShaSt where
  a : Nat
  b : Nat
  c : Nat
  d : Nat
  e : Nat
  f : Nat
  g : Nat
  h : Nat

/-- One round. -/
def shaRound (x : ShaSt) (kw : Nat × Nat) : ShaSt :=
  let s1 := Nat.xor (Nat.xor (ror64 x.e 14) (ror64 x.e 18)) (ror64 x.e 41)
  let ch := Nat.xor (x.e &&& x.f) ((Nat.xor x.e (2 ^ 64 - 1)) &&& x.g)
  let t1 := add64 (add64 (add64 x.h s1) (add64 ch kw.1)) kw.2
  let s0 := Nat.xor (Nat.xor (ror64 x.a 28) (ror64 x.a 34)) (ror64 x.a 39)
  let mj := Nat.xor (Nat.xor (x.a &&& x.b) (x.a &&& x.c)) (x.b &&& x.c)
  ShaSt.mk (add64 t1 (add64 s0 mj)) x.a x.b x.c (add64 x.d t1) x.e x.f x.g

/-- The big-endian value of bytes. -/
def beNat (bs : List Byte) : Nat := bs.foldl (fun v b => v * 256 + b.toNat) 0

/-- n bytes of a number, big-endian. -/
def natBe (n v : Nat) : List Byte := (natLe n v).reverse

/-- One 128-byte block. -/
def shaBlock (x : ShaSt) (blk : List Byte) : ShaSt :=
  let w := (shaSched 64 ((chunks 8 16 blk).map beNat).reverse).reverse
  let y := (shaK.zip w).foldl shaRound x
  ShaSt.mk (add64 x.a y.a) (add64 x.b y.b) (add64 x.c y.c) (add64 x.d y.d)
    (add64 x.e y.e) (add64 x.f y.f) (add64 x.g y.g) (add64 x.h y.h)

/-- SHA-384 of a byte string: 48 bytes. -/
def sha384 (m : List Byte) : List Byte :=
  let len := m.length
  let zeros := (111 + 128 - len % 128) % 128
  let padded := m ++ [0x80] ++ List.replicate zeros 0 ++ natBe 16 (8 * len)
  let iv := ShaSt.mk (shaIV.getD 0 0) (shaIV.getD 1 0) (shaIV.getD 2 0) (shaIV.getD 3 0)
    (shaIV.getD 4 0) (shaIV.getD 5 0) (shaIV.getD 6 0) (shaIV.getD 7 0)
  let y := (chunks 128 (padded.length / 128) padded).foldl shaBlock iv
  [y.a, y.b, y.c, y.d, y.e, y.f].flatMap (natBe 8)

/-- The field prime of P-384. -/
def p384P : Nat := 2 ^ 384 - 2 ^ 128 - 2 ^ 96 + 2 ^ 32 - 1
/-- The group order of P-384. -/
def p384N : Nat := 0xffffffffffffffffffffffffffffffffffffffffffffffffc7634d81f4372ddf581a0db248b0a77aecec196accc52973
/-- The coefficient b of P-384. -/
def p384B : Nat := 0xb3312fa7e23ee7e4988e056be3f82d19181d9c6efe8141120314088f5013875ac656398d8a2ed19d2a85c8edd3ec2aef
/-- The base point of P-384, x. -/
def p384Gx : Nat := 0xaa87ca22be8b05378eb1c71ef320ad746e1d3b628ba79b9859f741e082542a385502f25dbf55296c3a545e3872760ab7
/-- The base point of P-384, y. -/
def p384Gy : Nat := 0x3617de4a96262c6f5d9e98bf9292dc29f8f41dbd289a147ce9da3113b5f0b8c00a60b1ce1d7e819d7a431d7c90ea0e5f

/-- b ^ e modulo m; the bits of e are taken from bit n - 1 down. -/
def powMod (m b e : Nat) : Nat → Nat
  | 0 => 1 % m
  | n + 1 =>
    -- bits above bit 0 first: e / 2 has n bits
    let r := powMod m b (e / 2) n
    let r2 := r * r % m
    if e % 2 = 1 then r2 * b % m else r2

/-- The inverse modulo a prime, by Fermat. -/
def invMod (m a : Nat) : Nat := powMod m (a % m) (m - 2) 384

/-- A point of P-384 in Jacobian form; z = 0 is the point at infinity. -/
structure JPoint where
  x : Nat
  y : Nat
  z : Nat

/-- Doubling (curve coefficient a = -3). -/
def jDouble (q : JPoint) : JPoint :=
  if q.z = 0 || q.y = 0 then JPoint.mk 1 1 0 else
    let p := p384P
    let yy := q.y * q.y % p
    let s := 4 * q.x * yy % p
    let zz := q.z * q.z % p
    let m := 3 * (q.x + p - zz) * (q.x + zz) % p
    let x3 := (m * m + 2 * p - 2 * s % p) % p
    let y3 := (m * (s + p - x3) + (p - 8 * yy * yy % p)) % p
    JPoint.mk x3 y3 (2 * q.y * q.z % p)

/-- Addition. -/
def jAdd (q r : JPoint) : JPoint :=
  if q.z = 0 then r else if r.z = 0 then q else
    let p := p384P
    let z1 := q.z * q.z % p
    let z2 := r.z * r.z % p
    let u1 := q.x * z2 % p
    let u2 := r.x * z1 % p
    let s1 := q.y * z2 * r.z % p
    let s2 := r.y * z1 * q.z % p
    if u1 = u2 then (if s1 = s2 then jDouble q else JPoint.mk 1 1 0) else
      let h := (u2 + p - u1) % p
      let k := (s2 + p - s1) % p
      let hh := h * h % p
      let hhh := h * hh % p
      let v := u1 * hh % p
      let x3 := (k * k + (p - hhh) + 2 * p - 2 * v % p) % p
      let y3 := (k * (v + p - x3) + (p - s1 * hhh % p)) % p
      JPoint.mk x3 y3 (h * q.z * r.z % p)

/-- n-bit scalar times a point. -/
def jMul (q : JPoint) (e : Nat) : Nat → JPoint
  | 0 => JPoint.mk 1 1 0
  | n + 1 =>
    let r := jDouble (jMul q (e / 2) n)
    if e % 2 = 1 then jAdd r q else r

/-- Does the ECDSA P-384 signature (r, s) over a SHA-384 digest verify under public key (x, y) (R32)? -/
def ecdsaOk (x y r s : Nat) (digest : List Byte) : Bool :=
  let p := p384P
  let onCurve := decide (x < p) && decide (y < p) &&
    decide (y * y % p = (x * x % p * x + (p - 3) * x + p384B) % p)
  if ! onCurve || r = 0 || s = 0 || decide (p384N ≤ r) || decide (p384N ≤ s) then false else
    let w := invMod p384N s
    let u1 := beNat digest * w % p384N
    let u2 := r * w % p384N
    let q := jAdd (jMul (JPoint.mk p384Gx p384Gy 1) u1 384) (jMul (JPoint.mk x y 1) u2 384)
    if q.z = 0 then false else
      let zi := invMod p q.z
      decide ((q.x * zi % p * zi % p) % p384N = r)

end Sys2Proof.Machine
end

