-- ==== Sys2Proof/Machine/ImageForm.lean ====
section
/-! DEFINITION. Reading and checking the bytes of a structure image (chapter 02): the framing, the fields, the
consistency rules (R26 to R34, R428) and the admission arithmetic (R38). -/
namespace Sys2Proof.Machine

/-- The IMAGE_ERR codes of R48. -/
def errNone : Nat := 0x00
def errBadCmd : Nat := 0x01
def errBusy : Nat := 0x02
def errNoImage : Nat := 0x03
def errNotValid : Nat := 0x04
def errLoadFault : Nat := 0x05
def errBadMagic : Nat := 0x06
def errBadFormat : Nat := 0x07
def errBadTarget : Nat := 0x08
def errBadLength : Nat := 0x09
def errBadCrc : Nat := 0x0A
def errSigRequired : Nat := 0x0B
def errSigBad : Nat := 0x0C
def errBadSection : Nat := 0x0D
def errBadField : Nat := 0x0E
def errConflict : Nat := 0x0F
def errDevwide : Nat := 0x10
def errShareOver : Nat := 0x11
def errReserveOver : Nat := 0x12
def errLaneRate : Nat := 0x13
def errRttOver : Nat := 0x14
def errWindowOver : Nat := 0x15
def errCaptureOver : Nat := 0x16
def errCalFull : Nat := 0x17
def errNotAlive : Nat := 0x18
def errNamedRunning : Nat := 0x19
def errNotReady : Nat := 0x1A

/-- A structure-stage error (R34). -/
def sErr (code off : Nat) : ImgErr := ImgErr.mk code 1 off

/-- Are all bytes of a range zero? -/
def zeroAt (bs : List Byte) (off n : Nat) : Bool := (slice bs off n).all (fun b => b = 0)

/-- The bytes with the CRC field read as zero (R26, R32). -/
def crcBlanked (bs : List Byte) : List Byte := bs.take 0x0C ++ [0, 0, 0, 0] ++ bs.drop 0x10

/-- What R32 and R33 need of the fuses: whether a signature is required, and the digest of a key slot usable for images. -/
structure SigCtx where
  required : Bool
  keyDigest : Nat → Option (List Byte)

/-- The first error of a list of (violated, error) tests. -/
def firstErr : List (Bool × ImgErr) → Option ImgErr
  | [] => none
  | (bad, e) :: r => if bad then some e else firstErr r

/-- Pass 1 of R34: the header fields in ascending offset (R26, R428). `len` is the length latched by the LOAD. -/
def headerErr (bs : List Byte) (len tickPs : Nat) : Option ImgErr :=
  let f := fieldAt bs
  firstErr [
    (f 0 4 ≠ 0x5851494D, sErr errBadMagic 0x00),
    (f 5 1 ≠ 1, sErr errBadFormat 0x04),
    (f 6 2 ≠ 0x1664, sErr errBadTarget 0x06),
    (f 8 4 % 8 ≠ 0 || f 8 4 < 64 || 262144 < f 8 4 || f 8 4 ≠ len, sErr errBadLength 0x08),
    (f 0x0C 4 ≠ crc32 (crcBlanked bs), sErr errBadCrc 0x0C),
    (1 < f 0x10 1, sErr errBadField 0x10),
    (2 < f 0x11 1, sErr errBadField 0x11),
    (! zeroAt bs 0x12 2, sErr errBadField 0x12),
    (if f 0x10 1 = 1 then f 0x14 4 < 64 || f 0x14 4 % 8 ≠ 0 || f 0x14 4 + 192 ≠ len else f 0x14 4 ≠ 0,
      sErr errBadField 0x14),
    (f 0x20 4 ≠ tickPs, sErr errBadField 0x20),
    (1 < f 0x24 1, sErr errBadField 0x24),
    (! zeroAt bs 0x25 27, sErr errBadField 0x25)]

/-- A section found by the framing pass: TYPE, offset of its header, BODY_LEN. -/
structure Sec where
  typ : Nat
  hdr : Nat
  len : Nat
deriving DecidableEq, Repr

/-- The prefix length of a known section (R31). -/
def secPrefix : Nat → Nat
  | 1 => 8 | 3 => 16 | 6 => 8 | 8 => 8 | _ => 0

/-- The record length of a known section (R31). -/
def secRec : Nat → Nat
  | 1 => 8 | 2 => 72 | 3 => 8 | 4 => 136 | 5 => 16 | 6 => 16 | 7 => 16 | 8 => 4 | 9 => 8 | 10 => 4 | _ => 16

/-- Is the TYPE one of 0x01 to 0x0B? -/
def secKnown (t : Nat) : Bool := inRange t 1 12

/-- Pass 2 of R34: the section framing, in image order (R28, R29). The fuel bounds the number of sections. R28 names no
code for a header that breaks it (FLAGS bits 6 to 0, bytes 2 and 3, BODY_LEN, a section past the end); it is BAD_SECTION
here, as for the violations R29 names (DESIGN CHOICE, log 129). -/
def frameFrom (bs : List Byte) (stop : Nat) : Nat → Nat → Nat → List Sec → List Sec × Option ImgErr
  | 0, off, _, acc => (acc, some (sErr errBadSection off))
  | fuel + 1, off, minType, acc =>
    if off = stop then
      (acc, none)
    else
      let t := fieldAt bs off 1
      let flags := fieldAt bs (off + 1) 1
      let len := fieldAt bs (off + 4) 4
      let bad :=
        stop < off + 8 || flags % 128 ≠ 0 || ! zeroAt bs (off + 2) 2 || len % 8 ≠ 0 || stop < off + 8 + len
        || t < minType
        || (if secKnown t then flags ≠ 0 || len < secPrefix t || (len - secPrefix t) % secRec t ≠ 0 else flags = 0)
      if bad then (acc, some (sErr errBadSection off))
      else frameFrom bs stop fuel (off + 8 + len) (t + 1)
        (if secKnown t then acc ++ [Sec.mk t off len] else acc)

/-- Where the last section ends (R28). -/
def sectionsEnd (bs : List Byte) : Nat := if fieldAt bs 0x10 1 = 1 then fieldAt bs 0x14 4 else fieldAt bs 8 4

/-- Does a section header of TYPE 0x01 stand in the chain of headers from an offset on? -/
def hasPartSec (bs : List Byte) (stop : Nat) : Nat → Nat → Bool
  | 0, _ => false
  | fuel + 1, off =>
    if stop < off + 8 then false
    else fieldAt bs off 1 = 1 || hasPartSec bs stop fuel (off + 8 + fieldAt bs (off + 4) 4)

/-- The known sections, or the first framing violation: a missing section 0x01 stands at 0x40, before all others. -/
def frame (bs : List Byte) : List Sec × Option ImgErr :=
  let r := frameFrom bs (sectionsEnd bs) 32769 0x40 0 []
  if hasPartSec bs (sectionsEnd bs) 32769 0x40 then r else (r.1, some (sErr errBadSection 0x40))

/-- Pass 3 of R34: the signature (R32, R33). The spec gives no OFFSET for the two errors: SIG_REQUIRED reports that of
SIGFLAG, SIG_BAD that of the signature block (DESIGN CHOICE, log 130). -/
def sigErr (bs : List Byte) (k : SigCtx) : Option ImgErr :=
  if fieldAt bs 0x10 1 = 0 then
    (if k.required then some (sErr errSigRequired 0x10) else none)
  else
    let so := fieldAt bs 0x14 4
    let msg := crcBlanked (bs.take so)
    let n := fun i => fieldAt bs (so + 48 * i) 48
    let ok := match k.keyDigest (fieldAt bs 0x11 1) with
      | none => false
      | some d => decide (sha384 (slice bs so 96) = d) && ecdsaOk (n 0) (n 1) (n 2) (n 3) (sha384 msg)
    if ok then none else some (sErr errSigBad so)

/-- The records of a section, each with its offset in the image. -/
def secRecs (bs : List Byte) (s : Sec) : List (Nat × List Byte) :=
  let n := (s.len - secPrefix s.typ) / secRec s.typ
  (upFrom 0 n).map fun i =>
    let off := s.hdr + 8 + secPrefix s.typ + i * secRec s.typ
    (off, slice bs off (secRec s.typ))

/-- The section of a type, if present. -/
def secOf (secs : List Sec) (t : Nat) : Option Sec := secs.find? (fun s => s.typ = t)

/-- The records of the section of a type; none when it is absent. -/
def recsOf (bs : List Byte) (secs : List Sec) (t : Nat) : List (Nat × List Byte) :=
  match secOf secs t with
  | some s => secRecs bs s
  | none => []

/-- The body bytes of the section of a type. -/
def bodyOf (bs : List Byte) (secs : List Sec) (t : Nat) : Option (List Byte) :=
  (secOf secs t).map fun s => slice bs (s.hdr + 8) s.len

def readPart (r : List Byte) : PartRec := PartRec.mk (fieldAt r 0 1) (fieldAt r 1 1) (fieldAt r 2 1)

/-- The task descriptor at an offset (R77). -/
def readDesc (r : List Byte) (o : Nat) : TaskDesc :=
  TaskDesc.mk (fieldAt r o 8) (fieldAt r (o + 8) 4) (fieldAt r (o + 0x0C) 4) (fieldAt r (o + 0x10) 1)
    (fieldAt r (o + 0x11) 1) (fieldAt r (o + 0x14) 4) (fieldAt r (o + 0x18) 8) (fieldAt r (o + 0x20) 8)
    (fieldAt r (o + 0x28) 8) (fieldAt r (o + 0x30) 8) (fieldAt r (o + 0x38) 8)

def readEng (r : List Byte) : EngRec := EngRec.mk (fieldAt r 0 1) (fieldAt r 1 1) (readDesc r 8)

def readLane (r : List Byte) : LaneRec :=
  LaneRec.mk (fieldAt r 0 1) ((upFrom 0 (fieldAt r 1 1)).map fun i => fieldAt r (4 + i) 1)

def readPin (r : List Byte) : PinRec :=
  PinRec.mk (fieldAt r 0 1) ((upFrom 0 64).map fun i => (fieldAt r (8 + 2 * i) 1, fieldAt r (9 + 2 * i) 1))

def readRegion (r : List Byte) : Region :=
  Region.mk (fieldAt r 0 1) (fieldAt r 1 1) (fieldAt r 2 1) (fieldAt r 4 4) (fieldAt r 8 4) (fieldAt r 12 4)

def readClass (r : List Byte) : ClassRec :=
  ClassRec.mk (fieldAt r 0 1) (fieldAt r 4 4) (fieldAt r 8 1) (fieldAt r 9 1) (fieldAt r 12 4)

def readCap (r : List Byte) : CapRec :=
  CapRec.mk (fieldAt r 0 1) (fieldAt r 1 1) (fieldAt r 2 1) (fieldAt r 3 1) (fieldAt r 4 4) (fieldAt r 8 1)
    (fieldAt r 9 1) (fieldAt r 10 1) (fieldAt r 11 1) (fieldAt r 12 1)

def readSlice (r : List Byte) : SliceRec :=
  SliceRec.mk (fieldAt r 0 1) (fieldAt r 1 1) (fieldAt r 2 2) (fieldAt r 4 4)

def readGate (r : List Byte) : GateRec := GateRec.mk (fieldAt r 0 1) (fieldAt r 1 1) (fieldAt r 2 1)

def readCal (r : List Byte) : CalEnt := CalEnt.mk (fieldAt r 0 6) (fieldAt r 6 1) (fieldAt r 7 1) (fieldAt r 8 8)

/-- The image that a framed byte string spells. -/
def readImg (bs : List Byte) (secs : List Sec) : Img where
  id := fieldAt bs 0x18 8
  tickPs := fieldAt bs 0x20 4
  cold := decide (fieldAt bs 0x24 1 = 1)
  signed := decide (fieldAt bs 0x10 1 = 1)
  parts := (recsOf bs secs 1).map fun r => readPart r.2
  engines := (recsOf bs secs 2).map fun r => readEng r.2
  ppl := match bodyOf bs secs 3 with
    | some b => (upFrom 0 16).map fun i => fieldAt b i 1
    | none => List.replicate 16 0
  lanes := (recsOf bs secs 3).map fun r => readLane r.2
  pins := (recsOf bs secs 4).map fun r => readPin r.2
  regions := (recsOf bs secs 5).map fun r => readRegion r.2
  classes := (bodyOf bs secs 6).map fun b =>
    ClassSec.mk (fieldAt b 0 1) (fieldAt b 1 1) ((recsOf bs secs 6).map fun r => readClass r.2)
  caps := (recsOf bs secs 7).map fun r => readCap r.2
  policy := (bodyOf bs secs 8).map fun b =>
    PolicySec.mk (fieldAt b 0 4) ((recsOf bs secs 8).map fun r => (fieldAt r.2 0 1, fieldAt r.2 1 1))
  selftest := (secOf secs 9).map fun _ => (recsOf bs secs 9).map fun r => readSlice r.2
  gating := (secOf secs 10).map fun _ => (recsOf bs secs 10).map fun r => readGate r.2
  cal := (recsOf bs secs 11).map fun r => readCal r.2
  devwide := [6, 8, 9, 10].map (bodyOf bs secs)

/-- A partition's M, if the list declares it. -/
def mOf (parts : List PartRec) (p : Nat) : Option Nat := (parts.find? (fun r => r.part = p)).map (·.m)

/-- Is partition p declared? -/
def declares (parts : List PartRec) (p : Nat) : Bool := parts.any (fun r => r.part = p)

/-- Do action, ARG and PART of a non-empty entry obey R58? -/
def calArgOk (parts : List PartRec) (e : CalEnt) : Bool :=
  let dev := decide (e.part = 0xFF)
  let decl := declares parts e.part
  match e.action % 128 with
  | 1 => dev && decide (e.arg < 2 ^ 16)
  | 2 => (dev || decl) && decide (e.arg < 8)
  | 3 | 4 => (dev || decl) && decide (e.arg = 0)
  | 5 | 6 => (dev || decl) && decide (e.arg < 2 ^ 48)
  | 7 | 8 | 10 => decl && decide (e.arg = 0)
  | 9 => decl && decide (e.arg < 2 ^ 48)
  | _ => false

/-- Does a window end lie after the entry's VT (R31, R61)? -/
def calEndOk (e : CalEnt) : Bool :=
  ! (e.action % 128 = 5 || e.action % 128 = 6) || (e.arg ≠ e.vt && vtGe e.arg e.vt)

/-- Is a TASK_START origin a multiple of the partition's M (R31, R61)? -/
def calAlignOk (parts : List PartRec) (e : CalEnt) : Bool :=
  e.action % 128 ≠ 9 || e.arg % ((mOf parts e.part).getD 1) = 0

/-- The checks of R31 on one non-empty preload record. -/
def calEntOk (parts : List PartRec) (e : CalEnt) : Bool := calArgOk parts e && calEndOk e && calAlignOk parts e

/-- Is (kind, reaction) a pair that R367 allows? -/
def policyOk (kind react : Nat) : Bool :=
  if kind = 0x01 || kind = 0x02 || kind = 0x10 || kind = 0x11 then decide (react ≤ 3)
  else if kind = 0x70 then decide (react = 2)
  else if [0x20, 0x21, 0x22, 0x23, 0x24, 0x33, 0x35, 0x38, 0x39, 0x3C, 0x3D, 0x3E, 0x3F, 0x40, 0x41, 0x42, 0x50,
    0x51, 0x66, 0x6A].contains kind then react = 0 || react = 3
  else if [0x30, 0x31, 0x32, 0x34, 0x36, 0x37, 0x3A, 0x3B, 0x58, 0x60, 0x61, 0x62, 0x63, 0x64, 0x65, 0x68,
    0x69].contains kind then decide (react = 0)
  else false

/-- A task descriptor inside its ranges (R77). -/
def descOk (r : List Byte) (o : Nat) : Bool :=
  let d := readDesc r o
  d.progBase % 64 = 0 && d.progBase < 2 ^ 36 && d.entry % 4 = 0 && d.entry < 0x1000000
  && d.trapEntry % 4 = 0 && d.cls ≤ 7 && d.part ≤ 15 && zeroAt r (o + 0x12) 2
  && d.ldiLen % 64 = 0 && d.ldiLen ≤ 65536 && (d.ldiLen = 0 || (d.ldiSrc % 64 = 0 && d.ldiSrc < 2 ^ 36))

/-- A pin role entry inside its ranges (R31). -/
def roleOk (role index : Nat) : Bool :=
  match role with
  | 0 => decide (index < 16)
  | 1 | 2 => decide (index < 24)
  | 3 => decide (index < 8)
  | 4 | 5 => decide (index < 64)
  | 6 => decide (index = 0)
  | _ => false

/-- How many pins engine e's lane set has under image i: N * P; `none` when the image gives it no lanes. -/
def pinCount (i : Img) (e : Nat) : Option Nat :=
  match i.lanes.find? (fun l => l.engine = e), i.engines.find? (fun r => r.engine = e) with
  | some l, some r => some (l.tx.length * i.ppl.getD r.desc.part 0)
  | _, _ => none

/-- Do the fields of one record lie inside their ranges (R30, R31)? `i` is the image read so far as framed. -/
def recOk (i : Img) (typ : Nat) (r : List Byte) : Bool :=
  match typ with
  | 1 =>
    let p := readPart r
    p.part ≤ 15 && [1, 2, 4, 8, 16].contains p.m && inRange p.initMode 4 7 && zeroAt r 3 5
  | 2 =>
    let e := readEng r
    e.engine < 72 && e.start ≤ 1 && zeroAt r 2 6 && descOk r 8
  | 3 =>
    let n := fieldAt r 1 1
    fieldAt r 0 1 < 72 && inRange n 1 5 && zeroAt r 2 2 &&
      (upFrom 0 4).all fun k => if k < n then fieldAt r (4 + k) 1 < 96 else decide (fieldAt r (4 + k) 1 = 0xFF)
  | 4 =>
    let p := readPin r
    p.engine < 72 && zeroAt r 1 7 && p.roles.all (fun x => roleOk x.1 x.2) &&
      match pinCount i p.engine with
      | some n => (p.roles.drop n).all fun x => x.1 = 0 && x.2 = 0
      | none => true
  | 5 =>
    let g := readRegion r
    g.kind ≤ 2 && g.interleave ≤ 3 && zeroAt r 3 1 && g.chanMask ≠ 0 && g.base % 65536 = 0
      && g.size % 65536 = 0 && g.size ≠ 0 && g.base + g.size ≤ 0x7F000000
  | 6 =>
    let c := readClass r
    c.cls ≤ 7 && zeroAt r 1 3 && c.chanMask ≠ 0 && c.reserve ≤ 64 && inRange c.cap 1 65 && c.reserve ≤ c.cap
      && zeroAt r 10 2
  | 7 =>
    let c := readCap r
    c.dmaClass ≤ 7 && c.mapClass ≤ 7 && c.enables ≤ 7 && c.xBits ≤ 24 && c.yBits ≤ 24 && c.zBits ≤ 8
      && inRange c.dqWidth 1 65 && zeroAt r 13 3
  | 8 => policyOk (fieldAt r 0 1) (fieldAt r 1 1) && zeroAt r 2 2
  | 9 =>
    let c := readSlice r
    inRange c.slice 1 9 && c.enable ≤ 1 && (c.budget = 0 || inRange c.budget 5 201)
  | 10 =>
    let c := readGate r
    c.cls ≤ 7 && (c.inst ≤ 127 || c.inst = 0xFF) && c.enables ≤ 7 && zeroAt r 3 1
  | _ =>
    let c := readCal r
    if c.action = 0 then zeroAt r 0 16
    else c.action % 128 ≠ 1 && calEntOk i.parts c

/-- Is the prefix of a section inside its ranges (R31)? -/
def prefixOk (typ n : Nat) (b : List Byte) : Bool :=
  match typ with
  | 1 => fieldAt b 0 1 ≤ 16 && fieldAt b 0 1 = n && zeroAt b 1 7
  | 3 => (upFrom 0 16).all fun p => [0, 4, 8, 16].contains (fieldAt b p 1)
  | 6 => fieldAt b 0 1 ≤ 7 && fieldAt b 1 1 ≤ 7 && zeroAt b 2 6
  | 8 => inRange (fieldAt b 0 4) 100 1000001 && zeroAt b 4 4
  | _ => true

/-- The offset of the first record whose PART repeats an earlier one of the section (sections 0x01 and 0x07). -/
def repeatedKey (seen : List Nat) : List (Nat × List Byte) → List Nat
  | [] => []
  | (off, r) :: rest =>
    let k := fieldAt r 0 1
    if seen.contains k then off :: repeatedKey seen rest else repeatedKey (k :: seen) rest

/-- Pass 4 of R34 on one section: the offset of the first field violation. `gateBad` is the test of R333: the
first record of section 0x0A whose result fails. -/
def secFieldErr (i : Img) (gateBad : Img → Option Nat) (bs : List Byte) (s : Sec) : Option Nat :=
  let recs := secRecs bs s
  let body := slice bs (s.hdr + 8) s.len
  if ! prefixOk s.typ recs.length body then some (s.hdr + 8)
  else
    let dup := if s.typ = 1 || s.typ = 7 then repeatedKey [] recs else []
    match recs.find? (fun r => ! recOk i s.typ r.2 || dup.contains r.1) with
    | some r => some r.1
    | none => if s.typ = 10 then (gateBad i).map fun n => s.hdr + 8 + 4 * n else none

/-- Pass 4 of R34: field ranges, in image order (R30, R31, R333). -/
def fieldErr (i : Img) (gateBad : Img → Option Nat) (bs : List Byte) : List Sec → Option ImgErr
  | [] => none
  | s :: r => match secFieldErr i gateBad bs s with
    | some off => some (sErr errBadField off)
    | none => fieldErr i gateBad bs r

/-- The offsets, in image order, of the records for which a test fails. -/
def badRecs (bs : List Byte) (secs : List Sec) (t : Nat) (ok : List Byte → Bool) : List Nat :=
  ((recsOf bs secs t).filter fun r => ! ok r.2).map (·.1)

/-- The offsets of the records whose key repeats an earlier one. -/
def dupRecs (key : List Byte → Nat) : List Nat → List (Nat × List Byte) → List Nat
  | _, [] => []
  | seen, (off, r) :: rest =>
    if seen.contains (key r) then off :: dupRecs key seen rest else dupRecs key (key r :: seen) rest

/-- Do two regions of different partitions overlap on a channel (R34)? -/
def regionsClash (a b : Region) : Bool :=
  a.part ≠ b.part && (a.chanMask &&& b.chanMask) ≠ 0 && a.base < b.base + b.size && b.base < a.base + a.size

/-- The offsets of the later of each pair of clashing regions: R34 names the first violation in image order, not which
record of a pair is the violation (DESIGN CHOICE, log 131; so for every rule about two records). -/
def clashRecs : List Region → List (Nat × List Byte) → List Nat
  | _, [] => []
  | seen, (off, r) :: rest =>
    let g := readRegion r
    if seen.any (regionsClash g) then off :: clashRecs (g :: seen) rest else clashRecs (g :: seen) rest

/-- The offsets of the records that bind a TX lane an earlier record binds. -/
def laneRecs : List Nat → List (Nat × List Byte) → List Nat
  | _, [] => []
  | seen, (off, r) :: rest =>
    let l := (readLane r).tx
    if l.any seen.contains then off :: laneRecs (l ++ seen) rest else laneRecs (l ++ seen) rest

/-- The offsets of the records of 0x06 that cover a (class, channel) pair again. -/
def coverRecs : List ClassRec → List (Nat × List Byte) → List Nat
  | _, [] => []
  | seen, (off, r) :: rest =>
    let c := readClass r
    if seen.any (fun d => d.cls = c.cls && (d.chanMask &&& c.chanMask) ≠ 0) then off :: coverRecs (c :: seen) rest
    else coverRecs (c :: seen) rest

/-- Does the image give partition p exactly the fail-log and fail-map regions its ENABLES need, at most one each? -/
def capRegionsOk (i : Img) (c : CapRec) : Bool :=
  let has := fun k => i.regions.any (fun g => g.part = c.part && g.kind = k)
  (! bit c.enables 0 || has 1) && (! bit c.enables 1 || has 2)

/-- The smallest of a list of offsets, as an error. -/
def minOff (code : Nat) : List Nat → Option ImgErr
  | [] => none
  | o :: r => some (sErr code (r.foldl min o))

/-- The first of a list of optional errors. -/
def firstSome : List (Option ImgErr) → Option ImgErr
  | [] => none
  | some e :: _ => some e
  | none :: r => firstSome r

/-- Pass 5 of R34: the consistency rules, in the order of the table. A P byte other than 0 for an undeclared partition in the
prefix of section 0x03 (R31) is found by rule 1, at the section's body (DESIGN CHOICE, log 178: no pass is named). -/
def consistErr (i : Img) (bs : List Byte) (secs : List Sec) : Option ImgErr :=
  let inEng := fun e => i.engines.any (fun r => r.engine = e)
  let inLane := fun e => i.lanes.any (fun r => r.engine = e)
  let inPin := fun e => i.pins.any (fun r => r.engine = e)
  let k0 := fun r => fieldAt r 0 1
  let dupE := fun t => dupRecs k0 [] (recsOf bs secs t)
  let pfx := match secOf secs 3 with
    | some s => if (upFrom 0 16).all (fun p => i.ppl.getD p 0 = 0 || declares i.parts p) then [] else [s.hdr + 8]
    | none => []
  firstSome [
    minOff errBadField (badRecs bs secs 2 (fun r => declares i.parts (readEng r).desc.part) ++ pfx
      ++ badRecs bs secs 5 (fun r => declares i.parts (k0 r)) ++ badRecs bs secs 7 (fun r => declares i.parts (k0 r))),
    minOff errConflict (dupE 2 ++ dupE 3 ++ dupE 4 ++ badRecs bs secs 3 (fun r => inEng (k0 r))
      ++ badRecs bs secs 4 (fun r => inEng (k0 r))),
    minOff errConflict (badRecs bs secs 3 (fun r => inPin (k0 r)) ++ badRecs bs secs 4 (fun r => inLane (k0 r))),
    minOff errConflict (badRecs bs secs 3 (fun r =>
        let l := (readLane r).tx
        l.all fun x => x / 12 = l.getD 0 0 / 12) ++ laneRecs [] (recsOf bs secs 3)),
    minOff errBadField (badRecs bs secs 2 fun r =>
      (secOf secs 3).isNone || i.ppl.getD (readEng r).desc.part 0 ≠ 0),
    minOff errConflict (clashRecs [] (recsOf bs secs 5)),
    minOff errConflict (dupRecs (fun r => let g := readRegion r; if g.kind = 0 then 0 else g.part * 4 + g.kind) []
        ((recsOf bs secs 5).filter fun r => (readRegion r.2).kind ≠ 0)
      ++ badRecs bs secs 7 (fun r => capRegionsOk i (readCap r))),
    minOff errConflict (coverRecs [] (recsOf bs secs 6)),
    minOff errBadField (badRecs bs secs 10 (fun r =>
        let g := readGate r
        g.inst = 0xFF || ! [0, 2, 3].contains g.cls || g.inst < classCount g.cls))]

/-- Stage 1 of validation (R34): the image, or the first violation. -/
def structureStage (bs : List Byte) (len tickPs : Nat) (k : SigCtx) (gateBad : Img → Option Nat) : Img × Option ImgErr :=
  let fr := frame bs
  let i := readImg bs fr.1
  match headerErr bs len tickPs with
  | some e => (default, some e)
  | none => match fr.2 with
    | some e => (default, some e)
    | none => match sigErr bs k with
      | some e => (i, some e)
      | none => match fieldErr i gateBad bs fr.1 with
        | some e => (i, some e)
        | none => (i, consistErr i bs fr.1)

/-- What admission looks at besides the image (R35, R38). -/
structure AdmitCtx where
  tickPs : Nat
  aliveChan : Nat
  /-- Calendar entries that survive the apply. -/
  calKept : Nat
  /-- The bindings the capture units would serve after the apply. -/
  after : Img

/-- RESERVE, CAP, SHARE of a class on a channel under an optional section 0x06 (R38, R220). -/
def classSetting (cs : Option ClassSec) (cls ch : Nat) : Nat × Nat × Nat :=
  match cs with
  | none => if cls = 0 then (4, 64, 0) else (0, 64, 0)
  | some s => match s.recs.find? (fun r => r.cls = cls && bit r.chanMask ch) with
    | some r => (r.reserve, r.cap, r.share)
    | none => (0, 64, 0)

/-- The Almanac's class under an optional section 0x06 (R220). -/
def almanacClass (cs : Option ClassSec) : Nat := match cs with | none => 0 | some s => s.almanac

/-- The host-DMA class under an optional section 0x06 (R220). -/
def hostdmaClass (cs : Option ClassSec) : Nat := match cs with | none => 0 | some s => s.hostdma

/-- U of R38 in MB/s. -/
def admitU (cold : Bool) : Nat := if cold then 41779 else 40038

/-- 8 × tREFI of R38 in ps. -/
def noref8 (cold : Bool) : Nat := if cold then 31200000 else 15600000

/-- The sum of shares on a channel. -/
def shareSum (cs : Option ClassSec) (ch : Nat) : Nat :=
  (upFrom 0 8).foldl (fun a c => a + (classSetting cs c ch).2.2) 0

/-- The sum of reserves on a channel. -/
def reserveSum (cs : Option ClassSec) (ch : Nat) : Nat :=
  (upFrom 0 8).foldl (fun a c => a + (classSetting cs c ch).1) 0

/-- Check 1 of R38 and what IMAGE_ADMIT reports (R35): the reported channel, its headroom, and whether it passed. -/
def shareCheck (sum : Nat → Nat) (u alive : Nat) : Nat × Int × Bool :=
  let chs := maskBits 32 alive
  let room := fun c => (u : Int) - (sum c : Int)
  match chs.find? (fun c => room c < 0) with
  | some c => (c, room c, false)
  | none => match chs with
    | [] => (0, 0, true)
    | c0 :: r =>
      let best := r.foldl (fun b c => if room c < room b then c else b) c0
      (best, room best, true)

/-- Does window w leave too short a gap before a window x that opens at or past its own opening (R38, R49)? -/
def gapShort (w x : Nat × Nat) : Bool := vtGe x.1 w.1 && decide (vtDiff x.1 w.1 < 2 * vtDiff w.2 w.1)

/-- The windows (open, close) that fail check 5 of R38, times compared as R49 compares them. Of two windows with too short
a gap between them the one that opens first fails (DESIGN CHOICE, log 132). -/
def badWins (tickPs : Nat) (cold : Bool) (ws : List (Nat × Nat)) : List (Nat × Nat) :=
  ((upFrom 0 ws.length).zip ws).filterMap fun x =>
    if noref8 cold < vtDiff x.2.2 x.2.1 * tickPs || (ws.eraseIdx x.1).any (gapShort x.2) then some x.2 else none

/-- Check 5 of R38. -/
def winsOk (tickPs : Nat) (cold : Bool) (ws : List (Nat × Nat)) : Bool := (badWins tickPs cold ws).isEmpty

/-- The no-refresh windows (open, close) of a list of Calendar entries; two equal records of a preload are two windows
(DESIGN CHOICE, log 132: R63 drops duplicates only when the entries are installed). -/
def norefWins (es : List CalEnt) : List (Nat × Nat) :=
  (es.filter fun e => e.action % 128 = 6).map fun e => (e.vt, e.arg)

/-- The partitions with an engine whose lanes lie in capture group g. -/
def groupParts (i : Img) (g : Nat) : List Nat :=
  ((i.engines.filter fun e => i.lanes.any fun l => l.engine = e.engine && l.tx.any (fun t => t / 12 = g)).map
    (·.desc.part)).eraseDups

/-- RC_KI of a partition that has row and column counting enabled (R182, R413). -/
def rcKiOf (i : Img) (p : Nat) : Nat :=
  match i.caps.find? (fun c => c.part = p) with
  | some c => c.rcKi
  | none => 0

/-- Check 6 of R38. -/
def captureOk (i : Img) : Bool :=
  ((upFrom 0 8).all fun g => (groupParts i g).foldl (fun a p => a + rcKiOf i p) 0 ≤ 64) &&
  i.caps.all fun c => ! bit c.enables 1 ||
    match i.regions.find? (fun g => g.part = c.part && g.kind = 2) with
    | some g => 2 ^ (c.xBits + c.yBits + c.zBits) * c.dqWidth ≤ 8 * (g.size * popCount 32 g.chanMask)
    | none => true

/-- Stage 2 of validation (R35, R38): what IMAGE_ADMIT reports and the first failing check. -/
def admission (i : Img) (k : AdmitCtx) : (Nat × Int) × Option ImgErr :=
  let a := fun (c : Nat) => ImgErr.mk c 2 0
  let sh := shareCheck (shareSum i.classes) (admitU i.cold) k.aliveChan
  let rep := (sh.1, sh.2.1)
  let reservesOk := ((upFrom 0 32).all fun c => reserveSum i.classes c ≤ 48) &&
    (maskBits 32 k.aliveChan).all fun c => 1 ≤ (classSetting i.classes (almanacClass i.classes) c).1
  let laneOk := i.parts.all fun p =>
    let w := i.ppl.getD p.part 0
    w = 0 || 40000 ≤ 256 / w * p.m * k.tickPs
  let rttOk := i.caps.all fun c => c.rttMax * k.tickPs ≤ 8000000
  let calN := (i.cal.filter fun e => e.action ≠ 0).length
  (rep, firstErr [
    (! sh.2.2, a errShareOver),
    (! reservesOk, a errReserveOver),
    (! laneOk, a errLaneRate),
    (! rttOk, a errRttOver),
    (! winsOk k.tickPs i.cold (norefWins i.cal), a errWindowOver),
    (! captureOk k.after, a errCaptureOver),
    (decide (64 < calN + k.calKept), a errCalFull)])

/-- The logical TX lanes of an image's engines. -/
def imgLanes (i : Img) : List Nat := i.lanes.flatMap (·.tx)

/-- The capture groups an image's lanes occupy. -/
def imgGroups (i : Img) : List Nat := ((imgLanes i).map (· / 12)).eraseDups

/-- The channels under an image's regions. -/
def imgChans (i : Img) : Nat := i.regions.foldl (fun m g => m ||| g.chanMask) 0

/-- Stage 3 of validation (R36): is every bound resource alive? -/
def aliveOk (i : Img) (eng tx rx caps chan : Nat → Bool) : Bool :=
  i.engines.all (fun e => eng e.engine) && (imgLanes i).all (fun l => tx l && rx l)
  && (imgGroups i).all caps && (maskBits 32 (imgChans i)).all chan

end Sys2Proof.Machine
end

