-- ==== Sys2Proof/Machine/ModeOps.lean ====
section
/-! DEFINITION. Partition modes: what a change does (R390 to R396), and the checks of the mode commands (R394, R397). -/
namespace Sys2Proof.Machine
open Csr

/-- Set or clear bit p of a 16-bit field. -/
def State.putBitF (s : State) (f : Fld) (p : Nat) (b : Bool) : State := s.put f (putBit (s.rd f) p b)

/-- Is the change of a partition's mode allowed (R392)? A change to the mode in effect is. -/
def modeAllowed (old new : Nat) : Bool := inRange new 3 7 && ! (old = modeSleep && new = modeRun)

/-- A lane-bound task stops at VT v (R59, R393): before the first cycle at or past v, the earliest such v; a start that
waits is cancelled. -/
def State.stopFrom (s : State) (e v : Nat) : State :=
  if s.engState e = 3 then s.updEng e fun g => { g with
    stopVt := some (match g.stopVt with | some w => if vtGe v w then w else v | none => v) }
  else s.stopEng e 1

/-- The first entry to RUN after the apply that bound the partition (R393, R80): every task with START = 0 starts, with
one automatic origin; a DEGRADED_HALTED partition starts nothing (R373). -/
def State.firstRun (s : State) (p : Nat) : State :=
  let s := { s with img := { s.img with entered := putBit s.img.entered p true } }
  if s.rd (FAULT_PART_HEALTH p) = 2 then s
  else
    let o := s.autoOrigin p
    s.each ((s.img.active.engines.filter fun r => r.desc.part = p && r.start = 0).map (·.engine)) fun s e =>
      if s.engState e = 1 || s.engState e = 2 then s.startEng e o else s

/-- A partition leaves RUN (R393, R177): its lane-bound tasks stop at the boundary. -/
def State.leaveRun (s : State) (p : Nat) : State :=
  let v := s.vt.vt
  let s := s.each (s.laneEngs p) fun s e => s.stopFrom e v
  { s with img := { s.img with flushFrom := (p, v) :: s.img.flushFrom.filter fun x => x.1 ≠ p } }

/-- Partition p's mode becomes m at a frame boundary (R391 to R393, R396); slices whose target is open no longer are
abandoned (R385), and blocks that run again are clocked (R331). -/
def State.setPmode (s : State) (p m : Nat) : State :=
  let old := s.pmode p
  if old = m then s
  else
    let s := s.put (GLOBAL_PMODE_MODE p) m
    let s := if old = modeRun then s.leaveRun p else s
    let s := if m = modeSleep then
        ((s.stopPart p 2 ((s.partEngs p).filter s.aux)).putBitF GLOBAL_PDRAIN_DRAINING p true).putBitF
          GLOBAL_PDRAIN_WAKING p false
      else s
    let s := if old = modeSleep then
        (s.putBitF GLOBAL_PDRAIN_DRAINING p false).putBitF GLOBAL_PDRAIN_WAKING p true else s
    let s := if m = modeRun && ! bit s.img.entered p then s.firstRun p else s
    (s.closeSlices).gateRefresh

/-- Has partition p drained (R396): tasks ended, rows and passes sent, echo entries answered or expired, MAP_CLEAN? -/
def State.partDrained (s : State) (p : Nat) : Bool :=
  ((s.partEngs p).all fun e => s.engState e ≠ 3 && s.drained e) &&
    ((upFrom 0 9).filter fun u => s.serves u p).all fun u => (s.cap u).ring.all (fun x => x.part ≠ p) && s.mapClean u p

/-- PARTITION_DRAINED (R396). -/
def execPartitionDrained (p : Fin 16) (s : State) : Outcome :=
  .next (if bit (s.rd GLOBAL_PDRAIN_DRAINING) p && s.partDrained p then s.putBitF GLOBAL_PDRAIN_DRAINING p false else s)

/-- PARTITION_WAKE_COMPLETE (R396): every block of the partition is clocked. -/
def execPartitionWakeComplete (p : Fin 16) (s : State) : Outcome :=
  .next (if bit (s.rd GLOBAL_PDRAIN_WAKING) p &&
      gateBlocks.all (fun n => ! (s.blockParts n).contains p.val || ! s.gateEn n || ! s.flag (CLKPWR_GATE_GATED n)) then
        s.putBitF GLOBAL_PDRAIN_WAKING p false
    else s)

/-! Checks of the mode commands (R394, R397) -/

/-- Causes of GLOBAL_MODE_STAT. -/
def causeBadCmd : Nat := 1
def causeNotReady : Nat := 2
def causeUndeclared : Nat := 3
def causeTransition : Nat := 4
def causeNotRun : Nat := 5
def causeAlign : Nat := 6
def causeNotSleep : Nat := 7
def causeBusy : Nat := 8
def causeKey : Nat := 9

/-- A refused command. -/
def State.modeRefuse (s : State) (cause : Nat) : State :=
  (s.on GLOBAL_MODE_STAT_CMD_REFUSED).put GLOBAL_MODE_STAT_CAUSE cause

/-- The partitions a command names. -/
def ModeCmd.parts : ModeCmd → List Nat
  | .setMode _ ps => maskBits 16 ps
  | .start ps _ => maskBits 16 ps

/-- The first check of R394 that fails on SET_MODE or START, 0 if none does. -/
def State.modeCheck (s : State) (c : ModeCmd) : Nat :=
  if s.devMode ≠ modeReady then causeNotReady
  else if c.parts.isEmpty || ! c.parts.all s.declared then causeUndeclared
  else match c with
    | .setMode m _ => if c.parts.all (fun p => modeAllowed (s.pmode p) m) then 0 else causeTransition
    | .start _ o =>
      if ! c.parts.all (fun p => s.pmode p = modeRun) then causeNotRun
      else if c.parts.all (fun p => o % s.mPart p = 0) then 0 else causeAlign

/-- A SET_MODE or START is written: checked, and queued for the next boundary. -/
def State.modeWrite (s : State) (c : ModeCmd) : State :=
  if s.modeCheck c ≠ 0 then s.modeRefuse (s.modeCheck c)
  else { s with modes := { s.modes with cmds := s.modes.cmds ++ [c] } }

/-- SET_MODE (R394). -/
def execSetMode (mode : BitVec 3) (parts : BitVec 16) (s : State) : Outcome :=
  .next (s.modeWrite (.setMode mode.toNat parts.toNat))

/-- The origin in GLOBAL_START_ORIGIN. -/
def State.startOrigin (s : State) : Nat := s.rd GLOBAL_START_ORIGIN_LO_VT + s.rd GLOBAL_START_ORIGIN_HI_VT * 2 ^ 32

/-- PARTITION_START (R395). -/
def execPartitionStart (parts : BitVec 16) (s : State) : Outcome :=
  .next (s.modeWrite (.start parts.toNat s.startOrigin))

/-- Is partition p DEGRADED_HALTED, so that a start of it is void (R373)? -/
def State.halted (s : State) (p : Nat) : Bool := s.rd (FAULT_PART_HEALTH p) = 2

/-- A command that passes its second check takes effect (R392, R395); one automatic origin serves every partition named:
the latest of their own, a multiple of every M. -/
def State.modeEffect (s : State) (c : ModeCmd) : State :=
  let s := match c with
    | .setMode m _ => s.each c.parts fun s p => s.setPmode p m
    | .start _ o =>
      let m := c.parts.foldl (fun a p => max a (s.mPart p)) 1
      let o := if o = 0 then roundUp (s.vt.vt + s.rd VT_LEAD_LEAD) m % 2 ^ 48 else o
      s.each (c.parts.filter fun p => ! s.halted p) fun s p => s.startPart p o
  s.on GLOBAL_MODE_STAT_MODE_CHANGED

/-- MODE_COMMAND_EFFECT (R394): at the frame boundary, after its applies, Calendar actions and fault reactions, the oldest
command is checked again and takes effect, or is refused. -/
def execModeCommandEffect (s : State) : Outcome :=
  .next (match s.modes.cmds with
    | [] => s
    | c :: rest =>
      if s.pauses.any || s.devMode = modeDeep || ! s.boundaryDone then s
      else
        let s : State := { s with modes := { s.modes with cmds := rest } }
        if s.modeCheck c ≠ 0 then s.modeRefuse (s.modeCheck c) else s.modeEffect c)

/-- MODE_BAD_CMD (R394): an OP that is not 1 to 5. -/
def execModeBadCmd (s : State) : Outcome := .next (s.modeRefuse causeBadCmd)

/-- Is an activity running that refuses DEEP_ENTER with BUSY (R397)? -/
def State.deepBusy (s : State) : Bool :=
  ! s.st.slices.isEmpty || s.st.setRuns.isSome || s.migrating || s.fuses.cmd.isSome || s.alm.fwOpen || s.alm.upd.isSome || s.alm.job.isSome ||
    s.rd ALM_STATUS_STATE = 3 || (upFrom 0 34).any fun c =>
      s.flag (MC_TRN_STAT_RUNNING c) || s.mcState c = 2 || (s.mc c).moving.isSome

/-- The first check that refuses DEEP_ENTER, 0 if none does (R394, R397). -/
def State.deepCheck (s : State) : Nat :=
  if s.devMode ≠ modeReady then causeNotReady
  else if ! s.partsList.all (fun p => s.pmode p = modeSleep && ! bit (s.rd GLOBAL_PDRAIN_DRAINING) p) then causeNotSleep
  else if s.deepBusy then causeBusy else 0

end Sys2Proof.Machine
end

