-- ==== Sys2Proof/Machine/ImageOps.lean ====
section
/-! DEFINITION. The image unit (chapter 02): the checks of an apply and what a successful one installs. -/
namespace Sys2Proof.Machine
open Csr

/-- Change the image unit. -/
def State.updImg (s : State) (f : ImageUnit → ImageUnit) : State := { s with img := f s.img }

/-- Write IMAGE_ERR (R48). -/
def State.imgErr (s : State) (e : ImgErr) (atEpoch : Bool) : State :=
  (((s.put IMAGE_ERR_CODE e.code).put IMAGE_ERR_STAGE e.stage).put IMAGE_ERR_OFFSET e.off).putb IMAGE_ERR_AT_EPOCH atEpoch

/-- A refused command (R24). -/
def State.imgRefuse (s : State) (code : Nat) : State := s.imgErr (ImgErr.mk code 0 0) false

/-- The code of a command the slot's state does not allow (R24). -/
def State.slotRefusal (s : State) : Nat :=
  if [slotLoading, slotValidating, slotArmed].contains s.slotState then errBusy
  else if s.slotState = slotEmpty then errNoImage
  else errNotValid

/-! Bindings in scope -/

/-- The partitions an apply acts on (R40). -/
def scopeOf (parts : Nat) : List Nat := if parts = 0 then upFrom 0 16 else maskBits 16 parts

/-- The bindings of an image that concern some partitions. -/
def Img.only (i : Img) (ps : List Nat) : Img :=
  let engs := i.engines.filter fun r => ps.contains r.desc.part
  let mine := fun (e : Nat) => engs.any fun r => r.engine = e
  { i with
    parts := i.parts.filter fun r => ps.contains r.part
    engines := engs
    ppl := (upFrom 0 16).map fun p => if ps.contains p then i.ppl.getD p 0 else 0
    lanes := i.lanes.filter fun r => mine r.engine
    pins := i.pins.filter fun r => mine r.engine
    regions := i.regions.filter fun r => ps.contains r.part
    caps := i.caps.filter fun r => ps.contains r.part }

/-- The bindings after an apply of `new` to the partitions ps (R43, R44): a partition of the scope that the image does
not declare is gone. -/
def Img.merge (old new : Img) (ps : List Nat) : Img :=
  let a := old.only ((upFrom 0 16).filter fun p => ! ps.contains p)
  let b := new.only ps
  { old with
    parts := a.parts ++ b.parts
    engines := a.engines ++ b.engines
    ppl := (upFrom 0 16).map fun p => if ps.contains p then new.ppl.getD p 0 else old.ppl.getD p 0
    lanes := a.lanes ++ b.lanes
    pins := a.pins ++ b.pins
    regions := a.regions ++ b.regions
    caps := a.caps ++ b.caps }

/-- The image in effect after an apply. -/
def State.imgAfter (s : State) (i : Img) (parts : Nat) : Img :=
  if parts = 0 then i else s.img.active.merge i (scopeOf parts)

/-! Section 0x0A (R333) -/

/-- The record of section 0x0A that decides block n: the last that names it, with its number. -/
def gateRecOf (rs : List GateRec) (n : Nat) : Option (Nat × GateRec) :=
  (((upFrom 0 rs.length).zip rs).filter fun r => r.2.cls = n / 128 && (r.2.inst = 0xFF || r.2.inst = n % 128)).getLast?

/-- The enables of block n that a device-wide apply of the image installs; class 7 has none to clear (R328). -/
def imgGate (i : Img) (n : Nat) : Nat :=
  if n / 128 = 7 then gateReset n
  else match gateRecOf (i.gating.getD []) n with
    | some r => r.2.enables
    | none => gateReset n

/-- Does block n with enables en fail R332 under the bindings of an image? -/
def State.gateFails (s : State) (i : Img) (en n : Nat) : Bool :=
  ((n / 128 = 4 || n = 5 * 128 + 1 || n / 128 = 6) && ! (bit en 0 && bit en 1)) || (! bit en 0 && s.gateBound i n)

/-- The first record of section 0x0A whose result fails R332 against the image's own bindings (R333); a test that follows
the field checks of the section's records (DESIGN CHOICE, log 131: the spec names no place for it within the pass). -/
def State.gateBad (s : State) (i : Img) : Option Nat :=
  let ns := gateBlocks.filterMap fun n =>
    if s.gateFails i (imgGate i n) n then (gateRecOf (i.gating.getD []) n).map (·.1) else none
  match ns with
  | [] => none
  | n :: r => some (r.foldl min n)

/-! Stage 2 -/

/-- The Calendar entries in effect that survive an apply (R43, R44). -/
def State.survivors (s : State) (parts : Nat) : Nat :=
  if parts = 0 then 0 else (s.calLive.filter fun x => ! (scopeOf parts).contains x.2.part).length

/-- The offset IMAGE_ERR reports for a failing admission check: the first record that fails it (DEDUCED, log 28). -/
def admitOff (bs : List Byte) (secs : List Sec) (i : Img) (k : AdmitCtx) (code : Nat) : Nat :=
  let first := fun (t : Nat) (f : List Byte → Bool) =>
    match (recsOf bs secs t).find? fun r => f r.2 with | some r => r.1 | none => 0
  let covers := fun (ch : Option Nat) => match ch with
    | some c => first 6 fun r => bit (readClass r).chanMask c
    | none => 0
  if code = errShareOver then
    covers ((maskBits 32 k.aliveChan).find? fun c => admitU i.cold < shareSum i.classes c)
  else if code = errReserveOver then
    covers ((upFrom 0 32).find? fun c => 48 < reserveSum i.classes c ||
      (bit k.aliveChan c && (classSetting i.classes (almanacClass i.classes) c).1 = 0))
  else if code = errLaneRate then
    first 1 fun r =>
      let p := readPart r
      let w := i.ppl.getD p.part 0
      w ≠ 0 && 256 / w * p.m * k.tickPs < 40000
  else if code = errRttOver then first 7 fun r => 8000000 < (readCap r).rttMax * k.tickPs
  else if code = errWindowOver then
    let bad := badWins k.tickPs i.cold (norefWins i.cal)
    first 11 fun r =>
      let c := readCal r
      c.action % 128 = 6 && bad.contains (c.vt, c.arg)
  else if code = errCaptureOver then
    let gs := (upFrom 0 8).filter fun g => 64 < (groupParts k.after g).foldl (fun a p => a + rcKiOf k.after p) 0
    if gs.isEmpty then
      first 7 fun r =>
        let c := readCap r
        bit c.enables 1 && i.regions.any fun g => g.part = c.part && g.kind = 2 &&
          8 * (g.size * popCount 32 g.chanMask) < 2 ^ (c.xBits + c.yBits + c.zBits) * c.dqWidth
    else first 7 fun r => gs.any fun g => (groupParts k.after g).contains (readCap r).part
  else if code = errCalFull then
    match (((recsOf bs secs 11).filter fun r => (readCal r.2).action ≠ 0).drop (64 - k.calKept)).head? with
    | some r => r.1
    | none => 0
  else 0

/-- What admission looks at (R35, R38). -/
def State.admitCtx (s : State) (i : Img) (parts : Nat) : AdmitCtx where
  tickPs := s.rd VT_TICK_PS_TICK_PS
  aliveChan := (s.reg 0x20070).toNat
  calKept := s.survivors parts
  after := s.imgAfter i parts

/-- Stage 2 (R35): IMAGE_ADMIT and the first failing check. HEADROOM holds the low 21 bits where the sum of 32-bit SHAREs
takes it out of their range (DESIGN CHOICE, log 133: the spec states no value there). -/
def State.stage2 (s : State) (bs : List Byte) (i : Img) (parts : Nat) : State × Option ImgErr :=
  let k := s.admitCtx i parts
  let r := admission i k
  let s := (s.put IMAGE_ADMIT_CHANNEL r.1.1).puti IMAGE_ADMIT_HEADROOM r.1.2
  (s, r.2.map fun e => { e with off := admitOff bs (frame bs).1 i k e.code })

/-! Stage 3 (R36, R37) -/

/-- The offset of the first record that binds a resource that is not alive: engines, then lanes with their groups, then
channels. R36 gives NOT_ALIVE no OFFSET (DESIGN CHOICE, log 130). -/
def State.deadRec (s : State) (bs : List Byte) (secs : List Sec) : Option Nat :=
  let off := fun (t : Nat) (ok : List Byte → Bool) => (badRecs bs secs t ok).head?
  (off 2 fun r => s.aliveEng (readEng r).engine).or <|
    (off 3 fun r => (readLane r).tx.all fun l => s.aliveTx l && s.aliveRx l && s.aliveCap (l / 12)).or <|
      off 5 fun r => (maskBits 32 (readRegion r).chanMask).all s.aliveChan

/-- Section 0x06 in effect for the comparison of R37 (R219). -/
def State.sec06Now (s : State) : Option (List Byte) :=
  if s.flag BW_STATUS_DIVERGED then
    let b := s.bwEff
    some (natLe 1 (s.rd BW_CLASSMAP_HOSTDMA_CLASS) ++ natLe 1 (s.rd BW_CLASSMAP_ALMANAC_CLASS) ++ natLe 6 0 ++
      ((upFrom 0 256).filter fun n => b.reserve n ≠ 0 || b.cap n ≠ 64 || b.share n ≠ 0).flatMap fun n =>
        natLe 4 (n / 32) ++ natLe 4 (2 ^ (n % 32)) ++ natLe 1 (b.reserve n) ++ natLe 1 (b.cap n) ++ natLe 2 0 ++
          natLe 4 (b.share n))
  else s.img.active.devwide.getD 0 none

/-- Section 0x0A in effect for the comparison of R37 (R333). -/
def State.sec0ANow (s : State) : Option (List Byte) :=
  if s.flag CLKPWR_GATE_COMMIT_DIVERGED then
    let en := fun (n : Nat) => (s.effReg (0x801000 + 4 * n)).toNat % 8
    some ((gateBlocks.filter fun n => en n ≠ gateReset n).flatMap fun n =>
      natLe 1 (n / 128) ++ natLe 1 (n % 128) ++ natLe 1 (en n) ++ natLe 1 0)
  else s.img.active.devwide.getD 3 none

/-- The offset of what makes a partial apply differ (R37): the header of the first section that differs, 0 where the image
lacks it, 0x24 for ADMIT_MODE (DESIGN CHOICE, log 130: the spec gives DEVWIDE_DIFFERS and the CONFLICT of stage 3 no
OFFSET). -/
def State.devwideErr (s : State) (secs : List Sec) (i : Img) : Option Nat :=
  let now := [s.sec06Now, s.img.active.devwide.getD 1 none, s.img.active.devwide.getD 2 none, s.sec0ANow]
  let bad := ((i.devwide.zip now).zip [6, 8, 9, 10]).find? fun x => x.1.1 ≠ x.1.2
  if i.devwide.any Option.isSome && bad.isSome then
    some (match bad.bind fun x => secOf secs x.2 with | some c => c.hdr | none => 0)
  else if i.cold ≠ s.flag BW_STATUS_ADMIT_COLD then some 0x24
  else none

/-- The partial-apply checks of R37, with the scope rule for preload entries of R44. -/
def State.partialErr (s : State) (bs : List Byte) (i : Img) (parts : Nat) : Option ImgErr :=
  let ps := scopeOf parts
  let secs := (frame bs).1
  let kept := s.img.active.only ((upFrom 0 16).filter fun p => ! ps.contains p)
  let mine := i.only ps
  let keptLanes := kept.lanes.flatMap (·.tx)
  let e := fun (c : Nat) (o : Option Nat) => o.map fun x => ImgErr.mk c 3 x
  if parts = 0 then none
  else firstSome [
    e errDevwide (s.devwideErr secs i),
    (minOff errConflict (
      badRecs bs secs 2 (fun r => ! ((mine.engines.any fun x => x.engine = (readEng r).engine) &&
        kept.engines.any fun x => x.engine = (readEng r).engine)) ++
      badRecs bs secs 3 (fun r => ! ((mine.engines.any fun x => x.engine = (readLane r).engine) &&
        (readLane r).tx.any keptLanes.contains)) ++
      badRecs bs secs 5 (fun r => ! (ps.contains (readRegion r).part &&
        kept.regions.any fun g => regionsClash g (readRegion r))))).map fun x => { x with stage := 3 },
    e errBadField (badRecs bs secs 11 (fun r => (readCal r).action = 0 || ps.contains (readCal r).part)).head?]

/-- The checks of an apply at its epoch (R41): TICK_PS, stages 2 and 3, the clock-gating test, partitions in RUN, READY. -/
def State.applyErr (s : State) (bs : List Byte) (i : Img) (parts : Nat) : State × Option ImgErr :=
  if i.tickPs ≠ s.rd VT_TICK_PS_TICK_PS then (s, some (sErr errBadField 0x20))
  else
    let r := s.stage2 bs i parts
    let secs := (frame bs).1
    (r.1, firstSome [
      r.2,
      (s.deadRec bs secs).map fun o => ImgErr.mk errNotAlive 3 o,
      s.partialErr bs i parts,
      (s.gateBad i).map fun n => sErr errBadField (match secOf secs 10 with | some c => c.hdr + 8 + 4 * n | none => 0),
      if (scopeOf parts).any (fun p => s.declared p && s.pmode p = modeRun) then some (ImgErr.mk errNamedRunning 0 0) else none,
      if s.devMode ≠ modeReady then some (ImgErr.mk errNotReady 0 0) else none])

/-! Tearing down and installing -/

/-- Engine e loses its task (R42, R43, R80); a spare, fenced or retired engine stays what it is. -/
def State.unbindEng (s : State) (e : Nat) : State :=
  let st := s.engState e
  let s := if st = 5 || st = 6 || st = 7 then s else s.engCut e 6 0
  ((s.put (ENG_STATE_PART e) 0).put (ENG_STATE_CLASS e) 0).off (ENG_STATE_AUX e)

/-- The old bindings in scope are torn down; slices on the units that served them are abandoned (R385). -/
def State.unbind (s : State) (ps : List Nat) : State :=
  s.each ps fun s p =>
    let s := s.abandonWhere fun x => (s.blockParts x.target).contains p
    let s := s.capUnbind p
    s.each (s.partEngs p) fun s e => s.unbindEng e

/-- Engine record r takes effect: the descriptor, and preparation (R79), for which a gated engine is clocked (R331). -/
def State.bindEng (s : State) (r : EngRec) : State :=
  let e := r.engine
  let s := (s.updEng e fun g => { g with desc := r.desc }).when (! s.unitOut e) fun s => s.ungate e
  let s := ((s.put (ENG_STATE_PART e) r.desc.part).put (ENG_STATE_CLASS e) r.desc.cls).putb (ENG_STATE_AUX e)
    ((s.engLanes e).isEmpty)
  if s.engState e = 0 then s.prepare e else s

/-- The mode and the per-partition evidence of partition p after an apply that names it (R42, R66, R378). -/
def State.bindPart (s : State) (p : Nat) : State :=
  let m := match s.img.active.parts.find? (fun r => r.part = p) with | some r => r.initMode | none => 0
  let s := (s.putb (GLOBAL_PMODE_DECLARED p) (s.declared p)).put (GLOBAL_PMODE_MODE p) m
  let s := (s.putBitF GLOBAL_PDRAIN_DRAINING p false).putBitF GLOBAL_PDRAIN_WAKING p false
  let s := s.updImg fun u => { u with
    entered := putBit u.entered p false
    winShut := putBit u.winShut p false
    capEdges := u.capEdges.filter fun x => x.part ≠ p
    lastSample := u.lastSample.filter fun x => x.1 ≠ p
    flushFrom := u.flushFrom.filter fun x => x.1 ≠ p }
  (s.partHealed p).capBind p

/-- The binding of logical lane l (R145): its engine and slot, its partition, P and M. -/
def State.laneBinding (s : State) (l : Nat) : Option (Nat × Nat) × Option Nat × Nat × Nat :=
  match s.lanePart l with
  | some p => (s.laneOwner l, some p, s.pPart p, s.mPart p)
  | none => (s.laneOwner l, none, 0, 0)

/-! The Calendar -/

/-- Was there an uncommitted host value in entry n? -/
def State.calDirty (s : State) (n : Nat) : Bool := s.calPend n ≠ s.calEff n

/-- Duplicates among the entries in effect (R63): every later one of two equal entries. -/
def State.calDups (s : State) : List Nat :=
  let es := s.calLive
  (es.filter fun x => es.any fun y => y.1 < x.1 && y.2 = x.2).map (·.1)

/-- Empty the duplicates in both copies and count them (R63). -/
def State.calDedup (s : State) : State :=
  s.each s.calDups fun s n => (s.calSet n CalEnt.none).inc VT_CAL_STAT_DUP

/-- Count the entries of a list whose VT has been reached already (PAST). -/
def State.calPast (s : State) (ns : List Nat) : State :=
  s.each ns fun s n => if (s.calEff n).code ≠ 0 && (s.calEff n).onVt && s.reached (s.calEff n).vt then
    s.inc VT_CAL_STAT_PAST else s

/-- Set a bit of GLOBAL_PEND.DISCARDED. -/
def State.discarded (s : State) (g : Nat) (b : Bool) : State := if b then s.onBit GLOBAL_PEND_DISCARDED g else s

/-- The apply's changes to the Calendar (R43, R44, R63, R412): entries of the scope removed, the preload added into
entries that are empty in both copies while there are such. -/
def State.calInstall (s : State) (i : Img) (parts : Nat) : State :=
  let gone := if parts = 0 then upFrom 0 64
    else (s.calLive.filter fun x => (scopeOf parts).contains x.2.part).map (·.1)
  let lost := gone.any s.calDirty
  let s := s.each gone fun s n => s.calSet n CalEnt.none
  let s : State := { s with vt := { s.vt with
    stopped := s.vt.stopped.filter (fun x => ! gone.contains x.1)
    lateCaps := s.vt.lateCaps.filter fun x => ! gone.contains x.1 } }
  let es := i.cal.filter fun e => e.action ≠ 0
  let room := (upFrom 0 64).filter s.calEmpty ++ (upFrom 0 64).filter fun n => (s.calEff n).code = 0 && ! s.calEmpty n
  let use := es.zip room
  let lost := lost || use.any fun x => s.calDirty x.2
  let s := s.each use fun s x => s.calSet x.2 x.1
  ((s.calDedup).calPast (use.map (·.2))).discarded 2 lost

/-! Device-wide sections (R43) -/

/-- Section 0x06, or the settings of R220 without it. -/
def State.installClasses (s : State) (i : Img) : State :=
  let lost := s.dirty bwAddrs
  let s := s.each (upFrom 0 256) fun s n =>
    let c := classSetting i.classes (n / 32) (n % 32)
    (s.setBoth (rsvAddr n) (BitVec.ofNat 32 (c.1 % 256 + c.2.1 % 256 * 256))).setBoth (shareAddr n)
      (BitVec.ofNat 32 (min c.2.2 65535))
  let s := (s.put BW_CLASSMAP_ALMANAC_CLASS (almanacClass i.classes)).put BW_CLASSMAP_HOSTDMA_CLASS (hostdmaClass i.classes)
  let s := (s.putb BW_STATUS_ADMIT_COLD i.cold).off BW_STATUS_DIVERGED
  let s : State := { s with bw := { s.bw with sec06 := i.classes } }
  (s.bwAll).discarded 1 lost

/-- Section 0x08, or the defaults of R367 and R374; of two records for one KIND the later holds, as of two for one SLICE in
section 0x09 (DESIGN CHOICE, log 133: the spec does not say). Where it differs from the one before, the quiet periods of the units
fenced by the policy start again. -/
def State.installPolicy (s : State) (i : Img) (changed : Bool) : State :=
  let s := if changed then s.updFaults fun f => { f with fences := f.fences.map fun x =>
    if x.host then x else { x with since := s.now } } else s
  let s := s.put FAULT_CFG_QUIET_US (match i.policy with | some p => p.quietUs | none => 10000)
  let s := s.each (upFrom 0 256) fun s k => s.put (FAULT_KIND_REACTION k) (kindDefault k)
  s.each (match i.policy with | some p => p.recs | none => []) fun s r => s.put (FAULT_KIND_REACTION r.1) r.2

/-- Section 0x09, or the defaults of R379. -/
def State.installSlices (s : State) (i : Img) : State :=
  let s := s.each (upFrom 1 8) fun s k =>
    ((s.put (ST_KIND_ENABLE k) (stKindReset k % 2)).put (ST_KIND_BUDGET_US k) (stKindReset k / 256)).put
      (ST_GAP_MIN_GAP_MS k) (stGapReset k)
  s.each (i.selftest.getD []) fun s r =>
    let s := (s.put (ST_KIND_ENABLE r.slice) r.enable).put (ST_GAP_MIN_GAP_MS r.slice) r.gap
    s.put (ST_KIND_BUDGET_US r.slice) r.budget

/-- Section 0x0A, or the values of R328 (R333). -/
def State.installGates (s : State) (i : Img) : State :=
  let lost := s.dirty gateAddrs
  let s := s.each gateBlocks fun s n =>
    let en := imgGate i n
    let s := (s.put (CLKPWR_GATE_RUN_EN n) (en % 2)).put (CLKPWR_GATE_SLEEP_EN n) (en / 2)
    let s := s.put (CLKPWR_GATE_DEEP_EN n) (en / 4)
    s.setEff (0x801000 + 4 * n) (BitVec.ofNat 32 en)
  let s := (s.off CLKPWR_GATE_COMMIT_DIVERGED).updGates fun g => { g with refused := [] }
  s.discarded 6 lost

/-- What only a device-wide apply installs (R43). -/
def State.installDevice (s : State) (i : Img) (policy : Bool) : State :=
  let s := (((s.installClasses i).installPolicy i policy).installSlices i).installGates i
  (s.put IMAGE_ACTIVE_ID_LO_ID (i.id % 2 ^ 32)).put IMAGE_ACTIVE_ID_HI_ID (i.id / 2 ^ 32)

/-! The apply -/

/-- The slot is empty. -/
def State.slotClear (s : State) : State :=
  let s := s.updImg fun u => { u with slot := [], parsed := none, epoch := 0, parts := 0, armedBy := 0 }
  (((s.put IMAGE_STATUS_STATE slotEmpty).off IMAGE_STATUS_PARTIAL).off IMAGE_STATUS_SIGNED).off IMAGE_STATUS_ADMIT_COLD

/-- Bindings, modes, lanes, Calendar and device-wide sections change at one boundary (R42 to R45). -/
def State.install (s : State) (i : Img) (parts : Nat) : State :=
  let ps := scopeOf parts
  let old := (upFrom 0 96).map s.laneBinding
  let policy := i.devwide.getD 1 none ≠ s.img.active.devwide.getD 1 none
  let s := s.unbind ps
  let after := s.imgAfter i parts
  let s := s.updImg fun u => { u with active := { after with cal := [] } }
  let s := s.abandonWhere fun x => (s.blockParts x.target).any ps.contains
  let s := s.each (after.engines.filter fun r => ps.contains r.desc.part) fun s r => s.bindEng r
  let s := s.each ps fun s p => s.bindPart p
  let s := s.calInstall i parts
  let s := if parts = 0 then s.installDevice i policy else s
  s.each ((upFrom 0 96).filter fun l => s.laneBinding l ≠ old.getD l (none, none, 0, 0)) fun s l => s.laneRebind l

/-- The epoch of an armed apply has come (R41, R42): the checks again, then success or APPLY_FAIL. -/
def State.applyNow (s : State) : State :=
  match s.img.parsed with
  | none => s
  | some i =>
    let parts := s.img.parts
    let s := (s.put IMAGE_ADMIT_CHANNEL 0).put IMAGE_ADMIT_HEADROOM 0
    match s.applyErr s.img.slot i parts with
    | (s, some e) =>
      let s := s.updImg fun u => { u with armedBy := 0 }
      let s := (((s.put IMAGE_STATUS_STATE slotValid).off IMAGE_STATUS_PARTIAL).imgErr e true).on IMAGE_STATUS_APPLY_FAIL
      s.imageEvent 1
    | (s, none) =>
      let s := (s.install i parts).slotClear
      let s := ((s.on IMAGE_STATUS_DONE).incMod IMAGE_STATUS_ACTIVE_GEN).imageEvent 0
      (s.gateRefresh).closeSlices

/-- Before an apply that passes its checks unbinds anything, the capture units bring what they hold to DRAM, through their
ports: is the boundary complete? Until it is, the slot stays ARMED (DEDUCED, log 188). `f` is what comes before the apply. -/
def State.applyReady (s : State) (f : State → State) : State × Bool :=
  match s.img.parsed with
  | none => (s, true)
  | some i =>
    if ((f s).applyErr s.img.slot i s.img.parts).2.isSome then (s, true) else s.leaveAll (scopeOf s.img.parts)

/-- The apply runs, once the capture units are ready for it; `f` is what comes before it. -/
def State.applyWhen (s : State) (f : State → State) : State :=
  match s.applyReady f with
  | (s, true) => (f s).applyNow
  | (s, false) => s

/-- Arm a VALID slot (R40). -/
def State.arm (s : State) (epoch parts by_ : Nat) : State :=
  ((s.updImg fun u => { u with epoch := epoch, parts := parts, armedBy := by_ }).put IMAGE_STATUS_STATE slotArmed).putb
    IMAGE_STATUS_PARTIAL (parts ≠ 0)

/-- The slot returns from ARMED to VALID (R61). -/
def State.disarm (s : State) : State :=
  ((s.updImg fun u => { u with armedBy := 0 }).put IMAGE_STATUS_STATE slotValid).off IMAGE_STATUS_PARTIAL

end Sys2Proof.Machine
end

