-- ==== Sys2Proof/Machine/ImageCmd.lean ====
section
/-! DEFINITION. The commands of the image unit (R23 to R25, R34, R40, R41). -/
namespace Sys2Proof.Machine
open Csr

/-- The access of the host DMA master port under the host DMA class (R25, R209). -/
def State.hostDmaAcc (s : State) (kind : Nat) : Acc :=
  { master := srcFabric, kind := kind, cls := s.rd BW_CLASSMAP_HOSTDMA_CLASS }

/-- The source address in IMAGE_SRC_LO and IMAGE_SRC_HI. -/
def State.imgSrc (s : State) : Nat := s.rd IMAGE_SRC_LO_ADDR * 64 + s.rd IMAGE_SRC_HI_ADDR * 2 ^ 32

/-- A load failed: the slot holds no image (R25). -/
def State.loadFail (s : State) (off : Nat) : State :=
  ((s.slotClear).put IMAGE_STATUS_STATE slotFailed).imgErr (ImgErr.mk errLoadFault 0 off) false

/-- Is a LOAD of n bytes from src impossible (R25): its length, the system region, the end of the cube's space? -/
def loadBad (src n : Nat) : Bool :=
  n = 0 || n % 8 ≠ 0 || 262144 < n || 2 ^ 36 < src + n ||
    (upFrom 0 (ceilDiv n 64)).any fun i => inSysRegion (offOf (src + 64 * i))

/-- IMAGE_CMD.OP = LOAD (R23, R25). -/
def State.imgLoad (s : State) : State :=
  if ! [slotEmpty, slotLoaded, slotValid, slotFailed].contains s.slotState then s.imgRefuse errBusy
  else
    let src := s.imgSrc
    let n := s.rd IMAGE_LEN_LEN
    let s := s.put IMAGE_ERR_CODE 0
    let s := (s.slotClear).updImg fun u => { u with src := src, len := n }
    if loadBad src n then s.loadFail 0 else s.put IMAGE_STATUS_STATE slotLoading

/-- LOAD (R25). -/
def execImageLoad (s : State) : Outcome := .next s.imgLoad

/-- IMAGE_COPY_COMPLETE (R23, R25): the copy ends, whole or at the granule that failed. -/
def execImageCopyComplete (s : State) : Outcome :=
  .next (
    let src := s.img.src
    let n := s.img.len
    if s.slotState ≠ slotLoading || s.paused || ! s.modes.memReady then s
    else if s.memHeld (s.hostDmaAcc 1) src n then s.portWait (s.hostDmaAcc 1) src n
    else match s.readMem (s.hostDmaAcc 1) src n with
      | (s, bs, none) =>
        ((s.updImg fun u => { u with slot := bs }).put IMAGE_STATUS_STATE slotLoaded).putb IMAGE_STATUS_ADMIT_COLD
          (fieldAt bs 0x24 1 = 1)
      | (s, _, some e) => s.loadFail (e.addr - src))

/-- IMAGE_CMD.OP = VALIDATE (R23, R24, R25, R35). -/
def State.imgValidate (s : State) : State :=
  if ! [slotLoaded, slotValid, slotFailed].contains s.slotState then s.imgRefuse s.slotRefusal
  else
    let s := ((s.put IMAGE_ERR_CODE 0).put IMAGE_ADMIT_CHANNEL 0).put IMAGE_ADMIT_HEADROOM 0
    if s.img.slot.isEmpty then (s.put IMAGE_STATUS_STATE slotFailed).imgRefuse errNoImage
    else ((s.updImg fun u => { u with parsed := none }).off IMAGE_STATUS_SIGNED).put IMAGE_STATUS_STATE slotValidating

/-- VALIDATE (R34). -/
def execImageValidate (s : State) : Outcome := .next s.imgValidate

/-- What the fuses say of signatures (R33). -/
def State.sigCtx (s : State) : SigCtx where
  required := s.flag FUSE_LIMITS_SIGN_REQUIRED
  keyDigest := fun k => if s.keyUsable k 1 then some (s.keyDigest k) else none

/-- The three stages of validation (R34 to R36): the state with IMAGE_ADMIT, the image, the first violation. The scope of
the apply is not known yet: checks 6 and 7 of R38 are made as for a device-wide apply (DESIGN CHOICE, log 133). -/
def State.validated (s : State) : State × Img × Option ImgErr :=
  let bs := s.img.slot
  match structureStage bs s.img.len (s.rd VT_TICK_PS_TICK_PS) s.sigCtx s.gateBad with
  | (i, some e) => (s, i, some e)
  | (i, none) => match s.stage2 bs i 0 with
    | (s, some e) => (s, i, some e)
    | (s, none) => (s, i, (s.deadRec bs (frame bs).1).map fun o => ImgErr.mk errNotAlive 3 o)

/-- Has the signature of a signed image been verified when validation ends with an error or none? -/
def sigPassed (bs : List Byte) (k : SigCtx) (tickPs len : Nat) : Bool :=
  (headerErr bs len tickPs).isNone && (frame bs).2.isNone && fieldAt bs 0x10 1 = 1 && (sigErr bs k).isNone

/-- VALIDATION_COMPLETE (R23, R34): all stages passed, or the first that failed. -/
def execValidationComplete (s : State) : Outcome :=
  .next (if s.slotState ≠ slotValidating || s.paused then s
    else
      let s := s.putb IMAGE_STATUS_SIGNED (sigPassed s.img.slot s.sigCtx (s.rd VT_TICK_PS_TICK_PS) s.img.len)
      match s.validated with
      | (s, _, some e) => (s.put IMAGE_STATUS_STATE slotFailed).imgErr e false
      | (s, i, none) => (s.updImg fun u => { u with parsed := some i }).put IMAGE_STATUS_STATE slotValid)

/-- IMAGE_CMD.OP = APPLY with PARTS (R23, R24, R37, R40). -/
def State.imgApply (s : State) (parts : Nat) : State :=
  if s.slotState ≠ slotValid then s.imgRefuse s.slotRefusal
  else match s.img.parsed with
    | none => s.imgRefuse errNotValid
    | some i =>
      let s := ((s.put IMAGE_ERR_CODE 0).put IMAGE_ADMIT_CHANNEL 0).put IMAGE_ADMIT_HEADROOM 0
      match s.partialErr s.img.slot i parts with
      | some e => s.imgErr e false
      | none => s.arm (s.rd IMAGE_EPOCH_LO_VT + s.rd IMAGE_EPOCH_HI_VT * 2 ^ 32) parts 0

/-- APPLY (R40). -/
def execImageApply (parts : BitVec 16) (s : State) : Outcome := .next (s.imgApply parts.toNat)

/-- IMAGE_CMD.OP = DISCARD (R23): an APPLY_IMAGE entry that armed the slot empties with it. -/
def State.imgDiscard (s : State) : State :=
  if s.slotState = slotLoading || s.slotState = slotValidating then s.imgRefuse errBusy
  else
    let s := if s.slotState = slotArmed && s.img.armedBy ≠ 0 then
        let n := s.img.armedBy - 1
        let same := s.calPend n = s.calEff n
        let s := s.calSetEff n CalEnt.none
        if same then s.calSetPend n CalEnt.none else s
      else s
    s.slotClear

/-- DISCARD (R23). -/
def execImageDiscard (s : State) : Outcome := .next s.imgDiscard

/-- IMAGE_BAD_CMD (R24): any other OP. -/
def execImageBadCmd (s : State) : Outcome := .next (s.imgRefuse errBadCmd)

/-- APPLY_EPOCH (R41): the first frame boundary at or past the epoch of an apply that the host armed, after the fault reaction
of the FCLK cycle (R19). -/
def execApplyEpoch (s : State) : Outcome :=
  .next (if s.slotState = slotArmed && s.img.armedBy = 0 && ! s.paused && s.devMode ≠ modeDeep && s.reacted &&
      s.reached s.img.epoch then s.applyWhen id else s)

/-- IMAGE_CMD is written. -/
def State.imgCmd (s : State) (op parts : Nat) : State :=
  if op = 1 then s.imgLoad
  else if op = 2 then s.imgValidate
  else if op = 3 then s.imgApply parts
  else if op = 4 then s.imgDiscard
  else s.imgRefuse errBadCmd

end Sys2Proof.Machine
end

