-- ==== Sys2Proof/Machine/VtCmd.lean ====
section
/-! DEFINITION. Vector Time (R50 to R55): the tick period, TSYNC edges, VTSET. -/
namespace Sys2Proof.Machine
open Csr

/-- States of VT besides FREE (R51). -/
def vtLocked : Nat := 1
def vtHoldover : Nat := 2

/-- Change the VT unit. -/
def State.updVt (s : State) (f : VtUnit → VtUnit) : State := { s with vt := f s.vt }

/-- VT enters a state (R51, R288). -/
def State.vtState (s : State) (st : Nat) : State := s.put VT_STATUS_STATE st

/-- A write of VT_TICK_PS (R50). -/
def State.tickWrite (s : State) (v : Nat) : State :=
  if s.partsList.isEmpty && inRange v 250 16001 then
    (s.put VT_TICK_PS_TICK_PS v).vtFreeRun
  else s.on VT_STATUS_TICK_REFUSED

/-- VT_TICK_PS_WRITE (R50). -/
def execVtTickPsWrite (v : BitVec 14) (s : State) : Outcome := .next (s.tickWrite v.toNat)

/-- VT values that a VTSET load moves past: entries compared with VT that become due (PAST). -/
def State.vtPassed (s : State) (old : Nat) : State :=
  s.each s.calLive fun s x => if x.2.onVt && s.reached x.2.vt && ! vtGe old x.2.vt then s.inc VT_CAL_STAT_PAST else s

/-- An armed VTSET loads at the edge (R55). Capture windows keep the state they have, and samples handled at times that now
lie ahead count for no edge any more (R59, R66). -/
def State.vtLoad (s : State) (v : Nat) : State :=
  let old := s.vt.vt
  let s := s.updVt fun u => { u with vt := v, frac := 0, owed := 0, edge := vtAdd v 65536, cyc := 0, armed := none }
  let s := (s.capSettle fun _ => true).updImg fun u => { u with lastSample := u.lastSample.filter fun x => vtGe v x.2 }
  (((s.off VT_STATUS_VTSET_ARMED).vtState vtLocked).vtEvent).vtPassed old

/-- The trimmed VT_RATE after n FCLK between edges (R52); it keeps its value where no FCLK has passed. -/
def trimRate (old n : Nat) : Nat := if n = 0 then old else (2 * 65536 * 2 ^ 24 + n) / (2 * n)

/-- The error e = VT - E of an edge (R53). -/
def State.edgeErr (s : State) : Int := sextInt 48 (vtDiff s.vt.vt s.vt.edge)

/-- An edge in lock (R52, R53): VT corrected to E, VT_RATE trimmed. -/
def State.edgeGood (s : State) (e : Int) : State :=
  let s := s.put VT_RATE_RATE (trimRate (s.rd VT_RATE_RATE) s.vt.cyc)
  let s := s.updVt fun u => if e < 0 then { u with vt := u.edge, frac := 0 } else { u with owed := u.owed + e.toNat * 2 ^ 24 }
  s.updVt fun u => { u with edge := vtAdd u.edge 65536, cyc := 0 }

/-- VT loses lock (R54): HOLDOVER, its flag and count, the event and the message. -/
def State.vtLost (s : State) (flag count : Fld) (kind detail : Nat) : State :=
  ((((s.vtState vtHoldover).on flag).inc count).vtEvent).raiseKD srcVt kind 0 detail

/-- Does a TSYNC pulse count as one edge with the one before it: less than 50 ns, 42.5 FCLK, after it (R421; DEDUCED,
log 202: each pulse is held against the pulse before it)? -/
def State.sameEdge (s : State) : Bool := s.vt.pulse.any fun t => s.clk.fclk < t + 43

/-- TSYNC_EDGE (R53 to R55, R421): an edge loads an armed VTSET, or in LOCKED is checked; otherwise it is ignored, as it is
while VT stands still (R56). -/
def execTsyncEdge (s : State) : Outcome :=
  .next (if s.paused then s
    else if s.sameEdge then s.updVt fun u => { u with pulse := some s.clk.fclk }
    else
    let s := s.updVt fun u => { u with pulse := some s.clk.fclk }
    match s.vt.armed with
      | some v => s.vtLoad v
      | none =>
        if s.rd VT_STATUS_STATE ≠ vtLocked then s
        else
          let e := s.edgeErr
          let s := s.puti VT_EDGE_LAST_ERR (max (-32767) (min 32767 e))
          if e.natAbs ≤ 8 then s.edgeGood e
          else s.vtLost VT_STATUS_VT_SLIP VT_EDGE_SLIPS 0x50 (s.rd VT_EDGE_LAST_ERR))

/-- TSYNC_MISSING (R54): VT has reached E + 64 without an edge. -/
def execTsyncMissing (s : State) : Outcome :=
  .next (if s.paused || s.rd VT_STATUS_STATE ≠ vtLocked || ! s.reached (vtAdd s.vt.edge 64) then s
    else s.vtLost VT_STATUS_TSYNC_MISS VT_EDGE_MISSES 0x51 0)

/-- A group's commit is refused (R9): its COMMIT_ERR bit and the cause. -/
def State.vtRefuse (s : State) (group : Fld) (cause : Nat) : State := (s.on group).put VT_COMMIT_ERR_CAUSE cause

/-- The value in VT_SET_LO and VT_SET_HI. -/
def State.vtsetValue (s : State) : Nat := s.rd VT_SET_LO_VT + s.rd VT_SET_HI_VT * 2 ^ 32

/-- Why the commit check refuses that value (R55): 3 ALIGN, 2 RUNNING; ALIGN where both hold (DESIGN CHOICE, log 136: R55
gives no order). -/
def State.vtsetRefusal (s : State) : Option Nat :=
  if s.vtsetValue % 65536 ≠ 0 then some 3
  else if s.rd VT_STATUS_STATE ≠ vtFree && s.partsList.any (fun p => s.pmode p = modeRun) then some 2
  else none

/-- VT_COMMIT.VTSET (R55). -/
def State.vtsetCommit (s : State) : State :=
  let v := s.vtsetValue
  match s.vtsetRefusal with
  | some c => s.vtRefuse VT_COMMIT_ERR_VTSET c
  | none => ((s.commitAll [0x10018, 0x1001C]).updVt fun u => { u with armed := some v }).on VT_STATUS_VTSET_ARMED

/-- VTSET_COMMIT (R55). -/
def execVtsetCommit (s : State) : Outcome := .next s.vtsetCommit

end Sys2Proof.Machine
end

