-- ==== Sys2Proof/Machine/CalCmd.lean ====
section
/-! DEFINITION. The Calendar's commits and firings, holidays and no-refresh windows (R58 to R66). -/
namespace Sys2Proof.Machine
open Csr

/-! The Calendar commit (R61, R63) -/

/-- The later of two equal pending entries: duplicates (R63). -/
def calDupsOf (es : List (Nat × CalEnt)) : List Nat :=
  (es.filter fun x => es.any fun y => y.1 < x.1 && y.2 = x.2).map (·.1)

/-- The pending entries that are not empty. -/
def State.calPending (s : State) : List (Nat × CalEnt) :=
  ((upFrom 0 64).map fun n => (n, s.calPend n)).filter fun x => x.2.code ≠ 0

/-- Is the slot armed by entry n? -/
def State.calArmed (s : State) (n : Nat) : Bool := s.slotState = slotArmed && s.img.armedBy = n + 1

/-- Does APPLY_IMAGE entry n arm or re-arm the slot at this commit (R61)? -/
def State.calArms (s : State) (n : Nat) (e : CalEnt) : Bool := ! (s.calArmed n && e = s.calEff n)

/-- Does the commit change VT, PART or ARG of entry n, so that it re-arms a slot the entry has armed (R61)? -/
def State.calRearms (s : State) (n : Nat) (e : CalEnt) : Bool :=
  s.calArmed n && (e.vt ≠ (s.calEff n).vt || e.part ≠ (s.calEff n).part || e.arg ≠ (s.calEff n).arg)

/-- What refuses APPLY_IMAGE entry n at a commit, 0 if nothing (R61), with the error IMAGE_ERR takes. -/
def State.calApplyCheck (s : State) (n : Nat) (e : CalEnt) : Nat × Option ImgErr :=
  if ! s.calArms n e then (0, none)
  else if s.slotState = slotArmed && s.img.armedBy = 0 then (7, none)
  else if s.slotState = slotValid || s.calRearms n e then
    match s.img.parsed.bind fun i => s.partialErr s.img.slot i (e.arg % 2 ^ 16) with
    | some x => (8, some x)
    | none => (0, none)
  else (6, none)

/-- The first check of R61 that pending entry n fails, 0 if none; `es` are the pending entries without duplicates. An entry
that fails several reports BAD_VALUE, then WINDOW, then ALIGN, then a second APPLY_IMAGE, then what its slot refuses (DESIGN
CHOICE, log 42: R61 gives no order within an entry). -/
def State.calCheck (s : State) (es : List (Nat × CalEnt)) (n : Nat) (e : CalEnt) : Nat × Option ImgErr :=
  let parts := s.img.active.parts
  let bad := badWins (s.rd VT_TICK_PS_TICK_PS) (s.flag BW_STATUS_ADMIT_COLD) (norefWins (es.map (·.2)))
  if ! calArgOk parts e then (1, none)
  else if ! calEndOk e || (e.code = 6 && bad.contains (e.vt, e.arg)) then (4, none)
  else if ! calAlignOk parts e then (3, none)
  else if e.code = 1 then
    if es.any (fun x => x.1 < n && x.2.code = 1) then (1, none) else s.calApplyCheck n e
  else (0, none)

/-- The addresses of the Calendar group. -/
def calAddrs : List Nat := (upFrom 0 256).map fun n => 0x10100 + 4 * n

/-- A CAP edge of entry n that was committed after samples at or past its VT: it acts from the next sample (R59). Of several
such edges the one of later VT decides (CapEdge.over; DEDUCED, log 176). -/
def State.capLate (s : State) (n : Nat) : State :=
  let e := s.calEff n
  match s.img.lastSample.find? (fun x => x.1 = e.part) with
  | some x =>
    if (e.code = 7 || e.code = 8) && vtGe x.2 e.vt then
      (s.edgeLate n e (vtAdd x.2 1)).updVt fun u => { u with lateCaps := (n, vtAdd x.2 1) :: u.lateCaps }
    else s
  | none => s

/-- VT_COMMIT.CAL (R61, R63). -/
def State.calCommit (s : State) : State :=
  let all := s.calPending
  let dups := calDupsOf all
  let es := all.filter fun x => ! dups.contains x.1
  match es.find? (fun x => (s.calCheck es x.1 x.2).1 ≠ 0) with
  | some (n, e) =>
    let r := s.calCheck es n e
    let s := (s.vtRefuse VT_COMMIT_ERR_CAL r.1).put VT_COMMIT_ERR_ENTRY n
    match r.2 with
    | some x => s.imgErr x false
    | none => s
  | none =>
    let s := if s.slotState = slotArmed && s.img.armedBy ≠ 0 && ! es.any (fun x => x.2.code = 1) then s.disarm else s
    let s := match es.find? (fun x => x.2.code = 1) with
      | some (n, e) => if s.calArms n e then s.arm e.vt (e.arg % 2 ^ 16) (n + 1) else s
      | none => s
    let old := (upFrom 0 64).map s.calEff
    let s := s.each dups fun s n => (s.calSetPend n CalEnt.none).inc VT_CAL_STAT_DUP
    let s := s.commitAll calAddrs
    let new := (upFrom 0 64).filter fun n => (s.calEff n).code ≠ 0 && s.calEff n ≠ old.getD n CalEnt.none
    let kept := fun (n : Nat) => s.calEff n = old.getD n CalEnt.none
    let s := s.updVt fun u => { u with
      stopped := u.stopped.filter fun x => kept x.1
      lateCaps := u.lateCaps.filter fun x => kept x.1 }
    (s.calPast new).each new fun s n => s.capLate n

/-- CAL_COMMIT (R61). -/
def execCalCommit (s : State) : Outcome := .next s.calCommit

/-! The holiday commit (R64) -/

/-- VT_COMMIT.HOLIDAY (R64): causes 4 WINDOW, 1 BAD_VALUE, 5 CAL_FULL; WINDOW where the window is bad and the partition
undeclared (DESIGN CHOICE, log 177: R64 gives no order). -/
def State.holidayCommit (s : State) : State :=
  let v := s.rd VT_HOL_START_LO_VT + s.rd VT_HOL_START_HI_VT * 2 ^ 32
  let w := s.rd VT_HOL_END_LO_VT + s.rd VT_HOL_END_HI_VT * 2 ^ 32
  let p := s.rd VT_HOL_START_HI_PART
  let e := CalEnt.mk v 5 p w
  let done := fun (s : State) => s.commitAll [0x10024, 0x10028, 0x1002C, 0x10030]
  if ! vtGe w v then s.vtRefuse VT_COMMIT_ERR_HOLIDAY 4
  else if p ≠ 0xFF && ! s.declared p then s.vtRefuse VT_COMMIT_ERR_HOLIDAY 1
  else if v = w then done s
  else if s.calLive.any (fun x => x.2 = e) then (done s).inc VT_CAL_STAT_DUP
  else match (upFrom 0 64).find? s.calEmpty with
    | none => s.vtRefuse VT_COMMIT_ERR_HOLIDAY 5
    | some n => ((done s).calSet n e).calPast [n]

/-- HOLIDAY_COMMIT (R64). -/
def execHolidayCommit (s : State) : Outcome := .next s.holidayCommit

/-! Firing of entries compared with VT (R59, R60) -/

/-- Does entry x come before entry y among the entries due at one boundary (R59)? -/
def calBefore (x y : Nat × CalEnt) : Bool :=
  if x.2.vt ≠ y.2.vt then vtGe y.2.vt x.2.vt
  else if x.2.code ≠ y.2.code then decide (x.2.code < y.2.code)
  else decide (x.1 < y.1)

/-- Does the Calendar run: the data plane is not paused and the device not in DEEP (R56, R398)? -/
def State.calRuns (s : State) : Bool := ! s.paused && s.devMode ≠ modeDeep

/-- Is entry n, of action code c, the entry that fires next: compared with VT, due, first among the due ones (R59), and after
the fault collector's reaction of the FCLK cycle (R19)? -/
def State.calNext (s : State) (n c : Nat) : Bool :=
  s.calRuns && s.reacted && (s.calEff n).code = c && s.calDue.any (fun x => x.1 = n) &&
    s.calDue.all fun x => x.1 = n || calBefore (n, s.calEff n) x

/-- Fire entry n with an action that answers none where it cannot act (R60, R62). -/
def State.calRun (s : State) (n c : Nat) (act : State → CalEnt → Option State) : State :=
  if ! s.calNext n c then s
  else
    let e := s.calEff n
    if e.part ≠ 0xFF && ! s.declared e.part then s.calVoid n
    else match act s e with
      | some s' => s'.calFire n
      | none => s.calVoid n

/-- APPLY_IMAGE (R40, R41, R60): the entry fires, whether the apply it armed succeeds or not. -/
def execApplyImage (n : Fin 64) (s : State) : Outcome :=
  .next (if ! s.calNext n 1 then s
    else if s.slotState = slotArmed && s.img.armedBy = n + 1 then s.applyWhen fun s => s.calFire n
    else s.calVoid n)

/-- CAL_MODE (R62, R392): every partition of the scope whose transition is allowed changes. -/
def execCalMode (n : Fin 64) (s : State) : Outcome :=
  .next (s.calRun n 2 fun s e =>
    let m := e.arg % 8
    let ps := (if e.part = 0xFF then s.partsList else [e.part]).filter fun p => modeAllowed (s.pmode p) m
    if ps.isEmpty then none else some (s.each ps fun s p => s.setPmode p m))

/-- Open a window for a scope, or replace the end of the one that is open. -/
def openWin (ws : List Window) (scope stop : Nat) : List Window := ws.filter (fun w => w.scope ≠ scope) ++ [Window.mk scope stop]

/-- HOLIDAY_BEGIN (R62, R64). -/
def execHolidayBegin (n : Fin 64) (s : State) : Outcome :=
  .next (s.calRun n 5 fun s e =>
    if s.reached (e.arg % 2 ^ 48) then none
    else some (s.updVt fun u => { u with holidays := openWin u.holidays e.part (e.arg % 2 ^ 48) }))

/-- HOLIDAY_END (R64): void where no holiday of the scope is open. -/
def execHolidayEnd (n : Fin 64) (s : State) : Outcome :=
  .next (s.calRun n 3 fun s e =>
    if s.vt.holidays.any (fun w => w.scope = e.part) then
      some (s.updVt fun u => { u with holidays := u.holidays.filter fun w => w.scope ≠ e.part }).closeSlices
    else none)

/-- HOLIDAY_EXPIRY (R64): every holiday whose end VT has reached closes. -/
def execHolidayExpiry (s : State) : Outcome :=
  .next (if s.vt.holidays.any (fun w => s.reached w.stop) then
      (s.updVt fun u => { u with holidays := u.holidays.filter fun w => ! s.reached w.stop }).closeSlices
    else s)

/-- NOREF_OPEN (R62, R65). With a window of the same scope open it replaces that window's end, as R64 says of holidays
(DESIGN CHOICE, log 136: the spec does not say). -/
def execNorefOpen (n : Fin 64) (s : State) : Outcome :=
  .next (s.calRun n 6 fun s e =>
    if s.reached (e.arg % 2 ^ 48) then none
    else some (s.updVt fun u => { u with norefs := openWin u.norefs e.part (e.arg % 2 ^ 48) }))

/-- NOREF_CLOSE (R65): void where no window of the scope is open. -/
def execNorefClose (n : Fin 64) (s : State) : Outcome :=
  .next (s.calRun n 4 fun s e =>
    if s.vt.norefs.any (fun w => w.scope = e.part) then
      some (s.updVt fun u => { u with norefs := u.norefs.filter fun w => w.scope ≠ e.part })
    else none)

/-- NOREF_WINDOW_EXPIRY (R65): every no-refresh window whose VT_close VT has reached closes. -/
def execNorefWindowExpiry (s : State) : Outcome :=
  .next (s.updVt fun u => { u with norefs := u.norefs.filter fun w => ! s.reached w.stop })

/-- TASK_START (R57, R62, R373, R395). -/
def execTaskStart (n : Fin 64) (s : State) : Outcome :=
  .next (s.calRun n 9 fun s e =>
    if s.pmode e.part ≠ modeRun || s.halted e.part || ! s.startable e.part then none
    else
      let o := e.arg % 2 ^ 48
      some (s.startPart e.part (if o = 0 then s.autoOrigin e.part else o)))

/-! Entries that act at cycle precision (R59) -/

/-- Is CAP entry n the earliest of its kind for its partition (R59)? -/
def State.capFirst (s : State) (n : Nat) (e : CalEnt) : Bool :=
  s.calLive.all fun x => x.2.code ≠ e.code || x.2.part ≠ e.part || x.1 = n ||
    (if x.2.vt = e.vt then decide (n < x.1) else vtGe x.2.vt e.vt)

/-- A CAP_OPEN or CAP_CLOSE entry fires, the earliest of its kind first: it came late, a sample at or past its VT has been
handled, or no earlier one can come any more (R59, R161). -/
def State.capEdge (s : State) (n c : Nat) : State :=
  let e := s.calEff n
  let late := s.vt.lateCaps.any fun x => x.1 = n
  let seen := match s.img.lastSample.find? (fun x => x.1 = e.part) with | some x => vtGe x.2 e.vt | none => false
  if e.code ≠ c || ! s.calRuns then s
  else if ! s.declared e.part then if s.reached e.vt then s.calVoid n else s
  else if ! s.capFirst n e || (! late && ! seen && ! s.reached (vtAdd e.vt (s.rttMax e.part))) then s
  else (s.calFire n).capEdgeAt (s.capEdgeOf n e)

/-- CAP_OPEN (R59, R66). -/
def execCapOpen (n : Fin 64) (s : State) : Outcome := .next (s.capEdge n 7)

/-- CAP_CLOSE (R59, R66, R177). -/
def execCapClose (n : Fin 64) (s : State) : Outcome := .next (s.capEdge n 8)

/-- TASK_STOP (R59, R62, R79): the entry fires once every running lane-bound engine's stream time has reached its VT; a
start that waits is cancelled. With no engine running and none stopped by it, it is void at its VT. -/
def execTaskStop (n : Fin 64) (s : State) : Outcome :=
  .next (
    let e := s.calEff n
    let run := (s.laneEngs e.part).filter fun g => s.engState g = 3
    let cut := s.vt.stopped.find? fun x => x.1 = n.val
    if e.code ≠ 0x0A || ! s.calRuns || (s.firstStop e.part).map (·.1) ≠ some n.val then s
    else if run.isEmpty && cut.isNone then
      let waits := (s.laneEngs e.part).filter fun g => s.engState g = 1 && (s.eng g).startWait.isSome
      if ! s.reached e.vt then s
      else if waits.isEmpty then s.calVoid n
      else (s.each waits fun s g => s.stopEng g 1).calFire n
    else if ! run.all (fun g => vtGe (s.eng g).stime e.vt) then s
    else
      let late := run.find? fun g => s.stopLate g e.vt
      let s := match late, cut with
        | some g, some (_, false) => s.edgeLate n e (s.eng g).stime
        | some g, none => s.edgeLate n e (s.eng g).stime
        | _, _ => s
      (s.each (s.laneEngs e.part) fun s g => s.stopFrom g e.vt).calFire n)

end Sys2Proof.Machine
end

