-- ==== Sys2Proof/Machine/Modes.lean ====
section
/-! DEFINITION. Deep-Sleep (R397 to R399), resets and power (R404 to R407, R416), start-up (R402). -/
namespace Sys2Proof.Machine
open Csr

/-- Change the mode unit. -/
def State.updModes (s : State) (f : ModeUnit → ModeUnit) : State := { s with modes := f s.modes }

/-! Deep-Sleep -/

/-- Does some block of classes 0 to 6 keep its clocks in DEEP (R334)? -/
def State.deepKeeps (s : State) : Bool := gateBlocks.any fun n => n / 128 < 7 && s.erd (CLKPWR_GATE_DEEP_EN n) = 1

/-- Does the host link keep running in DEEP (R334, R398): every lane it uses keeps its clocks? -/
def State.deepLink (s : State) : Bool :=
  ((upFrom 0 9).filter fun n => s.hLogTx n ≠ 0xFF || s.hLogRx n ≠ 0xFF).all fun n =>
    s.erd (CLKPWR_GATE_DEEP_EN (4 * 128 + n)) = 1

/-- Does VLANE stay up in DEEP: does some block of class 3 or 4 keep its clocks (R334)? -/
def State.deepVlane (s : State) : Bool :=
  gateBlocks.any fun n => (n / 128 = 3 || n / 128 = 4) && s.erd (CLKPWR_GATE_DEEP_EN n) = 1

/-- Enter DEEP (R398). -/
def State.deepNow (s : State) : State :=
  let s := s.vtEvent
  let s := s.pauseLink (fun p => { p with deep := true }) s.deepLink
  let s := s.selfRefresh
  let s := if s.deepKeeps then
      if s.rd CLKPWR_STATUS_PRIMARY = 0 then s.off CLKPWR_STATUS_PLL1_LOCK else s.off CLKPWR_STATUS_PLL0_LOCK
    else (((s.off CLKPWR_STATUS_PLL0_LOCK).off CLKPWR_STATUS_PLL1_LOCK).on CLKPWR_STATUS_ALM_ROSC).on CLKPWR_STATUS_HKCK_ROSC
  let s := (s.off CLKPWR_STATUS_STANDBY_OK).put GLOBAL_MODE_MODE modeDeep
  let s := s.updClk fun c => { c with vlaneOff := ! s.deepVlane }
  (s.updModes fun m => { m with exiting := false, retrains := none }).gateRefresh

/-- DEEP_ENTER (R394, R397). -/
def State.deepEnter (s : State) : State :=
  if s.deepCheck ≠ 0 then s.modeRefuse s.deepCheck else (s.deepNow).on GLOBAL_MODE_STAT_MODE_CHANGED

/-- DEEP_ENTER (R398). -/
def execDeepEnter (s : State) : Outcome := .next s.deepEnter

/-- DEEP_EXIT (R394, R399): the exit begins, VLANE ramps into its window. -/
def State.deepExit (s : State) : State :=
  if s.devMode ≠ modeDeep then s.modeRefuse causeNotReady
  else (s.updModes fun m => { m with exiting := true }).updClk fun c => { c with vlaneOff := false }

/-- DEEP_EXIT (R399). -/
def execDeepExit (s : State) : Outcome := .next s.deepExit

/-- The first three steps of the exit are over (R399): the layers leave self-refresh, VT resumes in FREE, and the training of
lanes and host link begins. -/
def State.deepTrain (s : State) : State :=
  let s := (s.off CLKPWR_STATUS_ALM_ROSC).off CLKPWR_STATUS_HKCK_ROSC
  let s := s.updModes fun m => { m with retrains := some s.now }
  let s := if s.pauses.rail then s else s.leaveSelfRefresh
  let s := s.each ((upFrom 0 34).filter fun c => s.mcState c ≠ 4 && ! s.flag (MC_STATE_SELFREF c)) fun s c => s.setDue c
  s.resumeFrom fun p => { p with deep := false }

/-- Is the training of lanes and host link over (R399): every pair that trains has come to its end and the link is UP, or
1.5 ms have passed since t? -/
def State.deepTrained (s : State) (t : Nat) : Bool :=
  t + 1500 ≤ s.now || (s.linkUp && (upFrom 0 100).all fun k =>
    ! inRange (s.txState k) lsDetect lsActive || s.flag (VLANE_STATE_ABSENT k) || (s.lane k).gatedIdle)

/-- DEEP_EXIT_COMPLETE (R399): with a PLL locked, HCK there and no trip that holds the exit (R398) the training begins; once
it is over the device is READY. -/
def execDeepExitComplete (s : State) : Outcome :=
  .next (if s.devMode ≠ modeDeep || ! s.modes.exiting || s.clocks.vlaneOff then s
    else match s.modes.retrains with
      | none =>
        if s.pauses.trip || s.flag CLKPWR_STATUS_HCK_LOST ||
            ! (s.flag CLKPWR_STATUS_PLL0_LOCK || s.flag CLKPWR_STATUS_PLL1_LOCK) then s
        else s.deepTrain
      | some t =>
        if s.paused || ! s.deepTrained t then s
        else
          let s := (s.put GLOBAL_MODE_MODE modeReady).updModes fun m => { m with exiting := false, retrains := none }
          (s.on GLOBAL_MODE_STAT_DEEP_EXITED).on GLOBAL_MODE_STAT_MODE_CHANGED)

/-! Resets -/

/-- Registers that the system-region metadata restores before training: the shifts (R249). -/
def shiftAddrs : List Nat := (upFrom 0 34).flatMap fun c => [0x400220 + 0x1000 * c, 0x400224 + 0x1000 * c]

/-- Registers that it restores once the memory is trained: the remap entries (R236). -/
def remapKept : List Nat := (upFrom 0 34).flatMap remapAddrs

/-- What a reset with PWROK high leaves for BOOT to restore (R404): what was in force, or what the last reset left where
start-up has not come to restore it. The capture unit whose group unit 8 serves stands before the others. -/
def State.keptNow (s : State) : Kept :=
  let k := s.modes.kept
  let add := fun (l m : List Nat) => l ++ m.filter fun x => ! l.contains x
  let live := decide (5 ≤ s.rd GLOBAL_BOOT_STEP)
  { regs := (if live then (shiftAddrs.filter fun a => s.reg a ≠ csrReset a).map fun a => (a, s.reg a)
        else k.regs.filter fun x => 0x200 ≤ x.1 % 0x1000) ++
      (if s.modes.memReady then (remapKept.filter fun a => s.effReg a ≠ csrReset a).map fun a => (a, s.effReg a)
        else k.regs.filter fun x => x.1 % 0x1000 < 0x200)
    subst := if live then (if s.rd MC_LAYER_STAT_SUBST_FROM = 0x1F then none else some (s.rd MC_LAYER_STAT_SUBST_FROM))
      else k.subst
    map := if live then (upFrom 0 32).map s.physOf else k.map
    spareBad := if live then s.flag MC_LAYER_STAT_SPARE_BAD else k.spareBad
    chans := if live then (upFrom 0 34).filter fun c => s.mcState c = 4 else k.chans
    engines := add k.engines ((upFrom 0 72).filter fun e => s.engState e = 6)
    caps := add (add k.caps ((upFrom 0 9).filter fun u => u = s.groupOf 8))
      ((upFrom 0 9).filter fun u => s.rd (FAULT_UNIT_STATE (srcCap u)) = 2)
    lanesTx := add k.lanesTx ((upFrom 0 100).filter fun n => s.txState n = lsOff)
    lanesRx := add k.lanesRx ((upFrom 0 100).filter fun n => s.rxState n = lsOff)
    hostTx := add k.hostTx ((upFrom 0 9).filter fun n => s.hTx n = lsOff)
    hostRx := add k.hostRx ((upFrom 0 9).filter fun n => s.hRx n = lsOff) }

/-- Every write buffer and correction queue drains before the layers go into self-refresh. -/
def State.drainAll (s : State) : State :=
  s.each ((upFrom 0 34).filter fun c => s.mcState c ≠ 4 && ! (s.mc c).dead) fun s c => s.drainTo c 0 64

/-- What a channel controller keeps over a reset with PWROK high: stored granules of its slots, spare rows. -/
def Mc.kept (m : Mc) : Mc :=
  { slots := m.slots, repaired := m.repaired, badRows := m.badRows, badSlots := m.badSlots, deadDq := m.deadDq }

/-- A reset with PWROK high (R404): every register at its reset value but those of the regulator and clock system and,
with FUSE_OVR.HOLD, the shadows (R317). -/
def State.warmReset (s : State) (cause : Fld) : State :=
  let s := s.drainAll.fuseInterrupt
  let hold := s.flag FUSE_OVR_HOLD
  let t : State := { State.reset with
    pending := s.pending, free := s.free, pins := s.pins, csr := []
    dram := s.dram, masks := s.masks, filled := s.filled
    mcs := s.mcs.map Mc.kept
    fuses := { s.fuses with cmd := none, held := hold }
    modes := { kept := s.keptNow, coldDram := s.modes.coldDram }
    tap := s.tap }
  let t := (t.on cause).on GLOBAL_RESET_CAUSE_WARM
  let t := t.selfRefresh
  let t := t.each (upFrom 0 28) fun t p =>
    (t.put (CLKPWR_PHASE_STATE p) (s.rd (CLKPWR_PHASE_STATE p))).put (CLKPWR_PHASE_RAIL p) (s.rd (CLKPWR_PHASE_RAIL p))
  let t := (t.each (upFrom 0 5) fun t r => t.put (CLKPWR_RAIL_PHASES r) (s.rd (CLKPWR_RAIL_PHASES r))).railsDegraded
  let t := (t.put CLKPWR_STATUS_PLL0_RETIRED (s.rd CLKPWR_STATUS_PLL0_RETIRED)).put CLKPWR_STATUS_PLL1_RETIRED
    (s.rd CLKPWR_STATUS_PLL1_RETIRED)
  let t := t.put CLKPWR_STATUS_PRIMARY (s.rd CLKPWR_STATUS_PLL0_RETIRED)
  if hold then
    -- sensing is skipped: shadows, array views and marginal flags stay
    let t := t.each (upFrom 0 128) fun t w => [0x700100, 0x700300, 0x700500].foldl (fun t b =>
      t.setReg (b + 4 * w) (s.reg (b + 4 * w))) t
    let t := t.each (upFrom 0 4) fun t n => t.put (FUSE_MARGINAL_WORDS n) (s.rd (FUSE_MARGINAL_WORDS n))
    let t := (t.put FUSE_STATUS_MARGINAL (s.rd FUSE_STATUS_MARGINAL)).put FUSE_STATUS_LOCK_MARGINAL
      (s.rd FUSE_STATUS_LOCK_MARGINAL)
    (t.put FUSE_LOCKS_READ (s.rd FUSE_LOCKS_READ)).on FUSE_OVR_HOLD
  else t

/-- A fall of PWROK (R407): everything is lost but what is blown, the layers' own repair fuses among it (R238). -/
def State.coldReset (s : State) : State :=
  let s := s.fuseInterrupt
  { State.reset with
    pending := s.pending, free := s.free, pins := { s.pins with pwrok := false }
    mcs := s.mcs.map fun m => { repaired := m.repaired }
    fuses := { s.fuses with cmd := none, held := false } }

/-- PWROK_FALL (R407). -/
def execPwrokFall (s : State) : Outcome := .next (if s.pins.pwrok then s.coldReset else s)

/-- VIN_EXCURSION (R416). -/
def execVinExcursion (s : State) : Outcome := .next (if s.pins.pwrok then s.coldReset else s)

/-- VAUX_UNDERVOLTAGE (R338). -/
def execVauxUndervoltage (s : State) : Outcome := .next (if s.pins.pwrok then s.coldReset else s)

/-- PWROK_RISE (R402): with VIN in range; with RESET_N high it counts as its deassertion. -/
def execPwrokRise (vinOk : Bool) (straps : BitVec 3) (s : State) : Outcome :=
  .next (if s.pins.pwrok || ! vinOk then s
    else
      let s : State := { s with clk := {} }
      let s : State := { s with pins := { s.pins with
        pwrok := true, straps := if s.pins.resetN then straps.toNat else s.pins.straps } }
      s.put HLINK_STATUS_CUBE_ID s.pins.straps)

/-- RESET_N_ASSERT (R404, R418): RESET_N goes low, for ns nanoseconds at least. Between 0.5 µs and 1 µs either may
follow. -/
def execResetNAssert (ns : Nat) (s : State) : Outcome :=
  .next (
    let down := fun (s : State) =>
      let s := if s.pins.pwrok then s.warmReset GLOBAL_RESET_CAUSE_PIN else s
      { s with pins := { s.pins with resetN := false } }
    if ! s.pins.resetN || ns ≤ 500 then s
    else if 1000 ≤ ns then down s
    else
      let r := s.drawBit
      if r.1 then down r.2 else r.2)

/-- RESET_N_DEASSERT (R290, R402, R404): the straps latch, and uptime begins. -/
def execResetNDeassert (straps : BitVec 3) (s : State) : Outcome :=
  .next (if s.pins.resetN then s
    else
      let s : State := { s with clk := {}, pins := { s.pins with resetN := true, straps := straps.toNat } }
      s.put HLINK_STATUS_CUBE_ID s.pins.straps)

/-- The check of RESET (R394); the reset comes once the command's write has completed (R406). -/
def State.resetCmd (s : State) (key : Nat) : State :=
  if s.devMode ≠ modeReady then s.modeRefuse causeNotReady
  else if key ≠ 0x5E then s.modeRefuse causeKey
  else s.updModes fun m => { m with resetDue := some true }

/-- A write has completed: a reset that it asked for comes (R406). -/
def State.resetNow (s : State) : State :=
  if s.modes.resetDue = some true then s.warmReset GLOBAL_RESET_CAUSE_HOST else s

/-- The state t after a write that found s: a reset that it asked for comes now, one that an earlier write asked for goes on
waiting for its RESPONSE. -/
def State.writeDone (s t : State) : State := if s.modes.resetDue = some true then t else t.resetNow

/-- The host's write that asked for a reset has completed once its RESPONSE has gone out, or no link is there to carry it (DEDUCED,
log 106). -/
def State.resetServe (s : State) : State :=
  if s.hl.rsp.isEmpty || s.rd HLINK_STATUS_STATE ≠ 2 then s.resetNow else s

/-- RESET (R406). -/
def execModeReset (key : BitVec 8) (s : State) : Outcome := .next (s.writeDone (s.resetCmd key.toNat))

/-- GLOBAL_MODE_CMD is written (R394). -/
def State.modeCmd (s : State) (op mode parts key : Nat) : State :=
  if op = 1 then s.modeWrite (.setMode mode parts)
  else if op = 2 then s.modeWrite (.start parts s.startOrigin)
  else if op = 3 then s.deepEnter
  else if op = 4 then s.deepExit
  else if op = 5 then s.resetCmd key
  else s.modeRefuse causeBadCmd

/-! Start-up (R402) -/

/-- Is the cube in step n of start-up in HOLD, with power and out of reset? -/
def State.holdStep (s : State) (n : Nat) : Bool :=
  s.devMode = modeHold && s.rd GLOBAL_BOOT_STEP = n && s.pins.pwrok && s.pins.resetN

/-- RAIL_RAMP_COMPLETE (R336, R402): the rails are in their windows. -/
def execRailRampComplete (s : State) : Outcome :=
  .next (if s.holdStep 1 && ! s.pauses.rail then s.put GLOBAL_BOOT_STEP 2 else s)

/-- The lane substitutions that the fuses record (R130, R300): vector lanes, then the host link. -/
def State.fusedLanes (s : State) : State :=
  let tx := (s.shadow 84).toNat
  let rx := (s.shadow 85).toNat
  let h := (s.shadow 86).toNat
  let s := s.each (upFrom 0 4) fun s g =>
    let l := bits tx (8 * g) 7
    let s := if bit tx (8 * g + 7) && l / 24 = g then
        ((s.put (VLANE_STATE_LOG_TX (96 + g)) l).put (VLANE_STATE_LOG_TX l) 0xFF).put (VLANE_STATE_TX_STATE l) lsOff else s
    let l := bits rx (8 * g) 7
    if bit rx (8 * g + 7) && l / 24 = g then
      ((s.put (VLANE_STATE_LOG_RX (96 + g)) l).put (VLANE_STATE_LOG_RX l) 0xFF).put (VLANE_STATE_RX_STATE l) lsOff else s
  let s := if bit h 3 then
      ((s.put (HLINK_LANE_LOG_TX 8) (h % 8)).put (HLINK_LANE_LOG_TX (h % 8)) 0xFF).put (HLINK_LANE_TX_STATE (h % 8)) lsOff
    else s
  let s := if bit h 7 then
      ((s.put (HLINK_LANE_LOG_RX 8) (bits h 4 3)).put (HLINK_LANE_LOG_RX (bits h 4 3)) 0xFF).put
        (HLINK_LANE_RX_STATE (bits h 4 3)) lsOff
    else s
  s.hSpares

/-- The data plane leaves reset (R390, R402 step 3): BOOT, fused lane spares, training of lanes and host link; the layers
leave self-refresh. -/
def State.enterBoot (s : State) : State :=
  let s := ((s.put GLOBAL_MODE_MODE modeBoot).put GLOBAL_BOOT_STEP 3).fusedLanes
  ((s.leaveSelfRefresh).lanesBringUp).hBringUp

/-- PLL_LOCK (R399, R402): a root PLL locks at start-up, or in an exit from DEEP. The first to lock serves, the second is
the standby. -/
def execPllLock (i : Fin 2) (s : State) : Outcome :=
  .next (
    let boots := s.holdStep 2
    if s.flag (pllRetF i) || s.flag (pllLockF i) || ! (boots || s.modes.exiting || (s.devMode = modeBoot && ! s.pllTries i))
    then s
    else
      let other := s.flag (pllLockF (1 - i))
      let s := (s.on (pllLockF i)).pllTry i false
      if other then s.on CLKPWR_STATUS_STANDBY_OK
      else
        let s := s.put CLKPWR_STATUS_PRIMARY i
        if ! boots || s.pauses.rail then s
        else (if s.flag CLKPWR_STATUS_HCK_LOST then s.hckBack else s).enterBoot)

/-- PLL_LOCK_TIMEOUT (R399, R402): none has locked within 1 ms. -/
def execPllLockTimeout (s : State) : Outcome :=
  .next (if (s.holdStep 2 || s.modes.exiting) && ! s.flag CLKPWR_STATUS_PLL0_LOCK && ! s.flag CLKPWR_STATUS_PLL1_LOCK then
      s.hckLost
    else s)

/-- Restore the remap entries from the metadata (R236). -/
def State.restoreRemap (s : State) : State :=
  let s := s.each (s.modes.kept.regs.filter fun x => x.1 % 0x1000 < 0x200) fun s x => s.setBoth x.1 x.2
  s.each (upFrom 0 34) fun s c => (s.remapUsed c).rowScan c

/-- Retirements and molts are reapplied: fused engines and capture unit (R300), and those of the field since power-up
(R404, R47). -/
def State.reapply (s : State) : State :=
  let k := s.modes.kept
  let fused := (upFrom 0 72).filter fun e => bit (s.shadow (80 + e / 32)).toNat (e % 32)
  let s := s.each (fused ++ k.engines) fun s e => s.unitRetire (srcEng e) none
  let c := (s.shadow 83).toNat
  let s := s.each ((if bit c 4 then [c % 16] else []) ++ k.caps) fun s u => s.unitRetire (srcCap u) none
  -- a direction that carries nothing is a spare: out of service before any other lane asks for it
  let s := s.each (k.lanesTx.filter fun n => s.logTx n = 0xFF) fun s n => s.laneOff (VLANE_STATE_TX_STATE n)
  let s := s.each (k.lanesRx.filter fun n => s.logRx n = 0xFF) fun s n => s.laneOff (VLANE_STATE_RX_STATE n)
  let s := s.each (k.hostTx.filter fun n => s.hLogTx n = 0xFF) fun s n => s.laneOff (HLINK_LANE_TX_STATE n)
  let s := s.each (k.hostRx.filter fun n => s.hLogRx n = 0xFF) fun s n => s.laneOff (HLINK_LANE_RX_STATE n)
  -- a lane that still trains molts when it has trained
  let s := s.each k.lanesTx fun s n => if inRange (s.txState n) lsDetect lsActive then s.updLane n fun x => { x with wantTx := true }
    else s.moltTx n
  let s := s.each k.lanesRx fun s n => if inRange (s.rxState n) lsDetect lsActive then s.updLane n fun x => { x with wantRx := true }
    else s.moltRx n
  let s := s.each (k.hostTx.filter fun n => s.hLogTx n ≠ 0xFF) fun s n => s.hMolt true (s.hLogTx n) true
  s.each (k.hostRx.filter fun n => s.hLogRx n ≠ 0xFF) fun s n => s.hMolt false (s.hLogRx n) true

/-- MEMORY_TRAINING_COMPLETE (R236, R295, R402, R404): every channel is trained or out of service. -/
def execMemoryTrainingComplete (s : State) : Outcome :=
  .next (
    let done := (upFrom 0 34).all fun c => s.rd (MC_TRN_STAT_LAST_KIND c) ≠ 0 || s.mcState c = 4 ||
      (32 ≤ c && s.flag MC_LAYER_STAT_SPARE_BAD)
    if s.devMode ≠ modeBoot || s.rd GLOBAL_BOOT_STEP ≠ 5 || s.modes.memReady || ! done || s.paused then s
    else
      let s := (s.restoreRemap).reapply
      (s.updModes fun m => { m with memReady := true, kept := {} }).put GLOBAL_BOOT_STEP 6)

end Sys2Proof.Machine
end

