-- ==== Sys2Proof/Machine/AlmFw.lean ====
section
/-! DEFINITION. The Almanac's firmware (R339 to R346): load, update, restart, the advance of the anti-rollback version;
what start-up restores from fuses and metadata before memory training (R259); the DRAM log ring (R356). -/
namespace Sys2Proof.Machine
open Csr

/-! The header (R340) -/

/-- RES_LEN, OVL_LEN and VERSION of a header. -/
def fwRes (h : List Byte) : Nat := fieldAt h 0x0C 4
def fwOvl (h : List Byte) : Nat := fieldAt h 0x10 4
def fwVersion (h : List Byte) : Nat := fieldAt h 0x08 1
/-- BUILD_ID of a header. -/
def fwBuild (h : List Byte) : Nat := fieldAt h 0x18 8
/-- The whole length a header states. -/
def fwTotal (h : List Byte) : Nat := 512 + fwRes h + fwOvl h

/-- Codes of ALM_FW_STAT. -/
def fwBadCmd : Nat := 1
def fwOrder : Nat := 2
def fwBadHeader : Nat := 3
def fwBadTarget : Nat := 4
def fwBadLength : Nat := 5
def fwNoKey : Nat := 6
def fwSigBad : Nat := 7
def fwDigest : Nat := 8
def fwRollback : Nat := 9
def fwHeaderDiffers : Nat := 10
def fwBusy : Nat := 11
def fwState : Nat := 12
def fwReverted : Nat := 13
def fwLoadFault : Nat := 14

/-- Do the lengths of a header keep their rules (R340)? -/
def fwLengths (h : List Byte) : Bool :=
  fwRes h % 64 = 0 && inRange (fwRes h) 4096 229377 && fwOvl h % 64 = 0 && fwTotal h ≤ 1048576

/-- Does the signature verify under a key digest (R32, R33, R340)? -/
def fwSigOk (h digest : List Byte) : Bool :=
  decide (sha384 (slice h 0x100 96) = digest) &&
    ecdsaOk (fieldAt h 0x100 48) (fieldAt h 0x130 48) (fieldAt h 0x160 48) (fieldAt h 0x190 48) (sha384 (slice h 0 256))

/-- The first check of R341 that bytes fail, 0 if none does; they hold the header and the resident part at least. -/
def State.fwCheck (s : State) (bs : List Byte) : Nat :=
  let h := slice bs 0 512
  let k := fieldAt h 0x09 1
  if fieldAt h 0 4 ≠ 0x58514657 || fieldAt h 5 1 ≠ 1 then fwBadHeader
  else if fieldAt h 6 2 ≠ s.rd GLOBAL_ID_PART_CODE then fwBadTarget
  else if ! fwLengths h || bs.length < 512 + fwRes h then fwBadLength
  else if ! s.keyUsable k 0 then fwNoKey
  else if ! fwSigOk h (s.keyDigest k) then fwSigBad
  else if sha384 (slice bs 512 (fwRes h)) ≠ slice h 0x20 48 then fwDigest
  else if fwVersion h < s.rd FUSE_LIMITS_ARB_VERSION then fwRollback
  else 0

/-- Does OVL_DIGEST hold of an overlay: zero where there is none (R340)? -/
def ovlDigestOk (h ovl : List Byte) : Bool :=
  if ovl.isEmpty then (slice h 0x50 48).all (fun b => b = 0) else decide (sha384 ovl = slice h 0x50 48)

/-! Outcomes -/

/-- A command on the firmware fails. -/
def State.fwFail (s : State) (code : Nat) : State := (s.put ALM_FW_STAT_CODE code).on ALM_FW_STAT_ERR

/-- An image is refused: also logged. -/
def State.fwRefused (s : State) (code : Nat) : State := (s.fwFail code).log 0x0101 srcAlmanac code

/-- A command on the firmware completes. -/
def State.fwDone (s : State) : State := (s.put ALM_FW_STAT_CODE 0).on ALM_FW_STAT_DONE

/-- The firmware with a header is in force. -/
def State.fwInForce (s : State) (h : List Byte) : State :=
  let s := ((s.put ALM_STATUS_VERSION (fwVersion h)).put ALM_FW_ID_LO_ID (fwBuild h)).put ALM_FW_ID_HI_ID (fwBuild h / 2 ^ 32)
  s.updAlm fun a => { a with hdr := h }

/-- The advance that FLAGS.ADVANCE asks for falls due (R344). -/
def State.fwAdvanceDue (s : State) : State :=
  let h := s.alm.hdr
  let due := bit (fieldAt h 0x0A 2) 0 && decide (s.rd FUSE_LIMITS_ARB_VERSION < fwVersion h)
  s.updAlm fun a => { a with advance := if due then some (fwVersion h) else none }

/-! What start-up restores before training (R259, R300, R404) -/

/-- One recorded TSV repair: its 14 bits. -/
def State.applyTsv (s : State) (r : Nat) : State :=
  let c := bits r 8 6
  let pos := r % 64
  if 34 ≤ c then s
  else if bit r 6 then (s.put (MC_TSV_CA_REP c) pos).on (MC_TSV_STAT_CA_EXH c)
  else
    let h := bits r 7 1
    let n := (s.dqReps c h).length
    s.put (if h = 0 then (if n = 0 then MC_TSV_DQ_REP0_PC0 c else MC_TSV_DQ_REP1_PC0 c)
      else (if n = 0 then MC_TSV_DQ_REP0_PC1 c else MC_TSV_DQ_REP1_PC1 c)) pos

/-- The TSV records the fuses hold: factory records, then well-formed field records. -/
def State.tsvRecords (s : State) : List Nat :=
  ((upFrom 0 14).filterMap fun r =>
    let v := bits (s.shadow (64 + r / 2)).toNat (16 * (r % 2)) 16
    if v / 2 ^ 14 = 2 then some (v % 2 ^ 14) else none) ++
  (upFrom 71 8).filterMap fun w => fieldRec (s.shadow w).toNat

/-- The channel map is committed without traffic (R189, R259). -/
def State.mapTo (s : State) (f : Nat → Nat) : State :=
  let s := s.each (upFrom 0 32) fun s k => s.put (MC_CHMAP_PHYS k) (f k)
  let s := (s.commitAll chmapAddrs).incMod MC_CHMAP_GEN_GEN
  s.each (upFrom 0 34) fun s c => s.put (MC_STATE_LOGICAL c) ((s.logsOf c).headD 0x3F)

/-- Layer 16 stands in for layer n, whose channels are retired. -/
def State.substInstall (s : State) (n : Nat) (map : Nat → Nat) : State :=
  let s := (((s.mapTo map).put MC_LAYER_STAT_SUBST_FROM n).off MC_LAYER_STAT_SPARE_FREE).each [32, 33] fun s c =>
    (s.put (MC_STATE_STATE c) 0).off (MC_STATE_SELFREF c)
  (s.chanDead (2 * n)).chanDead (2 * n + 1)

/-- Fused TSV shifts and layer substitution, then what the metadata holds of the field's (R259). -/
def State.restoreMemory (s : State) : State :=
  let k := s.modes.kept
  let w := (s.shadow 87).toNat
  let s := s.each s.tsvRecords fun s r => s.applyTsv r
  let s := if bit w 8 || k.spareBad then (s.on MC_LAYER_STAT_SPARE_BAD).off MC_LAYER_STAT_SPARE_FREE else s
  let fused := if bit w 5 && w % 32 < 16 then some (w % 32) else none
  let s := match k.subst, fused with
    | some n, _ => s.substInstall n fun l => k.map.getD l l
    | none, some n => s.substInstall n fun l => if l / 2 = n then 32 + l % 2 else l
    | none, none => s
  let s := s.each (k.regs.filter fun x => 0x200 ≤ x.1 % 0x1000) fun s x => s.setReg x.1 x.2
  let s := s.each (upFrom 0 34) fun s c =>
    let s := s.rowCount c
    let s := s.each (s.mc c).deadDq fun s x => s.on (if x.1 = 0 then MC_TSV_STAT_DQ_EXH0 c else MC_TSV_STAT_DQ_EXH1 c)
    if s.rd (MC_TSV_CA_REP c) = 0xF then s else s.on (MC_TSV_STAT_CA_EXH c)
  s.each (k.chans.filter fun c => s.mcState c ≠ 4) fun s c =>
    (s.chanDead c).each (s.logsOf c) fun s l => s.loseChan l none

/-! Load at start-up (R341, R342) -/

/-- ALM_CMD.OP = OPEN (R341): open until stage 1 has succeeded. -/
def State.fwOpenCmd (s : State) : State :=
  if s.rd ALM_STATUS_STATE ≠ 0 || s.rd GLOBAL_BOOT_STEP ≠ 4 then s.fwFail fwState
  else ((s.updAlm fun a => { a with fwOpen := true, fwIn := [] }).put ALM_FW_OFFSET_BYTES 0).fwDone

/-- OPEN (R341). -/
def execAlmOpen (s : State) : Outcome := .next s.fwOpenCmd

/-- The bytes after which a write to the window is discarded: none before the header states RES_LEN. -/
def fwRoom (got : List Byte) : Option Nat := if got.length < 512 then none else some (512 + fwRes got)

/-- A write to ALM_FW_WIN (R341). -/
def State.fwWin (s : State) (bs : List Byte) : State :=
  let got := s.alm.fwIn
  if ! s.alm.fwOpen || bs.length ≠ 64 || (fwRoom got).any (fun n => n < got.length + 64) then s.put ALM_FW_STAT_CODE fwOrder
  else (s.updAlm fun a => { a with fwIn := a.fwIn ++ bs }).put ALM_FW_OFFSET_BYTES (got.length + 64)

/-- ALM_FW_WIN_WRITE (R341): the bytes of one write to the window. -/
def execAlmFwWinWrite (data : List Byte) (s : State) : Outcome := .next (s.fwWin data)

/-- ALM_CMD.OP = BOOT_FW (R341, R402 step 4): the firmware is checked and runs, or the loader waits for a new OPEN. -/
def State.bootFw (s : State) : State :=
  if s.rd ALM_STATUS_STATE ≠ 0 then s.fwFail fwState
  else if ! s.alm.fwOpen then s.fwFail fwOrder
  else
    let bs := s.alm.fwIn
    let s := s.updAlm fun a => { a with fwOpen := false, fwIn := [] }
    let e := s.fwCheck bs
    if e ≠ 0 then s.fwRefused e
    else
      let s := ((s.fwInForce (slice bs 0 512)).put ALM_STATUS_STATE 1).fwDone
      ((s.log 0x0100 srcAlmanac (fwBuild bs)).put GLOBAL_BOOT_STEP 5).restoreMemory

/-- BOOT_FW (R341). -/
def execBootFw (s : State) : Outcome := .next s.bootFw

/-- The source address of OVERLAY and UPDATE. -/
def State.fwSrc (s : State) : Nat := s.rd ALM_FW_SRC_LO_ADDR * 64 + s.rd ALM_FW_SRC_HI_ADDR * 2 ^ 32

/-- Does a source lie in host-usable DRAM? -/
def hostUsable (src n : Nat) : Bool :=
  src + n ≤ 2 ^ 36 && (upFrom 0 (ceilDiv n 64)).all fun i => ! inSysRegion (offOf (src + 64 * i))

/-- Channel offset of firmware store slot n (R343). -/
def storeOff (n : Nat) : Nat := 0x7F000000 + n * 0x100000

/-- Write bytes into both copies of a store slot, at an offset; did one take them? -/
def State.storeWrite (s : State) (n off : Nat) (bs : List Byte) : State × Bool :=
  let a := s.writeAll (s.almAcc 2) (storeOff n + off) bs
  let b := a.1.writeAll (a.1.almAcc 2) (16 * 2 ^ 31 + storeOff n + off) bs
  (b.1, a.2.isNone || b.2.isNone)

/-- Read k pages of a store slot, each from either copy; one that neither copy gives sends ALM_FW_LOST (R343). The spec
gives no page size: a page is a granule (log 168). -/
def State.storeRead (s : State) (n off : Nat) (acc : List Byte) : Nat → State × Option (List Byte)
  | 0 => (s, some acc)
  | k + 1 =>
    let a := storeOff n + off
    match s.readMem (s.almAcc 1) a 64 with
    | (s, bs, none) => s.storeRead n (off + 64) (acc ++ bs) k
    | (s, _, some _) => match s.readMem (s.almAcc 1) (16 * 2 ^ 31 + a) 64 with
      | (s, bs, none) => s.storeRead n (off + 64) (acc ++ bs) k
      | (s, _, some _) => (s.raiseKD srcAlmanac 0x68 a 0, none)

/-- The overlay of the image at src goes into store slot n and is checked there (R342); an error's code, 0 if none. -/
def State.overlayCopy (s : State) (n : Nat) (img : List Byte) : State × Nat :=
  let h := s.alm.hdr
  let off := 512 + fwRes h
  let ovl := slice img off (fwOvl h)
  match s.storeWrite n off ovl with
  | (s, false) => (s, fwLoadFault)
  | (s, true) => match s.storeRead n off [] (fwOvl h / 64) with
    | (s, none) => (s, fwLoadFault)
    | (s, some bs) => (s, if sha384 bs = slice h 0x50 48 then 0 else fwDigest)

/-- Stage 2 succeeds: RUNNING, and the start-up set may begin (R342, R402). -/
def State.fwRuns (s : State) : State :=
  let s := (s.put ALM_STATUS_STATE 2).fwDone.fwAdvanceDue
  if s.rd GLOBAL_BOOT_STEP = 6 then s.put GLOBAL_BOOT_STEP 7 else s

/-- The image at src is compared with the header in force and its overlay stored. -/
def State.overlayLoad (s : State) (src len : Nat) : State :=
  match s.readMem (s.almAcc 1) src len with
  | (s, _, some _) => s.fwRefused fwLoadFault
  | (s, img, none) =>
    if slice img 0 0x1C0 ≠ slice s.alm.hdr 0 0x1C0 then s.fwRefused fwHeaderDiffers
    else if len ≠ fwTotal s.alm.hdr then s.fwRefused fwBadLength
    else if fwOvl s.alm.hdr = 0 then s.fwRuns
    else match s.overlayCopy (s.rd ALM_STATUS_SLOT) img with
      | (s, 0) => s.fwRuns
      | (s, e) => s.fwRefused e

/-! Update in service (R345, R346, R363) -/

/-- A checked image goes into the slot that is not in force, and the update waits for a quiet point. -/
def State.updateStore (s : State) (img : List Byte) (sideband : Bool) : State :=
  let n := 1 - s.rd ALM_STATUS_SLOT
  match s.storeWrite n 0 img with
  | (s, false) => s.fwRefused fwLoadFault
  | (s, true) => (s.updAlm fun a => { a with
      upd := some { hdr := slice img 0 512, slot := n, since := s.now, sideband := sideband } }).put ALM_FW_STAT_CODE 0

/-- Check the image of len bytes at src (R345) and store it. -/
def State.updateFrom (s : State) (src len : Nat) (sideband : Bool) : State :=
  match s.readMem (s.almAcc 1) src len with
  | (s, _, some _) => s.fwRefused fwLoadFault
  | (s, img, none) =>
    let e := s.fwCheck img
    if e ≠ 0 then s.fwRefused e
    else if len ≠ fwTotal img then s.fwRefused fwBadLength
    else if ! ovlDigestOk img (slice img (512 + fwRes img) (fwOvl img)) then s.fwRefused fwDigest
    else s.updateStore img sideband

/-! The work itself waits while the data plane is paused or DRAM does not take its requests -/

/-- The transfers of a job: its accesses, addresses and lengths. -/
def State.jobXfers (s : State) : FwJob → List (Acc × Nat × Nat)
  | .overlay src len | .update src len _ =>
    let n := storeOff (if s.rd ALM_STATUS_STATE = 1 then s.rd ALM_STATUS_SLOT else 1 - s.rd ALM_STATUS_SLOT)
    [(s.almAcc 1, src, len), (s.almAcc 2, n, len), (s.almAcc 2, 16 * 2 ^ 31 + n, len)]

/-- The firmware's job goes on when it may (R18, R342, R345): at each FCLK cycle that finds one waiting. -/
def State.fwServe (s : State) : State :=
  match s.alm.job with
  | none => s
  | some j =>
    if s.paused || s.restarting then s
    else
      let held := (s.jobXfers j).filter fun x => s.memHeld x.1 x.2.1 x.2.2
      if ! held.isEmpty then s.each held fun s x => s.portWait x.1 x.2.1 x.2.2
      else
        let s := s.updAlm fun a => { a with job := none }
        match j with
        | .overlay src len => s.overlayLoad src len
        | .update src len sb => s.updateFrom src len sb

/-- The firmware takes on a job. -/
def State.fwTake (s : State) (j : FwJob) : State := (s.updAlm fun a => { a with job := some j }).fwServe

/-- Is an update or an overlay load in progress? -/
def State.fwInWork (s : State) : Bool := s.alm.upd.isSome || s.alm.job.isSome

/-- ALM_CMD.OP = OVERLAY (R342). -/
def State.fwOverlay (s : State) : State :=
  let len := s.rd ALM_FW_LEN_LEN
  if s.rd ALM_STATUS_STATE ≠ 1 || ! s.modes.memReady then s.fwFail fwState
  else if s.fwInWork then s.fwFail fwBusy
  else if ! inRange len 512 1048577 then s.fwRefused fwBadLength
  else if ! hostUsable s.fwSrc len then s.fwRefused fwLoadFault
  else s.fwTake (.overlay s.fwSrc len)

/-- OVERLAY (R342). -/
def execAlmOverlay (s : State) : Outcome := .next s.fwOverlay

/-- ALM_CMD.OP = UPDATE (R345). -/
def State.fwUpdate (s : State) : State :=
  let len := s.rd ALM_FW_LEN_LEN
  if s.rd ALM_STATUS_STATE ≠ 2 then s.fwFail fwState
  else if s.fwInWork then s.fwFail fwBusy
  else if ! inRange len 512 1048577 then s.fwRefused fwBadLength
  else if ! hostUsable s.fwSrc len then s.fwRefused fwLoadFault
  else s.fwTake (.update s.fwSrc len false)

/-- UPDATE (R345). -/
def execAlmUpdate (s : State) : Outcome := .next s.fwUpdate

/-- A quiet point (R345): no training, migration, substitution, fuse command or slice runs. -/
def State.fwQuiet (s : State) : Bool :=
  s.st.slices.isEmpty && ! s.migrating && s.fuses.cmd.isNone && (upFrom 0 34).all fun c =>
    ! s.flag (MC_TRN_STAT_RUNNING c) && (s.mc c).moving.isNone

/-- FW_UPDATE_RESTART (R345): at a quiet point the Almanac restarts; past 100 ms without one the update is refused. -/
def execFwUpdateRestart (s : State) : Outcome :=
  .next (match s.alm.upd with
    | none => s
    | some u =>
      if u.restarted.isSome then s
      else if u.since + 100000 < s.now then (s.updAlm fun a => { a with upd := none }).fwFail fwBusy
      else if ! s.fwQuiet then s
      else ((s.updAlm fun a => { a with upd := some { u with restarted := some s.now } }).put ALM_STATUS_STATE 3).on
        ALM_CAL_CTRL_STALE)

/-- What waited for the end of the restart (R346). -/
def State.laterDo (s : State) (x : Later) : State :=
  match x with
  | .laneTx k => s.moltTx k
  | .laneRx k => s.moltRx k
  | .hostTx l => s.hMolt true l true
  | .hostRx l => s.hMolt false l true
  | .engine e => s.engSpare e
  | .capture => match s.orphanGroup with
    | some g => if s.rd (CAP_STATUS_STATE 8) = 1 && s.groupOf 8 = 15 then s.capTake g else s
    | none => s
  | .layer n cs => s.layerFail n cs
  | .subst n => s.layerSubst n
  | .phase p r before => s.phaseMolt p r before

/-- The restart is over: entries from the intake queue, current values again, and what waited. -/
def State.almBack (s : State) : State :=
  let xs := s.alm.later
  let s := ((s.put ALM_STATUS_STATE 2).off ALM_CAL_CTRL_STALE).updAlm fun a => { a with upd := none, later := [] }
  (s.logDrainIntake).each xs fun s x => s.laterDo x

/-- FW_UPDATE_READY (R344, R345): the new firmware reports ready within 100 ms of the restart. -/
def execFwUpdateReady (s : State) : Outcome :=
  .next (match s.alm.upd with
    | none => s
    | some u =>
      match u.restarted with
      | none => s
      | some t =>
        if t + 100000 < s.now then s
        else
          let old := fwBuild s.alm.hdr
          let s := (s.updAlm fun a => { a with former := a.hdr }).almBack
          let s := ((s.fwInForce u.hdr).put ALM_STATUS_SLOT u.slot).fwAdvanceDue
          (s.log2 0x0102 srcAlmanac old (fwBuild u.hdr)).fwDone)

/-- FW_REVERTED (R345): the new firmware has not reported ready within 100 ms; the former one serves again. -/
def execFwReverted (s : State) : Outcome :=
  .next (match s.alm.upd with
    | none => s
    | some u =>
      match u.restarted with
      | none => s
      | some t =>
        if s.now < t + 100000 then s
        else (s.almBack.log 0x0103 srcAlmanac (fwBuild u.hdr)).fwFail fwReverted)

/-- FW_ANTIROLLBACK_ADVANCE (R344): the firmware in force advances the anti-rollback version to its own. -/
def execFwAntirollbackAdvance (s : State) : Outcome :=
  .next (match s.alm.advance with
    | none => s
    | some v =>
      if s.rd ALM_STATUS_STATE ≠ 2 || s.fuses.cmd.isSome then s
      else (s.updAlm fun a => { a with advance := none }).fuseStart
        { op := 3, lockRow := false, word := 0, setting := 0, data := v, almanac := true })

/-- ALM_CMD is written (R341, R342, R345). -/
def State.almCmd (s : State) (op : Nat) : State :=
  if op = 1 then s.fwOpenCmd
  else if op = 2 then s.bootFw
  else if op = 3 then s.fwOverlay
  else if op = 4 then s.fwUpdate
  else s.fwFail fwBadCmd

/-! The DRAM log ring (R355, R356) -/

/-- The 32 bytes of a log entry (R355). -/
def LogEnt.bytes (e : LogEnt) : List Byte :=
  natLe 6 e.vt ++ natLe 6 e.uptime ++ natLe 2 e.kind ++ natLe 2 e.word ++ natLe 4 e.seq ++ natLe 12 e.data

/-- The cube address of the entry of a SEQ in the DRAM ring (R356). -/
def logAddr (seq : Nat) : Nat := 0xFF000000 + 32 * (seq % 65536)

/-- What a copy writes (R356): the whole granule, whose first half an odd SEQ fills with the entry before it, or zero when
that entry was dropped. -/
def State.logGranule (s : State) (e : LogEnt) : List Byte :=
  if e.seq % 2 = 0 then slice e.bytes 0 64
  else (match s.alm.lastCopied with
    | some p => if p.seq + 1 = e.seq then p.bytes else List.replicate 32 0
    | none => List.replicate 32 0) ++ e.bytes

/-- LOG_COPY (R356): the oldest entry not yet copied goes out. -/
def execLogCopy (s : State) : Outcome :=
  .next (match s.alm.log.find? fun e => s.alm.copied ≤ e.seq with
    | none => s
    | some e =>
      let base := logAddr e.seq / 64 * 64
      if ! s.modes.memReady || s.paused || s.rd ALM_STATUS_STATE = 0 || s.restarting then s
      else if s.memHeld (s.almAcc 2) base 64 then s.portWait (s.almAcc 2) base 64
      else match s.writeAll (s.almAcc 2) base (s.logGranule e) with
        | (s, none) =>
          (s.updAlm fun a => { a with copied := e.seq + 1, lastCopied := some e }).logGapFlush
        | (s, _) => s)

end Sys2Proof.Machine
end

