-- ==== Sys2Proof/Machine/CapCmd.lean ====
section
/-! DEFINITION. The commands of the capture units (chapter 08): expiry, gap records, capture DMA, the fail map's fills
and write-backs, the counters' dump and clear. A command whose condition does not hold changes nothing. -/
namespace Sys2Proof.Machine
open Csr

/-- Do the unit's own activities run: the data plane is not paused (R17) and the unit is neither fenced, so that it keeps
its state (R372), nor retired, nor gated (R330)? -/
def State.capRuns (s : State) (u : Nat) : Bool :=
  ! s.paused && s.rd (CAP_STATUS_STATE u) < 2 && ! s.flag (CLKPWR_GATE_GATED (srcCap u))

/-- One entry expires (R161): its unanswered slots that expect anything become evidence of cause UNANSWERED. -/
def State.expireEntry (s : State) (u : Nat) (x : EchoEnt) : State :=
  let pp := s.pPart x.part
  let s := s.each ((upFrom 0 x.slots).filter fun n => ! bit x.answered n) fun s n =>
    let mask := (upFrom (n * pp) pp).foldl (fun m j => if x.expect j = 3 then m else putBit m j true) 0
    if mask = 0 then s else s.gapCycle u x n 2 mask ((s.engLanes x.engine).headD 0)
  (s.updCap u fun c => { c with ring := c.ring.erase x }).echoEase u

/-- ECHO_ENTRY_EXPIRY (R161): every entry of the unit whose time has come expires. -/
def execEchoEntryExpiry (u : Fin 9) (s : State) : Outcome :=
  .next (if ! s.capRuns u then s
    else s.each ((s.cap u).ring.filter fun x => s.reached (vtAdd x.vt (s.rttMax x.part))) fun s x => s.expireEntry u x)

/-- GAP_RECORD_CLOSE (R169): every run of the unit whose first cycle was observed 1 µs ago closes. -/
def execGapRecordClose (u : Fin 9) (s : State) : Outcome :=
  .next (if ! s.capRuns u then s
    else s.each ((s.cap u).runs.filter fun r => r.since + 1 ≤ s.now) fun s r => s.closeRun u r)

/-- CAPTURE_DMA_WRITE_COMPLETE (R170, R171, R173): the next write of the channel completes, a segment's zero header
first, else the oldest queued record; an error halts the channel. -/
def execCaptureDmaWriteComplete (u : Fin 9) (s : State) : Outcome :=
  .next (if ! s.capRuns u || s.flag (CAP_STATUS_DMA_HALT u) then s else s.dmaNext u)

/-- SEGMENT_HEADER_WRITE (R171): the header of partition p's segment goes out, at most once per µs. -/
def execSegmentHeaderWrite (u : Fin 9) (p : Fin 16) (s : State) : Outcome :=
  .next (match s.seg u p with
    | none => s
    | some x =>
      if ! s.capRuns u || s.flag (CAP_STATUS_DMA_HALT u) || x.adopt ≠ 0 || (! x.zeroDue && x.hdrAt = s.now && x.hdrAt ≠ 0) then s
      else if s.hdrHeld u p then s.hdrWait u p
      else match s.writeHeader u p with
        | (s, none) => s
        | (s, some e) => s.dmaHalt u p 2 e)

/-- SEGMENT_HEADER_REREAD (R172): RD is read again when the segment looks full, at most once per µs. -/
def execSegmentHeaderReread (u : Fin 9) (p : Fin 16) (s : State) : Outcome :=
  .next (match s.seg u p with
    | none => s
    | some x => if s.capRuns u && x.adopt = 0 && s.segFull u p && (x.readAt < s.now || x.readAt = 0) then s.reread u p else s)

/-- MAP_FILL_COMPLETE (R176, R178, R179): the oldest fill of the unit ends. -/
def execMapFillComplete (u : Fin 9) (s : State) : Outcome :=
  .next (match (s.cap u).lines.find? (fun l => l.filling) with
    | none => s
    | some l =>
      if ! s.capRuns u || (s.cap u).wbs.any (fun w => w.gran = l.gran) then s
      else if s.memHeld (s.mapAcc u l.part 4) l.gran 64 then s.portWait (s.mapAcc u l.part 4) l.gran 64
      else s.fillEnds u l)

/-- MAP_LINE_AGE_FLUSH (R177): lines dirty for FLUSH_AGE_US are written back. -/
def execMapLineAgeFlush (u : Fin 9) (s : State) : Outcome :=
  .next (if ! s.capRuns u then s
    else s.flushLines u fun l => match l.dirty with
      | some t => t + s.rd (CAP_CFG_FLUSH_AGE_US u) ≤ s.now
      | none => false)

/-- MAP_WRITEBACK_COMPLETE (R177, R178): the oldest write-back ends; on an error response the line is dropped with the
updates it holds. -/
def execMapWritebackComplete (u : Fin 9) (s : State) : Outcome :=
  .next (match (s.cap u).wbs with
    | [] => s
    | w :: _ =>
      if ! s.capRuns u then s
      else if s.memHeld (s.mapAcc u w.part 2) w.gran 64 then s.portWait (s.mapAcc u w.part 2) w.gran 64
      else s.wbEnds u w)

/-- MAP_PARTITION_FLUSH (R177): once partition p's window has closed, or it has left RUN, and every entry of it before
that point is answered or expired, its dirty lines are written back. -/
def execMapPartitionFlush (u : Fin 9) (p : Fin 16) (s : State) : Outcome :=
  .next (match s.img.flushFrom.find? (fun x => x.1 = p.val) with
    | none => s
    | some f =>
      if ! s.capRuns u || (s.cap u).ring.any (fun x => x.part = p && ! vtGe x.vt f.2) then s
      else s.flushLines u fun l => l.part = p)

/-- FLUSH (R177): every dirty line is written back. -/
def State.capFlush (s : State) (u : Nat) : State := s.flushLines u fun _ => true

/-- DMA_RESUME (R173): a halted channel goes on from the record that failed. -/
def State.capResume (s : State) (u : Nat) : State := s.off (CAP_STATUS_DMA_HALT u)

/-- The address CAP_RC_DUMP names. -/
def State.dumpAddr (s : State) (u : Nat) : Nat :=
  s.rd (CAP_RC_DUMP_LO_ADDR u) * 64 + s.rd (CAP_RC_DUMP_HI_ADDR u) * 2 ^ 32

/-- RC_DUMP with PART = p (R184): refused in its five cases, else the dump runs. -/
def State.capRcDump (s : State) (u p : Nat) : State :=
  if ! s.serves u p || s.rcK p = 0 || ! s.inRegion p 0 (s.dumpAddr u) (2 * s.rcK p) || (s.cap u).dump.isSome ||
      s.flag (CAP_STATUS_DMA_HALT u) then s.on (CAP_STATUS_CMD_REFUSED u)
  else s.updCap u fun c => { c with dump := some (p, s.dumpAddr u) }

/-- RC_CLEAR with PART = p (R185): counts of the same FCLK cycle that come after it are lost too. -/
def State.capRcClear (s : State) (u p : Nat) : State :=
  if ! s.serves u p || s.rcK p = 0 then s.on (CAP_STATUS_CMD_REFUSED u)
  else (s.rcClear u p).updCap u fun c => { c with
    rcCleared := (p, s.clk.fclk) :: c.rcCleared.filter fun x => x.1 ≠ p }

/-- FLUSH (R177). -/
def execCapFlush (u : Fin 9) (s : State) : Outcome := .next (s.clocked (srcCap u) fun s => s.capFlush u)

/-- DMA_RESUME of CAP_CTRL (R173). -/
def execDmaResume (u : Fin 9) (s : State) : Outcome := .next (s.clocked (srcCap u) fun s => s.capResume u)

/-- RC_DUMP (R184). -/
def execRcDump (u : Fin 9) (p : Fin 16) (s : State) : Outcome := .next (s.clocked (srcCap u) fun s => s.capRcDump u p)

/-- RC_DUMP_DONE (R184): the last write of the running dump completes; each counter is copied as the unit reads it. An
error halts the channel (R173). -/
def execRcDumpDone (u : Fin 9) (s : State) : Outcome :=
  .next (match (s.cap u).dump with
    | none => s
    | some (p, a) =>
      let n := 2 * s.rcK p
      if ! s.capRuns u || s.flag (CAP_STATUS_DMA_HALT u) then s
      else if s.memHeld (s.capAcc u p 2) a n then s.portWait (s.capAcc u p 2) a n
      else match s.writeAll (s.capAcc u p 2) a ((upFrom 0 (s.rcK p)).flatMap fun i => natLe 2 (s.rcGet u p i)) with
        | (s, none) => (s.updCap u fun c => { c with dump := none }).on (CAP_STATUS_DUMP_DONE u)
        | (s, some e) => s.dmaHalt u p 2 e)

/-- RC_CLEAR (R185). -/
def execRcClear (u : Fin 9) (p : Fin 16) (s : State) : Outcome := .next (s.clocked (srcCap u) fun s => s.capRcClear u p)

end Sys2Proof.Machine
end

