-- ==== Sys2Proof/Machine/Sideband.lean ====
section
/-! DEFINITION. The sideband (R358 to R363): the I3C target, its registers, the mailbox. -/
namespace Sys2Proof.Machine
open Csr

/-- Change the sideband target. -/
def State.updSb (s : State) (f : Sideband → Sideband) : State := s.updAlm fun a => { a with sb := f a.sb }

/-! Common command codes (R358) -/

/-- The target drives an answer of n bytes, the most significant first. -/
def State.i3cAnswer (s : State) (n v : Nat) : State := s.updSb fun b => { b with out := (natLe n v).reverse }

/-- I3C_CCC: address assignment, event enables, and the answers to the GET codes: the BCR declares IBIs with a payload, of one
byte as GETMRL says too (PRESUMED of the bits: MIPI I3C, log 199); the spec gives no other value. -/
def execI3cCcc (c : I3cCcc) (s : State) : Outcome :=
  .next (if ! s.sensed then s else match c with
    | .entdaa a => if s.flag ALM_SB_I3C then s else (s.put ALM_SB_DYN_ADDR a.toNat).on ALM_SB_I3C
    | .setdasa st a => if s.flag ALM_SB_I3C || st.toNat ≠ s.rd ALM_SB_STATIC_ADDR then s
      else (s.put ALM_SB_DYN_ADDR a.toNat).on ALM_SB_I3C
    | .rstdaa => (s.put ALM_SB_DYN_ADDR 0).off ALM_SB_I3C
    | .enec ibi => if ibi then s.updSb fun b => { b with ibiOn := true } else s
    | .disec ibi => if ibi then s.updSb fun b => { b with ibiOn := false } else s
    | .getpid => s.i3cAnswer 6 (Config.i3cAnswer 0x8D)
    | .getbcr => s.i3cAnswer 1 0x06
    | .getdcr => s.i3cAnswer 1 (Config.i3cAnswer 0x8F)
    | .getstatus => let r := s.draw (2 ^ 16); r.2.i3cAnswer 2 r.1
    | .getmwl => s.i3cAnswer 2 (Config.i3cAnswer 0x8B)
    | .getmrl => s.i3cAnswer 3 (Config.i3cAnswer 0x8C % 2 ^ 16 * 2 ^ 8 + 1))

/-! Registers (R359) -/

/-- SB_STATUS. -/
def State.sbStatus (s : State) : Nat :=
  b2n s.alm.sb.busy + 2 * b2n s.alm.sb.ready + 4 * s.rd CLKPWR_NMI_ALERT + 8 * b2n (s.almState = 0) +
    16 * s.rd FUSE_STATUS_T_FAIL + 32 * b2n s.pauses.any

/-- The byte a read at pointer p returns. -/
def State.sbByte (s : State) (p : Nat) : Byte :=
  if p < 4 then (natLe 4 (s.reg 0).toNat).getD p 0
  else if p = 4 then BitVec.ofNat 8 s.sbStatus
  else if inRange p 0x10 0x50 then s.alm.sb.req.getD (p - 0x10) 0
  else if inRange p 0x50 0x90 then s.alm.sb.resp.getD (p - 0x50) 0
  else 0

/-- A read of SB_RESP's last byte clears RESP_READY; a reset that the response told of follows (R359, R406). -/
def State.sbRespRead (s : State) : State :=
  let s := s.updSb fun b => { b with ready := false }
  if s.modes.resetDue = some false then s.warmReset GLOBAL_RESET_CAUSE_SIDEBAND else s

/-- A byte is read at the pointer, which moves on (R359). -/
def State.sbReadByte (s : State) : State :=
  let p := s.alm.sb.ptr
  let s := s.updSb fun b => { b with out := [s.sbByte p], ptr := (p + 1) % 256 }
  if p = 0x8F then s.sbRespRead else s

/-- SB_RESP_LAST_READ (R359): a read at the pointer, byte by byte: each byte of a read is a command
(DESIGN CHOICE, log 206). That of SB_RESP's last byte
clears RESP_READY. -/
def execSbRespLastRead (s : State) : Outcome := .next (if s.sensed then s.sbReadByte else s)

/-! The mailbox (R360, R361) -/

/-- The statuses. -/
def sbOk : Nat := 0
def sbUnknown : Nat := 1
def sbBadArg : Nat := 2
def sbPrivilege : Nat := 3
def sbRefused : Nat := 4
def sbBusy : Nat := 5
def sbNotAvailable : Nat := 6

/-- The opcodes, and those the loader serves (READ_LOG from the SRAM ring only). -/
def sbOps : List Nat := [1, 2, 3, 4, 5, 6, 0x10, 0x11, 0x12]
def sbLoaderOps : List Nat := [1, 2, 3, 4, 5]

/-- OPCODE, TAG, LEN and payload of the request that is served. -/
def State.sbOp (s : State) : Nat := fieldAt s.alm.sb.cur 0 1
def State.sbLen (s : State) : Nat := fieldAt s.alm.sb.cur 2 1
def State.sbArg (s : State) : List Byte := slice s.alm.sb.cur 4 s.sbLen

/-- The response to the request that is served; an IBI with payload 0x01 where IBIs are enabled. -/
def State.sbRespond (s : State) (status : Nat) (data : List Byte) : State :=
  let c := s.alm.sb.cur
  let r := natLe 1 (fieldAt c 0 1 ||| 0x80) ++ natLe 1 (fieldAt c 1 1) ++ natLe 1 status ++ natLe 1 data.length ++ data
  s.updSb fun b => { b with resp := slice r 0 64, busy := false, ready := true, ibi := if b.ibiOn then some 1 else b.ibi }

/-- Do the fuses bar opcode op, one of the firmware transfer (R363)? -/
def State.sbBarred (s : State) (op : Nat) : Bool := 0x10 ≤ op && ! s.flag FUSE_LIMITS_SB_FW_UPDATE

/-- Submit SB_REQ (R360): logged, and answered at once where no opcode serves it. -/
def State.sbDoorbell (s : State) : State :=
  if s.alm.sb.busy || ! s.sensed then s
  else
    let s := s.updSb fun b => { b with cur := b.req, busy := true }
    let s := s.log 0x010A srcSideband (leNat (s.alm.sb.cur.take 12))
    if s.restarting then s.sbRespond sbBusy []
    else if ! sbOps.contains s.sbOp then s.sbRespond sbUnknown []
    else if s.rd ALM_STATUS_STATE = 0 && ! sbLoaderOps.contains s.sbOp then s.sbRespond sbNotAvailable []
    else if s.sbBarred s.sbOp then s.sbRespond sbPrivilege []
    else if 60 < s.sbLen || fieldAt s.alm.sb.cur 3 1 ≠ 0 then s.sbRespond sbBadArg []
    else s

/-- SB_DOORBELL (R359, R360): 1 is written. -/
def execSbDoorbell (s : State) : Outcome := .next s.sbDoorbell

/-- One byte written at a pointer. -/
def State.sbPut (s : State) (p : Nat) (b : Byte) : State :=
  if p = 8 then (if b = 1 then s.sbDoorbell else s)
  else if inRange p 0x10 0x50 then s.updSb fun x => { x with req := x.req.set (p - 0x10) b }
  else s

/-- SB_POINTER_WRITE (R359): the first byte of a write is the pointer, the rest go to the registers from it. -/
def execSbPointerWrite (ptr : Byte) (data : List Byte) (s : State) : Outcome :=
  .next (if ! s.sensed then s else data.foldl (fun s b => (s.sbPut s.alm.sb.ptr b).updSb fun x => { x with ptr := (x.ptr + 1) % 256 })
    (s.updSb fun x => { x with ptr := ptr.toNat }))

/-- Serve opcode op when it is the one submitted, its payload n bytes long. -/
def State.sbServe (s : State) (op n : Nat) (f : State → State) : State :=
  if ! s.alm.sb.busy || s.sbOp ≠ op then s
  else if s.restarting then s.sbRespond sbBusy []
  else if s.sbBarred op then s.sbRespond sbPrivilege []
  else if s.sbLen ≠ n then s.sbRespond sbBadArg []
  else f s

/-- A temperature in 1/8 °C as 16 bits. -/
def temp16 (t : Int) : List Byte := natLe 2 (ofInt 16 t)

/-- The payload of READ_SENSORS; before the firmware has formed effective temperatures there is no reading. -/
def State.sensorBytes (s : State) : List Byte :=
  let temps := (upFrom 0 17).flatMap fun n =>
    if ! s.alm.rounds then natLe 2 0x8000 else temp16 (sextInt 12 (s.rd (MC_TEMP_EFFECTIVE (2 * n))))
  let site := fun n => sextInt 12 (s.rd (ALM_SITE_TEMP n))
  let hottest := (upFrom 0 32).foldl (fun m n => max m (site n)) (site 0)
  let suspect := (upFrom 0 17).foldl (fun m n => m + s.rd (ALM_LAYER_SUSPECT n) * 2 ^ n) 0
  let throttle := (upFrom 0 34).any fun c => s.flag (MC_STATE_THROTTLE c)
  let flags := s.rd ALM_CAL_CTRL_STALE + 2 * s.rd ALM_CAL_CTRL_CAL_BAD + 4 * b2n throttle + 8 * b2n s.pauses.trip +
    16 * s.rd CLKPWR_STATUS_HCK_LOST + 32 * s.rd FUSE_STATUS_T_FAIL + 64 * s.rd FUSE_STATUS_P_FAIL
  temps ++ temp16 hottest ++ natLe 2 s.alm.vin ++ natLe 2 s.alm.power ++ natLe 3 suspect ++ natLe 1 flags ++
    natLe 1 s.devMode

/-- READ_SENSORS (R361). -/
def execReadSensors (s : State) : Outcome := .next (s.sbServe 1 0 fun s => s.sbRespond sbOk s.sensorBytes)

/-- READ_SITES (R361): 16 sites from 0 or from 16. -/
def execReadSites (s : State) : Outcome :=
  .next (s.sbServe 2 1 fun s =>
    let n := leNat s.sbArg
    if n ≠ 0 && n ≠ 16 then s.sbRespond sbBadArg []
    else s.sbRespond sbOk ((upFrom n 16).flatMap fun i => temp16 (sextInt 12 (s.rd (ALM_SITE_TEMP i)))))

/-- Is the DRAM ring readable by the firmware? -/
def State.ringOpen (s : State) : Bool := s.rd ALM_STATUS_STATE ≠ 0 && s.modes.memReady && ! s.paused && ! s.chanHeld 1

/-- The SEQ that the DRAM ring holds at the place of a SEQ, without evidence. -/
def State.ringSeq (s : State) (seq : Nat) : Nat :=
  let g := granOf (logAddr seq)
  let d := match s.wbFind (s.physOf 1) g with
    | some e => e.data
    | none => (s.stored (s.physOf 1) g).1
  fieldAt d (logAddr seq % 64 + 16) 4

/-- Does the DRAM ring hold the entry of a SEQ? -/
def State.ringHolds (s : State) (seq : Nat) : Bool :=
  s.ringOpen && seq < s.alm.copied && s.alm.copied ≤ seq + 65536 && s.ringSeq seq = seq

/-- The oldest entry held: in the DRAM ring, else in the SRAM ring. -/
def State.oldestSeq (s : State) : Option Nat :=
  let lo := s.alm.copied - 65536
  match if s.ringOpen then (upFrom lo (s.alm.copied - lo)).find? s.ringHolds else none with
  | some q => some q
  | none => s.alm.log.head?.map (·.seq)

/-- The bytes of the entry of a SEQ that is held. -/
def State.logEntry (s : State) (seq : Nat) : State × Option (List Byte) :=
  match s.alm.log.find? fun e => e.seq = seq with
  | some e => (s, some e.bytes)
  | none =>
    if s.ringHolds seq then match s.readMem (s.almAcc 1) (logAddr seq) 32 with
      | (s, bs, none) => (s, some bs)
      | (s, _, some _) => (s, none)
    else (s, none)

/-- The read of the DRAM ring that an entry's answer needs, if it must wait at its port. -/
def State.ringWait (s : State) (seq : Nat) : Bool :=
  s.alm.log.all (fun e => e.seq ≠ seq) && s.ringHolds seq && s.memHeld (s.almAcc 1) (logAddr seq) 32

/-- Answer with the entry of a SEQ, else as told; the answer waits while the DRAM ring's port does. -/
def State.logAnswer (s : State) (seq : Nat) (other : State → State) : State :=
  if s.ringWait seq then s.portWait (s.almAcc 1) (logAddr seq) 32
  else match s.logEntry seq with
    | (s, some bs) => s.sbRespond sbOk (bs ++ natLe 4 (s.rd ALM_LOG_NEXT))
    | (s, none) => other s

/-- READ_LOG (R361): the entry of a SEQ, or the oldest one held. -/
def execReadLog (s : State) : Outcome :=
  .next (s.sbServe 3 4 fun s =>
    let q := leNat s.sbArg
    if s.rd ALM_LOG_NEXT ≤ q then s.sbRespond sbNotAvailable []
    else s.logAnswer q fun s => match s.oldestSeq with
      | none => s.sbRespond sbNotAvailable []
      | some o => s.logAnswer o fun s => s.sbRespond sbNotAvailable [])

/-- The payload of READ_STATUS. -/
def State.statusBytes (s : State) : List Byte :=
  natLe 4 (s.reg 0x700000).toNat ++ natLe 4 (s.reg CLKPWR_NMI_ALERT.addr).toNat ++
    natLe 4 (s.reg CLKPWR_STATUS_PRIMARY.addr).toNat ++ natLe 1 s.almState ++
    natLe 1 (s.rd ALM_STATUS_VERSION) ++ natLe 4 (s.rd ALM_FW_ID_LO_ID) ++ natLe 4 (s.rd ALM_FW_ID_HI_ID) ++
    natLe 1 (s.rd ALM_FW_STAT_CODE)

/-- READ_STATUS (R361). -/
def execReadStatus (s : State) : Outcome := .next (s.sbServe 4 0 fun s => s.sbRespond sbOk s.statusBytes)

/-- REQ_RESET (R361, R406): the reset follows the response, once it has been read (DEDUCED, log 106). -/
def execReqReset (s : State) : Outcome :=
  .next (s.sbServe 5 1 fun s =>
    if leNat s.sbArg ≠ 0x5E then s.sbRespond sbBadArg []
    else (s.sbRespond sbOk []).updModes fun m => { m with resetDue := some false })

/-- REQ_DEEP (R361, R397, R399). -/
def execReqDeep (s : State) : Outcome :=
  .next (s.sbServe 6 1 fun s =>
    match leNat s.sbArg with
    | 0 => if s.deepCheck ≠ 0 then s.sbRespond sbRefused [] else (s.sbRespond sbOk []).deepEnter
    | 1 => if s.devMode ≠ modeDeep then s.sbRespond sbRefused [] else (s.sbRespond sbOk []).deepExit
    | _ => s.sbRespond sbBadArg [])

/-! Firmware over the sideband (R363) -/

/-- The staging area: a cube address on logical channel 2. -/
def stageAddr : Nat := 2 * 2 ^ 31 + 0x7F200000

/-- FW_BEGIN (R361, R363): the image's length. -/
def execFwBegin (s : State) : Outcome :=
  .next (s.sbServe 0x10 4 fun s =>
    let n := leNat s.sbArg
    if ! inRange n 512 1048577 then s.sbRespond sbBadArg []
    else if s.fwInWork then s.sbRespond sbBusy []
    else (s.updSb fun b => { b with fw := some (n, 0) }).sbRespond sbOk [])

/-- FW_DATA (R361, R363): data at the next offset. -/
def execFwData (s : State) : Outcome :=
  .next (s.sbServe 0x11 s.sbLen fun s =>
    let off := fieldAt s.sbArg 0 4
    let bs := s.sbArg.drop 4
    match s.alm.sb.fw with
    | none => s.sbRespond sbBadArg []
    | some (len, next) =>
      if s.sbLen < 4 || bs.length % 8 ≠ 0 || 56 < bs.length || off ≠ next || len < off + bs.length then s.sbRespond sbBadArg []
      else if s.fwInWork then s.sbRespond sbBusy []
      else if ! s.modes.memReady || s.paused then s.sbRespond sbNotAvailable []
      else if s.memHeld (s.almAcc 2) (stageAddr + off) bs.length then s.portWait (s.almAcc 2) (stageAddr + off) bs.length
      else match s.writeAll (s.almAcc 2) (stageAddr + off) bs with
        | (s, none) => (s.updSb fun b => { b with fw := some (len, next + bs.length) }).sbRespond sbOk []
        | (s, some _) => s.sbRespond sbNotAvailable [])

/-- FW_END (R345, R363): the update runs from the staging area; its result shows in ALM_FW_STAT. -/
def execFwEnd (s : State) : Outcome :=
  .next (s.sbServe 0x12 0 fun s =>
    match s.alm.sb.fw with
    | none => s.sbRespond sbBadArg []
    | some (len, next) =>
      if next ≠ len then s.sbRespond sbBadArg []
      else if s.fwInWork then s.sbRespond sbBusy []
      else
        let s := (s.updSb fun b => { b with fw := none }).sbRespond sbOk []
        if s.rd ALM_STATUS_STATE ≠ 2 then s.fwFail fwState else s.fwTake (.update stageAddr len true))

end Sys2Proof.Machine
end

