-- ==== Sys2Proof/Machine/CsrBus.lean ====
section
/-! DEFINITION. Access to CSR space (R5 to R9, R22, R280, R291): the checks of an access, what a read returns and
changes, what a write changes and starts. -/
namespace Sys2Proof.Machine
open Csr

/-! Status codes (R282) -/
def stOk : Nat := 0
def stMalformed : Nat := 1
def stAddrRange : Nat := 2
def stPrivilege : Nat := 3
def stUncorrectable : Nat := 4
def stFabricError : Nat := 5
def stDmaHalted : Nat := 6
def stRefused : Nat := 7
def stBusy : Nat := 8
def stNotReady : Nat := 9

/-! The checks of an access -/

/-- The block whose WO command register is at address a: ENG_CTRL, CAP_CTRL or VLANE_CTRL (R331). -/
def cmdBlock (a : Nat) : Option Nat :=
  match engOfAddr a, capOfAddr a, vlaneOfAddr a with
  | some e, _, _ => if a % 0x1000 = 4 then some e else none
  | _, some u, _ => if a = capBase u + 4 then some (128 + u) else none
  | _, _, some k => if a % 0x1000 = 4 then some (3 * 128 + k) else none
  | _, _, _ => none

/-- Does a write of v to address a write a remap entry, or commit the group, while AUTO is 1 (R233)? -/
def State.remapOwned (s : State) (a : Nat) (v : Word) : Bool :=
  match mcOfAddr a with
  | some c =>
    let o := a % 0x1000
    s.flag (MC_REMAP_CTRL_AUTO c) && (inRange o 0x100 0x140 || (o = 0x140 && v.toNat.testBit 0))
  | none => false

/-- Is address a one of FUSE_PGM_ADDR, FUSE_PGM_DATA, FUSE_PGM_CMD, FUSE_OVR, FUSE_SHADOWn (R310)? -/
def fuseCommand (a : Nat) : Bool := inRange a 0x700010 0x70001C || a = 0x700020 || inRange a 0x700100 0x700300

/-- The status an access to the register at address a ends with: 0 when every check passes (R22, R108, R189, R233, R291,
R310, R331). `v` is the word a write brings. -/
def State.csrStatus (s : State) (write factory : Bool) (a : Nat) (v : Word) : Nat :=
  let fac := factory && s.factoryPort
  if factory && ! fac then stPrivilege
  else if csrInTap a then (if fac then stOk else stPrivilege)
  else if ! csrInSpan a then stAddrRange
  else if write then
    if inRange a 0x430000 0x430024 then stPrivilege
    else if s.remapOwned a v then stPrivilege
    else if fuseCommand a && ! fac then stPrivilege
    else if (cmdBlock a).any (fun n => s.flag (CLKPWR_GATE_GATED n)) then stFabricError
    else if (unitOfAddr a).any (fun n => s.faults.retiredAt.contains (n, s.clk.fclk)) then stFabricError
    else stOk
  else if (engOfAddr a).any (fun e => s.rd (ENG_STATE_STATE e) = 3) && inRange (a % 0x1000) 0x100 0x180 then stBusy
  else stOk

/-! Reads -/

/-- Where the slowest slot in service of engine e stands: the number of the row it sends next (ENG_STG_STATUS). -/
def State.drainRow (s : State) (e : Nat) : Nat :=
  let g := s.stg e
  let cs := (s.liveSlots e).map g.cursor
  let less := fun (a b : Slotc) => a.seg < b.seg || (a.seg = b.seg && (a.pass < b.pass || (a.pass = b.pass && a.row < b.row)))
  match cs with
  | [] => g.fill
  | c :: r =>
    let c := r.foldl (fun m x => if less x m then x else m) c
    match g.segs[c.seg - g.segBase]? with
    | none => g.fill
    | some x => if g.segDone x c.pass c.row then x.first + x.count else x.first + c.row

/-- Is the slowest slot in service sending a queued pass? -/
def State.replaying (s : State) (e : Nat) : Bool :=
  let g := s.stg e
  (s.liveSlots e).any fun n =>
    let c := g.cursor n
    match g.segs[c.seg - g.segBase]? with
    | none => false
    | some x => x.passes ≠ 0 && ! g.segDone x c.pass c.row

/-- The registers of engine e that are formed on a read: offset within the block, word read so far. -/
def State.engView (s : State) (e o : Nat) (w : Nat) : Nat :=
  let g := s.eng e
  let t := g.stg
  if o = 0x20 then g.stime % 2 ^ 32
  else if o = 0x44 then
    let d := s.drainRow e
    putBits (putBits (putBit (putBit (putBit (putBit w 0 t.mark.isSome) 1 (s.replaying e)) 2 (bankGen t.fill % 2 = 1)) 3
      (bankGen d % 2 = 1)) 8 8 t.fill) 16 8 d
  else if o = 0x48 then
    match t.mark with
    | some m => m % 256 + bankGen m % 2 * 2 ^ 8 + min 256 (t.fill - m) * 2 ^ 16
    | none => 0
  else if o = 0x4C then min (s.passesLeft e) (2 ^ 32 - 1)
  else if o = 0x54 then s.cyclesSent e % 2 ^ 32
  else if inRange o 0x100 0x180 then
    (g.g.getD ((o - 0x100) / 8) 0).toNat / (if o % 8 = 0 then 1 else 2 ^ 32) % 2 ^ 32
  else w

/-- The registers of capture unit u that are formed on a read. -/
def State.capView (s : State) (u o : Nat) (w : Nat) : Nat :=
  if o = 0x10 then putBits w 0 10 (ceilDiv (s.cap u).fill 1024)
  else if o = 0x14 then putBits w 0 10 (s.cap u).queue.length
  else if o = 0x24 then
    let p := s.rd (CAP_RC_IDX_PART u)
    let i := s.rd (CAP_RC_IDX_INDEX u) / 2 * 2
    if s.serves u p && i < s.rcK p then s.rcGet u p i + s.rcGet u p (i + 1) * 2 ^ 16 else 0
  else if inRange o 0x400 0x800 then
    let p := (o - 0x400) / 0x40
    let d := o % 0x40
    let here := s.serves u p
    if d = 0 then
      putBit (putBit (putBit w 0 here) 7 (s.mapClean u p)) 8 (here && s.capEn p 1 && s.capEn p 2)
    else if d = 8 then (match s.seg u p with | some x => x.queued % 2 ^ 32 | none => 0)
    else if d = 0xC then (match s.seg u p with | some x => x.rd % 2 ^ 32 | none => 0)
    else if d = 0x10 then (if here && (s.seg u p).isSome then s.nrec p % 2 ^ 24 else 0)
    else w
  else w

/-- The registers of channel controller c that are formed on a read. -/
def State.mcView (s : State) (c o : Nat) (w : Nat) : Nat :=
  if o = 0 then putBit w 4 (s.inNoref c)
  else if o = 0x214 then
    putBits w 12 20 (if s.rd (MC_TRN_STAT_LAST_KIND c) = 0 then 0
      else min ((s.now - (s.mc c).trainedAt) / 1000000) (2 ^ 20 - 1))
  else w

/-- GLOBAL_PEND.DIRTY (R410). -/
def State.dirtyGroups (s : State) : Nat :=
  b2n ((upFrom 0 34).any fun c => s.dirty (remapAddrs c))
  + 2 * b2n (s.dirty bwAddrs)
  + 4 * b2n (s.dirty ((upFrom 0 256).map fun n => 0x10100 + 4 * n))
  + 8 * b2n (s.dirty [0x10024, 0x10028, 0x1002C, 0x10030])
  + 16 * b2n (s.dirty [0x10018, 0x1001C])
  + 32 * b2n (s.dirty chmapAddrs)
  + 64 * b2n (s.dirty gateAddrs)

/-- Does the cube wait for the host in start-up (R402: steps 4 and 6)? -/
def State.waitsHost (s : State) : Bool :=
  s.devMode = modeBoot && ((s.rd GLOBAL_BOOT_STEP = 4 && s.rd ALM_STATUS_STATE = 0) ||
    (s.rd GLOBAL_BOOT_STEP = 6 && s.rd ALM_STATUS_STATE = 1))

/-- The word a read of the register at address a returns (R5, R6). -/
def State.csrView (s : State) (a : Nat) : Word :=
  let w := (s.reg a).toNat
  let word := BitVec.ofNat 32
  match engOfAddr a, capOfAddr a, mcOfAddr a with
  | some e, _, _ => word (s.engView e (a % 0x1000) w)
  | _, some u, _ => word (s.capView u (a - capBase u) w)
  | _, _, some c => word (s.mcView c (a % 0x1000) w)
  | _, _, _ =>
    if a = 0x30 then word (putBit w 8 s.waitsHost)
    else if a = 0x38 then word s.now
    else if a = 0x40 then word (putBits w 0 7 s.dirtyGroups)
    else if a = 0x10000 then word s.vt.vt
    else if a = 0x10054 then word s.calFree
    else if inRange a 0x600200 0x600300 && a % 0x10 = 0 then word (putBit w 29 (s.allAlive ((a - 0x600200) / 0x10)))
    else if inRange a 0x601000 0x602000 then word (putBits w 4 2 (min 3 (s.recent ((a - 0x601000) / 4))))
    else if a = 0x900000 then word (putBits w 0 3 s.almState)
    else if inRange a 0x900300 0x900380 then word (putBit w 18 s.stale)
    else if a = 0xA00000 then word (putBit w 0 (s.flag ST_CTRL_HOLD))
    else s.reg a

/-- The bits of the register at address a that a read clears (R5, R8). -/
def rcMask (a : Nat) : Word :=
  match regAt a with
  | some (r, _, _) => BitVec.ofNat 32 r.rc
  | none => 0

/-- The latches that a read of a low half sets (R49, R127, R404). -/
def State.latch (s : State) (a : Nat) : State :=
  if a = 0x38 then s.put GLOBAL_UPTIME_HI_UPTIME (s.now / 2 ^ 32)
  else if a = 0x10000 then s.put VT_NOW_HI_VT (s.vt.vt / 2 ^ 32)
  else match engOfAddr a with
    | some e =>
      if a % 0x1000 = 0x20 then s.put (ENG_STIME_HI_STIME e) ((s.eng e).stime / 2 ^ 32)
      else if a % 0x1000 = 0x54 then
        (s.put (ENG_STG_CYC_HI_CYCLES e) (s.cyclesSent e / 2 ^ 32)).each (upFrom 0 4) fun t n =>
          t.put (ENG_STG_SIG_SIG e n) (s.signature e n)
      else s
    | none => s

/-- A read of the register at address a: the word, and the state after the read's own effects. -/
def State.csrRead (s : State) (a : Nat) : Word × State :=
  -- an event of the same FCLK cycle is kept for the next read (R8), in MC_ECC_SYMHOT with its symbol
  let x := s.freshAt a
  let hot := (mcOfAddr a).filter fun _ => a % 0x1000 = 0x54
  let m : Word := if hot.isSome && x.isSome then ~~~0 else rcMask a
  let w := match x with
    | some (b, _) => (s.csrView a &&& ~~~m) ||| (b &&& m)
    | none => s.csrView a
  let t := s.latch a
  let t := t.when (m ≠ 0) fun t => match x with
    | some (b, n) => { t.setReg a ((t.reg a &&& ~~~m) ||| (n &&& m)) with
        fresh := cput (fun _ => none) t.fresh a (some (b &&& ~~~m, n)) }
    | none => t.setReg a (t.reg a &&& ~~~m)
  (w, hot.elim t t.hotRead)

/-! Writes -/

/-- Does a plain write leave the register at address a alone, because the whole register has its own behaviour or the
instance is not fabricated (R50, R317, R328)? -/
def ownWrite (a : Nat) : Bool :=
  a = 0x10008 || a = 0x700020 ||
    (inRange a 0x801000 0x802000 && ! (gateBlocks.contains ((a - 0x801000) / 4) && (a - 0x801000) / 4 < 7 * 128))

/-- What a write does to the bits with no behaviour of their own (R5 to R7, R9): RW and RWP bits take the value, a 1
clears a W1C bit, but not one that the cube set in the same FCLK cycle (`set`); every other bit stays. -/
def RegRow.write (r : RegRow) (old v set : Word) : Word :=
  let m := BitVec.ofNat 32 r.rw ||| BitVec.ofNat 32 r.rwp
  let w := (old &&& ~~~m) ||| (v &&& m)
  w &&& ~~~(v &&& BitVec.ofNat 32 r.w1c &&& ~~~set)

/-- The plain part of a write. -/
def State.csrPlain (s : State) (a : Nat) (v : Word) : State :=
  if ownWrite a then s
  else match regAt a with
    | some (r, _, _) => s.setReg a (r.write (s.reg a) v ((s.freshAt a).elim 0 (·.2)))
    | none => s

/-- ENG_CTRL (STOP, REARM, START), CAP_CTRL and VLANE_CTRL. -/
def State.engCtrl (s : State) (e : Nat) (v : Nat) : State :=
  ((s.when (bit v 1) fun s => s.ctrlStop e).when (bit v 2) fun s => s.ctrlRearm e).when (bit v 0) fun s => s.ctrlStart e

def State.capCtrl (s : State) (u : Nat) (v : Nat) : State :=
  let p := bits v 16 4
  (((s.when (bit v 0) fun s => s.capFlush u).when (bit v 1) fun s => s.capResume u).when (bit v 2) fun s => s.capRcDump u p).when
    (bit v 3) fun s => s.capRcClear u p

def State.vlaneCtrl (s : State) (k : Nat) (v : Nat) : State :=
  let s := s.when (bit v 0) fun s => s.vlaneRetrain k
  let s := s.when (bit v 1) fun s => s.vlaneMoltTx k
  let s := s.when (bit v 2) fun s => s.vlaneMoltRx k
  let s := s.when (bit v 3) fun s => s.vlaneLbStart k (bits v 8 2) (bits v 16 16)
  s.when (bit v 4) fun s => s.vlaneLbStop k

/-- The command fields of channel controller c: MC_ECC_FLIP_CTRL, MC_REMAP_CTRL, MC_TRN_CTRL; and MC_ECC_CFG (R230). -/
def State.mcCtrl (s : State) (c o : Nat) (v : Nat) : State :=
  if o = 0xC8 then (s.when (bit v 1) fun s => s.flipDisarm c).when (bit v 0) fun s => s.flipArm c
  else if o = 0x40 then s.leakConfig c
  else if o = 0x140 then s.when (bit v 0) fun s => (s.remapCommit c).1
  else if o = 0x200 then (s.when (bit v 0) fun s => s.trainReq c).when (bit v 1) fun s => s.trainFull c
  else s

/-- RESUME of HLINK_DMA (R283). -/
def State.hDmaResume (s : State) : State := s.off HLINK_DMA_HALTED

/-- A retraining that a command asks for (R293): none while the data plane stands still. -/
def State.hRetrainCmd (s : State) (fresh : Bool) : State :=
  if s.paused then s else if fresh then s.hRetrainFresh else s.hRetrain

/-- A molt that a command asks for (R271, R272): it needs the spare of its direction in STANDBY. -/
def State.hMoltCmd (s : State) (tx : Bool) (l : Nat) : State :=
  if ! s.linkUp || (if tx then s.hTx 8 else s.hRx 8) ≠ lsStandby then s else s.hMolt tx l false

/-- HLINK_CTRL. -/
def State.hlinkCtrl (s : State) (v : Nat) : State :=
  let l := bits v 0 3
  let s := s.when (bit v 5) fun s => s.hMoltCmd true l
  let s := s.when (bit v 4) fun s => s.hMoltCmd false l
  let s := s.when (bit v 7) fun s => s.hRetrainCmd false
  s.when (bit v 6) fun s => s.hRetrainCmd true

/-- VT_COMMIT. -/
def State.vtCommit (s : State) (v : Nat) : State :=
  ((s.when (bit v 0) State.vtsetCommit).when (bit v 1) State.calCommit).when (bit v 2) State.holidayCommit

/-- CLKPWR_NMI (R7, R327): a cause that still holds stays set. -/
def State.nmiWrite (s : State) : State :=
  (s.setReg 0x800004 (s.reg 0x800004 ||| BitVec.ofNat 32 s.nmiHolds)).alertNow

/-- What a write to the register at address a starts, after its plain part. -/
def State.csrAct (s : State) (factory : Bool) (a : Nat) (v : Nat) : State :=
  match engOfAddr a, capOfAddr a, vlaneOfAddr a, mcOfAddr a with
  | some e, _, _, _ => if a % 0x1000 = 4 then s.engCtrl e v else s
  | _, some u, _, _ => if a = capBase u + 4 then s.capCtrl u v else s
  | _, _, some k, _ => if a % 0x1000 = 4 then s.vlaneCtrl k v else s
  | _, _, _, some c => s.mcCtrl c (a % 0x1000) v
  | _, _, _, _ =>
    if a = 0x20 then s.modeCmd (bits v 0 4) (bits v 4 3) (bits v 16 16) (bits v 8 8)
    else if a = 0x10008 then s.tickWrite (bits v 0 14)
    else if a = 0x10040 then s.vtCommit v
    else if a = 0x2000C then s.imgCmd (bits v 0 4) (bits v 16 16)
    else if a = 0x300004 then s.hlinkCtrl v
    else if a = 0x300014 then s.when (bit v 30) State.hDmaResume
    else if a = 0x430030 then s.when (bit v 8) fun s => s.layerSubst (bits v 0 5)
    else if a = 0x500008 then s.when (bit v 0) State.bwCommit
    else if a = FAULT_FE_STATUS_VALID.addr then s.when (bit v FAULT_FE_STATUS_VALID.lo) State.feClear
    else if a = 0x600004 then s.faultCtrl (bits v 16 10) (bit v 0) (bit v 1) (bit v 2)
    else if inRange a 0x600200 0x600300 && a % 0x10 = 0 then s.when (bit v 28) fun s => s.partAck ((a - 0x600200) / 0x10)
    else if a = 0x700018 then s.fuseWrite (bits v 0 4) factory
    else if a = 0x700020 then s.fuseOvr (bit v 1) (bit v 0) factory
    else if inRange a 0x700100 0x700300 then
      s.when (s.flag FUSE_OVR_ENABLE && factory) fun s => s.setReg a (BitVec.ofNat 32 v)
    else if a = 0x800004 then s.nmiWrite
    else if a = 0x800020 then (s.when (bit v 2) State.gateRetry).when (bit v 0) State.gateCommit
    else if a = 0x900004 then s.almCmd (bits v 0 4)
    else if inRange a 0x900040 0x900080 then s.fwWin []
    else if a = 0x900080 then s.when (bit v 8) State.calRequest
    else if a = 0xA00004 then s.when (bit v 1) State.abandonAll
    else s

/-- A write of v to the register at address a that has passed its checks. -/
def State.csrWrite (s : State) (factory : Bool) (a : Nat) (v : Word) : State := (s.csrPlain a v).csrAct factory a v.toNat

/-! Accesses of several registers (R280) -/

/-- The words of a payload. -/
def wordsOf (n : Nat) (bs : List Byte) : List Word := (upFrom 0 n).map fun i => BitVec.ofNat 32 (fieldAt bs (4 * i) 4)

/-- The first failing address of an access to consecutive registers, with its status. -/
def State.csrFirstBad (s : State) (write factory : Bool) (a : Nat) (vs : List Word) : Option (Nat × Nat) :=
  (vs.zip (upFrom 0 vs.length)).findSome? fun x =>
    let st := s.csrStatus write factory (a + 4 * x.2) x.1
    if st = 0 then none else some (st, a + 4 * x.2)

/-- Write consecutive registers in ascending order; the 64 B window of ALM_FW_WIN takes the whole write at once
(R341). -/
def State.csrWriteAll (s : State) (factory : Bool) (a : Nat) (vs : List Word) : State :=
  if inRange a 0x900040 0x900080 then s.fwWin (vs.flatMap fun w => natLe 4 w.toNat)
  else s.each (vs.zip (upFrom 0 vs.length)) fun s x => s.csrWrite factory (a + 4 * x.2) x.1

/-- Read consecutive registers in ascending order. -/
def State.csrReadAll (s : State) (a : Nat) : Nat → State × List Byte
  | 0 => (s, [])
  | n + 1 =>
    let r := s.csrRead a
    let t := r.2.csrReadAll (a + 4) n
    (t.1, natLe 4 r.1.toNat ++ t.2)

/-! The commands -/

/-- REGISTER_WRITE (R5): a write to the register at address 4 * reg; one that fails a check changes nothing. -/
def execRegisterWrite (reg : BitVec 22) (v : Word) (factory : Bool) (s : State) : Outcome :=
  .next (if s.sensed && s.csrStatus true factory (4 * reg.toNat) v = 0 then
      s.writeDone (s.csrWriteAll factory (4 * reg.toNat) [v]) else s)

/-- RC_READ (R8): a read of the register at address 4 * reg. -/
def execRcRead (reg : BitVec 22) (s : State) : Outcome :=
  .next (if s.sensed && s.csrStatus false false (4 * reg.toNat) 0 = 0 then (s.csrRead (4 * reg.toNat)).2 else s)

/-- VT_NOW_READ (R49). -/
def execVtNowRead (s : State) : Outcome := .next (s.csrRead 0x10000).2

/-- STG_CYC_READ (R127). -/
def execStgCycRead (e : Eng) (s : State) : Outcome := .next (s.csrRead (0x100054 + 0x1000 * e.val)).2

end Sys2Proof.Machine
end

