-- ==== Sys2Proof/Machine/HostPkt.lean ====
section
/-! DEFINITION. The host link's commands (chapter 13): link frames and replay, the host's packets, what the cube sends,
molts, width changes and bring-up. -/
namespace Sys2Proof.Machine
open Csr

/-! Link frames (R261, R262, R267 to R270) -/

/-- A packet fails its checks at step 2, 4 or 5 of R278. -/
def State.hProtocol (s : State) (f : Fld) : State := (s.inc f).on HLINK_EVENT_PROTOCOL

/-- n bytes of the stream have been dealt with. -/
def RxStream.consume (x : RxStream) (n : Nat) : RxStream :=
  { x with bytes := x.bytes.drop n, frames := drop n x.frames }
where
  /-- The frames left when n more bytes are gone. -/
  drop (n : Nat) : List (Nat × Nat × Nat) → List (Nat × Nat × Nat)
    | [] => []
    | f :: r => if f.2.2 ≤ n then drop (n - f.2.2) r else (f.1, f.2.1, f.2.2 - n) :: r

/-- An accepted frame's payload joins the stream (R269, R274). -/
def RxStream.join (x : RxStream) (fseq : Nat) (bs : List Byte) : RxStream :=
  let b := bs.drop x.skip
  { x with
    bytes := x.bytes ++ b, skip := x.skip - bs.length
    frames := if b.isEmpty then x.frames else x.frames ++ [(fseq, bs.length, b.length)] }

/-- The packet that complete bytes spell (R275), a header, its payload, a trailer. Bits that are 0 in it are not looked at
(DESIGN CHOICE, log 194). -/
def pktOf (bs : List Byte) : Pkt :=
  { tag := BitVec.ofNat 8 (fieldAt bs 1 1), len := BitVec.ofNat 16 (fieldAt bs 2 2), csr := bit (fieldAt bs 4 1) 0
    cube := BitVec.ofNat 3 (bits (fieldAt bs 4 1) 1 3), vc := BitVec.ofNat 2 (bits (fieldAt bs 4 1) 4 2)
    addr := BitVec.ofNat 48 (fieldAt bs 5 6), fence := bit (fieldAt bs 12 2) 0, count := BitVec.ofNat 16 (fieldAt bs 14 2)
    data := (bs.drop 16).take (16 * fieldAt bs 2 2) }

/-- Packet types that the host may send in data link frames (R276, R278): READ, WRITE, WRITE_POSTED, VTSET, CREDIT. -/
def typeKnown (t : Nat) : Bool := [1, 2, 3, 6, 7].contains t

/-- The bytes of a packet with a header of LENGTH len (R274). -/
def packetBytes (len : Nat) : Nat := 16 * (len + 2)

/-- The packets at the front of the stream that are complete are taken from it (R274), the first two checks of R278 made: IDLE
packets vanish, one whose CRC-32 fails asks for the frame that holds its first byte again, with what lies before it to be skipped
(R269), one of a type that is not allowed is discarded, any other goes to the packet layer. -/
def State.rxTake (s : State) : Nat → State
  | 0 => s
  | fuel + 1 =>
    let x := s.hl.rx
    let n := packetBytes (fieldAt x.bytes 2 2)
    let pass := fun (n : Nat) (got : List (Nat × Pkt)) => s.updHl fun h => { h with
      rx := { h.rx.consume n with got := h.rx.got ++ got } }
    if x.bytes.length < 16 then s
    else if (x.bytes.take 16).all fun b => b = 0 then (pass 16 []).rxTake fuel
    else if x.bytes.length < n then s
    else if crc32 (x.bytes.take (n - 16)) ≠ fieldAt x.bytes (n - 16) 4 then
      ((s.inc HLINK_DROP_CRC).updHl fun h => { h with
        rxNext := match x.frames with | f :: _ => f.1 | [] => h.rxNext
        rx := x.restart }).askReplay
    else if ! typeKnown (fieldAt x.bytes 0 1) then ((pass n []).hProtocol HLINK_DROP_PROTOCOL).rxTake fuel
    else (pass n [(fieldAt x.bytes 0 1, pktOf (x.bytes.take n))]).rxTake fuel

/-- Frames are acknowledged up to the one before the first packet that is not complete (R268). -/
def State.rxAck (s : State) : State :=
  s.updHl fun h => { h with ackOut := ((match h.rx.frames with | f :: _ => f.1 | [] => h.rxNext) + 4095) % 4096 }

/-- A data link frame with the FSEQ expected is accepted (R267), and its payload joins the byte stream. -/
def State.frameAccept (s : State) (fseq : Nat) (payload : List Byte) : State :=
  let s := s.updHl fun h => { h with
    rxNext := (fseq + 1) % 4096, await := false, rx := h.rx.join fseq (slice payload 0 s.frameBytes) }
  (s.rxTake (s.hl.rx.bytes.length / 16 + 1)).rxAck

/-- Does a logical lane of the width, in effect or to be, arrive on one of the physical RX lanes of a mask? -/
def State.hHurt (s : State) (lanes : Nat) : Bool :=
  (maskBits 9 lanes).any fun n => s.hLogRx n < (if s.linkUp then s.rd HLINK_STATUS_WIDTH else s.hWidth)

/-- LINK_FRAME_RX (R261, R265, R267, R268): `bad` marks the physical RX lanes whose lane frame fails its checks, `noComma`
those whose frame has no K28.5, `agree` says that the lanes agree; `low` is the payload of the logical lanes 0 to 3, `high` that of
the lanes 4 to 7, which count at width 8. -/
def execLinkFrameRx (typ : BitVec 4) (fseq ack : BitVec 12) (bad noComma : BitVec 9) (agree : Bool)
    (low high : List Byte) (s : State) : Outcome :=
  .next (if s.paused && ! s.linkUp then s
    else
      let hurt := s.hHurt (bad ||| noComma).toNat
      let s := s.each (upFrom 0 9) fun s n => s.hLaneFrame (bad.toNat.testBit n) (noComma.toNat.testBit n) n
      if hurt || ! agree then if typ = 1 && s.linkUp then s.askReplay else s
      else
        let s := if typ.toNat ≤ 1 then s.hTryUp.hWants else s
        if ! s.linkUp then s
        else
          let s := s.linkAck ack.toNat
          if typ ≠ 1 || fseq.toNat ≠ s.hl.rxNext then s
          else s.frameAccept fseq.toNat (slice low 0 512 ++ slice high 0 512))

/-- REPLAY_TIMEOUT (R269): REPLAY_TO passes, in the receiver with a requested frame not received, in the sender with its
oldest frame unacknowledged. -/
def execReplayTimeout (receiver : Bool) (s : State) : Outcome :=
  .next (if ! s.linkUp then s
    else if receiver then (if s.hl.await then s.askReplay else s)
    else if s.hl.buf.isEmpty then s else s.doReplay 0)

/-- Is an FSEQ one that the host has acknowledged since FRESH (R270)? -/
def Hlink.acknowledged (h : Hlink) (f : Nat) : Bool :=
  let old := match h.buf with | x :: _ => x.fseq | [] => h.txNext
  inRange (fseqDiff old f) 1 (min h.acked 2047 + 1)

/-- REPLAY (R269, R270): the host names the FSEQ it expects. -/
def execReplay (fseq : BitVec 12) (s : State) : Outcome :=
  .next (if ! s.linkUp then s
    else match findIx (fun f : TxLinkFrame => f.fseq = fseq.toNat) s.hl.buf with
      | some i => s.doReplay i
      | none =>
        if fseq.toNat = s.hl.txNext || s.hl.acknowledged fseq.toNat then s
        else (s.on HLINK_EVENT_PROTOCOL).hRetrainFresh)

/-! Packets (R278 to R286) -/

/-- DRAM access rules of R279, step 1. -/
def dramOk (p : Pkt) (write : Bool) : Bool :=
  let a := p.addr.toNat
  let n := p.count.toNat
  a % 16 = 0 && n % 16 = 0 && n ≤ 4096 && (n = 0 || a / 4096 = (a + n - 1) / 4096) && (! write || n = 16 * p.len.toNat)

/-- CSR access rules of R280. -/
def csrOk (p : Pkt) (write : Bool) : Bool :=
  let a := p.addr.toNat
  let n := p.count.toNat
  a % 4 = 0 && n % 4 = 0 && inRange n 4 65 && a / 64 = (a + n - 1) / 64 && a < 2 ^ 24 &&
    (! write || (p.len.toNat = ceilDiv n 16 && ((p.data.take (16 * p.len.toNat)).drop n).all fun b => b = 0))

/-- The refusal of a DRAM-space request (R279, R295): its status. -/
def State.dramRefusal (s : State) (q : HReq) : Option Nat :=
  let wr := decide (q.kind ≠ .read)
  if ! s.modes.memReady then some stNotReady
  else if ! dramOk q.pkt wr then some stMalformed
  else if 2 ^ 36 ≤ q.pkt.addr.toNat then some stAddrRange
  else if wr && q.pkt.count ≠ 0 && inSysRegion (offOf q.pkt.addr.toNat) then some stPrivilege
  else if s.flag HLINK_DMA_HALTED then some stDmaHalted
  else none

/-- A refused DRAM-space request leaves its evidence (R21, R279, R283). -/
def State.dramRefuse (s : State) (q : HReq) (st : Nat) : State :=
  let s := if st = stPrivilege then s.inc HLINK_SYSREG_REFUSED_COUNT else s
  let s := if st = stDmaHalted && q.kind = .posted then s.inc HLINK_DMA_POSTED_DROPPED else s
  s.hDone q st q.pkt.addr.toNat []

/-- The end of a DRAM access: an uncorrectable granule or an error response halts host DMA (R283). -/
def State.dramEnd (s : State) (q : HReq) (data : List Byte) : Option XferErr → State
  | none => s.hDone q stOk q.pkt.addr.toNat data
  | some x =>
    let st := if x.uncorrectable then stUncorrectable else stFabricError
    (s.hDmaHalt st x.addr).hDone q st x.addr []

/-- Execute a DRAM-space request (R279). -/
def State.hDram (s : State) (q : HReq) : State :=
  let a := q.pkt.addr.toNat
  let n := q.pkt.count.toNat
  if n = 0 then s.hDone q stOk a []
  else
    let s := s.wake (5 * 128 + 1)
    if q.kind = .read then
      let r := s.readMem (s.hostDmaAcc 1) a n
      r.1.dramEnd q r.2.1 r.2.2
    else
      let r := s.writeAll (s.hostDmaAcc 2) a (slice q.pkt.data 0 n)
      r.1.dramEnd q [] r.2

/-- Execute a CSR-space request (R280): every check before any access. -/
def State.hCsr (s : State) (q : HReq) : State :=
  let a := q.pkt.addr.toNat
  let n := q.pkt.count.toNat
  let wr := decide (q.kind ≠ .read)
  let vs := if wr then wordsOf (n / 4) q.pkt.data else List.replicate (n / 4) 0
  if ! csrOk q.pkt wr then s.hDone q stMalformed a []
  else match s.csrFirstBad wr false a vs with
    | some (st, b) => s.hDone q st b (if st = stBusy then List.replicate n 0 else [])
    | none =>
      if wr then
        (s.csrWriteAll false a vs).hDone q stOk a []
      else
        let r := s.csrReadAll a (n / 4)
        r.1.hDone q stOk a r.2

/-- Execute a VTSET (R286). -/
def State.hVtset (s : State) (q : HReq) : State :=
  let v := q.pkt.addr.toNat
  if q.pkt.len ≠ 0 || q.pkt.count ≠ 0 then s.hDone q stMalformed v []
  else
    let t := (s.put VT_SET_LO_VT v).put VT_SET_HI_VT (v / 2 ^ 32)
    t.vtsetCommit.hDone q (if t.vtsetRefusal.isSome then stRefused else stOk) v []

/-- Does a request act on CSR space, in order with the others that do (R281)? -/
def HReq.onCsr (q : HReq) : Bool := q.kind = .vtset || q.pkt.csr

/-- Must q take effect after the earlier request w (R281)? -/
def HReq.after (q w : HReq) : Bool :=
  if q.onCsr ≠ w.onCsr then false
  else if q.onCsr then true
  else
    let last := fun (x : HReq) => (x.pkt.addr.toNat + x.pkt.count.toNat - 1) / 64
    q.pkt.count ≠ 0 && w.pkt.count ≠ 0 && w.pkt.addr.toNat / 64 ≤ last q && q.pkt.addr.toNat / 64 ≤ last w

/-- Is it request q's turn, with these accepted before it and not completed (R281)? -/
def hTurn (before : List HReq) (q : HReq) : Bool :=
  ! (q.pkt.fence && ! before.isEmpty) && ! before.any fun w => q.after w

/-- The access of a DRAM-space request. -/
def State.hAcc (s : State) (q : HReq) : Acc := s.hostDmaAcc (if q.kind = .read then 1 else 2)

/-- Must request q wait at the host DMA port? -/
def State.hHeld (s : State) (q : HReq) : Bool :=
  ! q.onCsr && q.pkt.count ≠ 0 && s.memHeld (s.hAcc q) q.pkt.addr.toNat q.pkt.count.toNat

/-- May request q begin, with these accepted before it and not completed (R281)? A link that runs on in DEEP serves CSR
space alone (R398): the layers are in self-refresh. -/
def State.hMay (s : State) (before : List HReq) (q : HReq) : Bool :=
  hTurn before q && ! s.hHeld q && ! (s.paused && ! q.onCsr)

/-- A request whose turn it is waits at the host DMA port. -/
def State.hWait (s : State) (before : List HReq) (q : HReq) : State :=
  if hTurn before q && ! s.paused then s.portWait (s.hAcc q) q.pkt.addr.toNat q.pkt.count.toNat else s

/-- Execute an accepted request. -/
def State.hExec (s : State) (q : HReq) : State :=
  match q.kind with
  | .vtset => s.hVtset q
  | _ => if q.pkt.csr then s.hCsr q else s.hDram q

/-- Execute the accepted requests that may begin, from position i on. -/
def State.hServe (s : State) : Nat → Nat → State
  | 0, _ => s
  | fuel + 1, i =>
    if s.paused && ! s.linkUp then s
    else match s.hl.waiting[i]? with
      | none => s
      | some q =>
        if s.hMay (s.hl.waiting.take i) q then
          let s := s.updHl fun h => { h with waiting := h.waiting.eraseIdx i }
          (s.hExec q).hServe fuel i
        else (s.hWait (s.hl.waiting.take i) q).hServe fuel (i + 1)

/-- Serve every request that may begin. -/
def State.hServeAll (s : State) : State := (s.hServe (s.hl.waiting.length + 1) 0).resetServe

/-- Is a tag outstanding (R278 step 5)? -/
def Hlink.tagOpen (h : Hlink) (t : Nat) : Bool :=
  h.waiting.any (fun q => q.kind ≠ .posted && ! q.stale && q.pkt.tag.toNat = t) || h.rsp.any fun r => r.tag = t

/-- A packet for another cube (R290). -/
def State.hIdMismatch (s : State) (p : Pkt) : State :=
  let s := (s.inc HLINK_DROP_CUBE_ID).on HLINK_EVENT_ID_MISMATCH
  let s := s.on HLINK_EVENT_PROTOCOL
  if s.hl.idEvent.any fun t => s.now < t + 1000 then s
  else (s.updHl fun h => { h with idEvent := some s.now }).linkEvent 6 (s.reg 0x300010).toNat p.cube.toNat 0

/-- The units a packet's sender spent, and their return. -/
def State.hSpend (s : State) (posted : Bool) (n : Nat) : State :=
  s.updHl fun h => if posted then { h with free1 := h.free1 - n } else { h with free0 := h.free0 - n }
def State.hOwe (s : State) (posted : Bool) (n : Nat) : State :=
  s.updHl fun h => if posted then { h with owe1 := h.owe1 + n } else { h with owe0 := h.owe0 + n }

/-- A READ, WRITE, WRITE_POSTED or VTSET packet arrives (R278): its checks in order, then it is accepted, and what may
begin is executed. -/
def State.hPacket (s : State) (k : HKind) (p : Pkt) : State :=
  let posted := decide (k = .posted)
  let n := p.len.toNat + 2
  let free := if posted then s.hl.free1 else s.hl.free0
  if ! s.linkUp then s
  else if p.vc.toNat ≠ b2n posted then s.hProtocol HLINK_DROP_PROTOCOL
  else if p.cube.toNat ≠ s.rd HLINK_STATUS_CUBE_ID then
    ((s.hSpend posted (min n free)).hOwe posted (min n free)).hIdMismatch p
  else if free < n then s.hProtocol HLINK_DROP_CREDIT
  else
    let open_ := ! posted && s.hl.tagOpen p.tag.toNat
    let s := s.hSpend posted n
    if open_ then (s.hOwe posted n).hProtocol HLINK_DROP_PROTOCOL
    else
      let q := HReq.mk k p false
      match (if q.onCsr then none else s.dramRefusal q) with
      | some st => s.dramRefuse q st
      | none => (s.updHl fun h => { h with waiting := h.waiting ++ [q] }).hServeAll

/-- The packet layer takes the next packet that the byte stream has delivered, if it is the one of TYPE t that a command names
(R270: each exactly once, in order), and does f with it. -/
def State.rxServe (s : State) (t : Nat) (p : Pkt) (f : State → State) : State :=
  if s.linkUp && s.hl.rx.got.head? = some (t, p) then
    f (s.updHl fun h => { h with rx := { h.rx with got := h.rx.got.tail } })
  else s

/-- READ (R278 to R283). -/
def execLinkRead (p : Pkt) (s : State) : Outcome := .next (s.rxServe 1 p fun s => s.hPacket .read p)

/-- WRITE (R278 to R283). -/
def execLinkWrite (p : Pkt) (s : State) : Outcome := .next (s.rxServe 2 p fun s => s.hPacket .write p)

/-- WRITE_POSTED (R278 to R283). -/
def execLinkWritePosted (p : Pkt) (s : State) : Outcome := .next (s.rxServe 3 p fun s => s.hPacket .posted p)

/-- VTSET (R286). -/
def execLinkVtset (p : Pkt) (s : State) : Outcome := .next (s.rxServe 6 p fun s => s.hPacket .vtset p)

/-- A CREDIT returns units (R284): ADDRESS [35:24] VC2, [47:36] VC3; a host that has advertised no VC3 has none to return
(R285). -/
def State.hCredit (s : State) (p : Pkt) : State :=
  if p.vc ≠ 0 then s.hProtocol HLINK_DROP_PROTOCOL
  else s.updHl fun h => { h with
    cred2 := h.cred2 + bits p.addr.toNat 24 12
    cred3 := if s.rd HLINK_PEER_CRED_VC3 = 0 then h.cred3 else h.cred3 + bits p.addr.toNat 36 12 }

/-- CREDIT (R284, R285). -/
def execLinkCredit (p : Pkt) (s : State) : Outcome := .next (s.rxServe 7 p fun s => s.hCredit p)

/-! What the cube sends (R284, R285, R287) -/

/-- A CREDIT packet returns the units owed, at most 4095 of each VC (R284). -/
def State.sendCredit (s : State) : State :=
  let a := min 4095 s.hl.owe0
  let b := min 4095 s.hl.owe1
  if (a = 0 && b = 0) || ! s.bufRoom 32 then s
  else
    let s := s.updHl fun h => { h with
      owe0 := h.owe0 - a, free0 := h.free0 + a, owe1 := h.owe1 - b, free1 := h.free1 + b }
    s.sendBytes (packet 7 0 0 false (s.rd HLINK_STATUS_CUBE_ID) 0 (a + b * 2 ^ 12) 0 0 0 []) false

/-- The oldest RESPONSE goes out where VC2 credit and the replay buffer allow (R268, R285). -/
def State.sendResponse (s : State) : State :=
  match s.hl.rsp with
  | [] => s
  | r :: rest =>
    let len := ceilDiv r.data.length 16
    if s.hl.cred2 < len + 2 || ! s.bufRoom (16 * len + 32) then s
    else
      let s := s.updHl fun h => { h with rsp := rest, cred2 := h.cred2 - (len + 2) }
      s.sendBytes (packet 4 r.tag len r.csr (s.rd HLINK_STATUS_CUBE_ID) 2 r.addr r.status 0 r.count r.data) true

/-- What RESPONSE_SEND sends: the units owed and the oldest RESPONSE, an idle link frame where neither can go (R263,
R268). -/
def State.sendDue (s : State) : State :=
  let t := s.sendCredit.sendResponse
  if t.hl.txNext = s.hl.txNext then t.linkIdle else t

/-- RESPONSE_SEND (R281, R284, R285): requests that waited begin where they may now, and the link sends. -/
def execResponseSend (s : State) : Outcome :=
  .next (if ! s.linkUp then s
    else
      let t := s.hServeAll
      if ! t.linkUp then t else t.sendDue.resetServe)

/-- The payload of an EVENT (R287). -/
def Event.payload (e : Event) : List Byte :=
  natLe 6 e.vt ++ natLe 1 e.code ++ natLe 1 e.sub ++ natLe 8 e.detail ++ natLe 8 e.uptime ++ natLe 8 0

/-- EVENT_SEND (R285, R287, R289). -/
def execEventSend (s : State) : Outcome :=
  .next (match s.hl.evq with
    | [] => s
    | e :: rest =>
      if ! s.linkUp || s.rd HLINK_PEER_CRED_VC3 = 0 || s.hl.cred3 < 4 || ! s.bufRoom 64 then s
      else
        let fl := 2 * b2n s.hl.evLost
        let s := s.updHl fun h => { h with evq := rest, evLost := false, cred3 := h.cred3 - 4 }
        let s := s.put HLINK_EVQ_DEPTH rest.length
        s.sendBytes (packet 5 (e.seq % 256) 2 false (s.rd HLINK_STATUS_CUBE_ID) 3 e.addr 0 fl 0 e.payload) false)

/-! Molts, width, bring-up (R265, R271 to R273, R293) -/

/-- HLINK_MOLT_REQUEST (R272): the host sends MOLT (TX, L, 8, old). -/
def execHlinkMoltRequest (logical new old : BitVec 8) (s : State) : Outcome :=
  .next (if ! s.linkUp || new ≠ 8 || 8 ≤ old.toNat || s.hLogTx old.toNat ≠ logical.toNat || 8 ≤ logical.toNat then s
    else s.hMoltCmd true logical.toNat)

/-- HLINK_MOLT_ACK (R272): the answer to the MOLT that waits; the old lane goes OFF. -/
def execHlinkMoltAck (tag status : BitVec 8) (s : State) : Outcome :=
  .next (match s.hl.molt with
    | none => s
    | some (r, l, old, tx) =>
      if ! s.linkUp || tag.toNat ≠ r.tag || status ≠ 0 then s
      else
        let s := s.updHl fun h => { h with molt := none }
        let s := if tx then s.put (HLINK_LANE_TX_STATE old) lsOff
          else (((s.put (HLINK_LANE_LOG_RX 8) l).put (HLINK_LANE_RX_STATE 8) lsActive).put (HLINK_LANE_LOG_RX old) 0xFF).put
            (HLINK_LANE_RX_STATE old) lsOff
        (s.hMoltDone l (b2n tx) old 8).hWants)

/-- HLINK_WIDTH_CHANGE (R273): lane n of a direction fails with the spare in use. -/
def execHlinkWidthChange (tx : Bool) (n : Fin 9) (s : State) : Outcome :=
  .next (if ! s.linkUp || (if tx then s.hLogTx n else s.hLogRx n) = 0xFF ||
      ! s.hSpareGone tx then s
    else s.hLaneFails tx n)

/-- HLINK_BRINGUP_TIMEOUT (R265): not UP within 5 ms; DOWN, and a retry from DETECT. -/
def execHlinkBringupTimeout (s : State) : Outcome :=
  .next (if s.linkUp || s.paused then s
    else (s.hRetrain.put HLINK_STATUS_STATE 0).inc HLINK_STATUS_ATTEMPTS)

/-- HLINK_RETRAIN (R293). -/
def execHlinkRetrain (s : State) : Outcome := .next (s.hRetrainCmd false)

/-- HLINK_FRESH (R294). -/
def execHlinkFresh (s : State) : Outcome := .next (s.hRetrainCmd true)

/-- HLINK_MOLT_TX (R271, R272). -/
def execHlinkMoltTx (l : Fin 8) (s : State) : Outcome := .next (s.hMoltCmd true l)

/-- HLINK_MOLT_RX (R271, R272). -/
def execHlinkMoltRx (l : Fin 8) (s : State) : Outcome := .next (s.hMoltCmd false l)

/-- HLINK_DMA_RESUME (R283). -/
def execHlinkDmaResume (s : State) : Outcome := .next s.hDmaResume

end Sys2Proof.Machine
end

