-- ==== Sys2Proof/Machine/Tap.lean ====
section
/-! DEFINITION. The test port's instructions (R389, R291, R292). -/
namespace Sys2Proof.Machine
open Csr

/-- Change the test access port. -/
def State.updTap (s : State) (f : TapUnit → TapUnit) : State := { s with tap := f s.tap }

/-- An instruction takes effect: its code, what its data register captures, what drives the pins. -/
def State.tapSet (s : State) (ir dr : Nat) (d : Drive) : State :=
  s.updTap fun t => { t with ir := ir, dr := dr, drive := d, layer := none, wrap := none, waits := none }

/-- BYPASS: a register of one bit that captures 0. -/
def State.tapBypass (s : State) : State := s.tapSet 0xFF 0 .core

/-- An instruction that needs factory access: BYPASS before fuse sensing ends and after the factory lock (R292, R389). -/
def State.tapFactory (s : State) (ir : Nat) (f : State → State) : State :=
  if s.factoryPort then f (s.tapSet ir 0 .core) else s.tapBypass

/-- Does TDO drive (R427)? -/
def State.tdoDrives (s : State) : Bool := s.tap.ctl ≠ .other

/-- TRST_N_RESET (R389): IDCODE is in effect, the core drives the pins. -/
def execTrstNReset (s : State) : Outcome := .next (s.updTap fun _ => {})

/-- BYPASS (R389). -/
def execTapBypass (s : State) : Outcome := .next s.tapBypass

/-- IDCODE (R389): version 1, part 0x1664, manufacturer 0x359. -/
def execTapIdcode (s : State) : Outcome := .next (s.tapSet 0x01 0x116646B3 .core)

/-- SAMPLE/PRELOAD (R389): the cells sample the pins and take the preload; the core goes on driving. -/
def execSamplePreload (sample preload : List Bool) (s : State) : Outcome :=
  .next ((s.tapSet 0x02 0 .core).updTap fun t => { t with sampled := sample, cells := preload })

/-- EXTEST (R389): the cells drive the pins. -/
def execTapExtest (s : State) : Outcome := .next (s.tapSet 0x03 0 .cells)

/-- CLAMP (R389): the cells drive the outputs, with the bypass register selected. -/
def execTapClamp (s : State) : Outcome := .next (s.tapSet 0x04 0 .cells)

/-- HIGHZ (R389). -/
def execTapHighz (s : State) : Outcome := .next (s.tapSet 0x05 0 .highZ)

/-- EXTEST_PULSE (R389). -/
def execExtestPulse (s : State) : Outcome := .next (s.tapSet 0x06 0 .pulse)

/-- EXTEST_TRAIN (R389). -/
def execExtestTrain (s : State) : Outcome := .next (s.tapSet 0x07 0 .train)

/-- Does an access of n consecutive registers keep to the limits of R280? -/
def csrRange (a n : Nat) : Bool := inRange n 1 17 && a / 64 = (a + 4 * n - 1) / 64

/-- The access of CSR_ACCESS, under the rules of R280: a read captures the words, a write changes the registers; one that
fails a check changes nothing. -/
def State.tapCsr (s : State) (a : Nat) : CsrAcc → State
  | .write vs =>
    if csrRange a vs.length && (s.csrFirstBad true true a vs).isNone then s.writeDone (s.csrWriteAll true a vs) else s
  | .read n =>
    if csrRange a n && (s.csrFirstBad false true a (List.replicate n 0)).isNone then
      let r := s.csrReadAll a n
      r.1.updTap fun t => { t with dr := leNat r.2 }
    else s

/-- CSR_ACCESS (R389): the registers from address 4 * reg on, at factory privilege. -/
def execCsrAccess (reg : BitVec 22) (acc : CsrAcc) (s : State) : Outcome :=
  .next (s.tapFactory 0x10 fun s => s.tapCsr (4 * reg.toNat) acc)

/-- The raw access of LAYER_SEL to the granules of physical channel 2 * layer + half, below the code, the channel map and
the remap slots (R291). -/
def State.rawAccess (s : State) (layer : Nat) : RawAcc → State
  | .select => s
  | .read h g => s.updTap fun t => { t with
      dr := leNat (s.arrBytes (2 * layer + h.val) g.toNat) +
        (s.arrMask (2 * layer + h.val) g.toNat).toNat * 2 ^ 512 }
  | .write h g d m => s.arrPut (2 * layer + h.val) g.toNat (natLe 64 d.toNat) m

/-- LAYER_SEL (R389). -/
def execLayerSel (layer : Fin 17) (acc : RawAcc) (s : State) : Outcome :=
  .next (s.tapFactory 0x11 fun s => (s.updTap fun t => { t with layer := some layer.val }).rawAccess layer.val acc)

/-- A WRAP_SEL access to engine e: it waits while a slice tests the engine; it is refused, and then BYPASS, unless the
engine is UNBOUND, SPARE or RETIRED. -/
def State.wrapSel (s : State) (e : Nat) : State :=
  if s.factoryPort && s.st.slices.any (fun x => x.target = srcEng e) then s.updTap fun t => { t with waits := some e }
  else if ! [0, 6, 7].contains (s.engState e) then s.tapBypass
  else s.tapFactory 0x12 fun s => s.updTap fun t => { t with wrap := some e }

/-- WRAP_SEL (R389). -/
def execWrapSel (e : Eng) (s : State) : Outcome := .next (s.wrapSel e)

/-- A WRAP_SEL access that waits is taken once no slice tests its engine: looked at in every FCLK cycle. -/
def State.wrapServe (s : State) : State :=
  match s.tap.waits with
  | some e => s.wrapSel e
  | none => s

end Sys2Proof.Machine
end

