-- ==== Sys2Proof/Machine/Dispatch.lean ====
section
/-! DEFINITION. Which meaning runs which command. -/
namespace Sys2Proof.Machine

def exec (i : Instr) (s : State) : Host.Outcome State Fault Refusal :=
  match i with
  | .registerWrite reg v factory => Sys2Proof.Machine.execRegisterWrite reg v factory s
  | .rcRead reg => Sys2Proof.Machine.execRcRead reg s
  | .vtNowRead => Sys2Proof.Machine.execVtNowRead s
  | .stgCycRead e => Sys2Proof.Machine.execStgCycRead e s
  | .imageLoad => Sys2Proof.Machine.execImageLoad s
  | .imageCopyComplete => Sys2Proof.Machine.execImageCopyComplete s
  | .imageValidate => Sys2Proof.Machine.execImageValidate s
  | .validationComplete => Sys2Proof.Machine.execValidationComplete s
  | .imageApply parts => Sys2Proof.Machine.execImageApply parts s
  | .imageDiscard => Sys2Proof.Machine.execImageDiscard s
  | .imageBadCmd => Sys2Proof.Machine.execImageBadCmd s
  | .applyEpoch => Sys2Proof.Machine.execApplyEpoch s
  | .vtTickPsWrite v => Sys2Proof.Machine.execVtTickPsWrite v s
  | .tsyncEdge => Sys2Proof.Machine.execTsyncEdge s
  | .tsyncMissing => Sys2Proof.Machine.execTsyncMissing s
  | .vtsetCommit => Sys2Proof.Machine.execVtsetCommit s
  | .calCommit => Sys2Proof.Machine.execCalCommit s
  | .holidayCommit => Sys2Proof.Machine.execHolidayCommit s
  | .applyImage n => Sys2Proof.Machine.execApplyImage n s
  | .calMode n => Sys2Proof.Machine.execCalMode n s
  | .holidayBegin n => Sys2Proof.Machine.execHolidayBegin n s
  | .holidayEnd n => Sys2Proof.Machine.execHolidayEnd n s
  | .holidayExpiry => Sys2Proof.Machine.execHolidayExpiry s
  | .norefOpen n => Sys2Proof.Machine.execNorefOpen n s
  | .norefClose n => Sys2Proof.Machine.execNorefClose n s
  | .norefWindowExpiry => Sys2Proof.Machine.execNorefWindowExpiry s
  | .capOpen n => Sys2Proof.Machine.execCapOpen n s
  | .capClose n => Sys2Proof.Machine.execCapClose n s
  | .taskStart n => Sys2Proof.Machine.execTaskStart n s
  | .taskStop n => Sys2Proof.Machine.execTaskStop n s
  | .nop e => Sys2Proof.Machine.execNop e s
  | .add e gd ga gb => Sys2Proof.Machine.execAdd e gd ga gb s
  | .sub e gd ga gb => Sys2Proof.Machine.execSub e gd ga gb s
  | .andReg e gd ga gb => Sys2Proof.Machine.execAndReg e gd ga gb s
  | .orReg e gd ga gb => Sys2Proof.Machine.execOrReg e gd ga gb s
  | .xorReg e gd ga gb => Sys2Proof.Machine.execXorReg e gd ga gb s
  | .shl e gd ga gb => Sys2Proof.Machine.execShl e gd ga gb s
  | .shr e gd ga gb => Sys2Proof.Machine.execShr e gd ga gb s
  | .mov e op => Sys2Proof.Machine.execMov e op s
  | .addImm e gd ga imm => Sys2Proof.Machine.execAddImm e gd ga imm s
  | .andImm e gd ga imm => Sys2Proof.Machine.execAndImm e gd ga imm s
  | .orImm e gd ga imm => Sys2Proof.Machine.execOrImm e gd ga imm s
  | .xorImm e gd ga imm => Sys2Proof.Machine.execXorImm e gd ga imm s
  | .shlImm e gd ga sh => Sys2Proof.Machine.execShlImm e gd ga sh s
  | .shrImm e gd ga sh => Sys2Proof.Machine.execShrImm e gd ga sh s
  | .li e gd op => Sys2Proof.Machine.execLi e gd op s
  | .ld e gd ga imm upset => Sys2Proof.Machine.execLd e gd ga imm upset s
  | .st e gd ga imm => Sys2Proof.Machine.execSt e gd ga imm s
  | .drq e t ga gb write => Sys2Proof.Machine.execDrq e t ga gb write s
  | .drqComplete e t upsets => Sys2Proof.Machine.execDrqComplete e t upsets s
  | .drqDmaHalt e t upsets => Sys2Proof.Machine.execDrqDmaHalt e t upsets s
  | .dwt e mask => Sys2Proof.Machine.execDwt e mask s
  | .aset e gd ga => Sys2Proof.Machine.execAset e gd ga s
  | .ainc e mode => Sys2Proof.Machine.execAinc e mode s
  | .ascr e t ga upsets => Sys2Proof.Machine.execAscr e t ga upsets s
  | .dgset e ga => Sys2Proof.Machine.execDgset e ga s
  | .dginv e op => Sys2Proof.Machine.execDginv e op s
  | .dgchk e xbit ybit chk => Sys2Proof.Machine.execDgchk e xbit ybit chk s
  | .dglfsr e ga op => Sys2Proof.Machine.execDglfsr e ga op s
  | .emit e src mask flags => Sys2Proof.Machine.execEmit e src mask flags s
  | .emitn e src mask rep flags => Sys2Proof.Machine.execEmitn e src mask rep flags s
  | .emitStallResume e eclk => Sys2Proof.Machine.execEmitStallResume e eclk s
  | .vstream e ga gb merge => Sys2Proof.Machine.execVstream e ga gb merge s
  | .vectorDmaFetch e upsets => Sys2Proof.Machine.execVectorDmaFetch e upsets s
  | .vstreamDmaHalt e => Sys2Proof.Machine.execVstreamDmaHalt e s
  | .loop e lc ga off => Sys2Proof.Machine.execLoop e lc ga off s
  | .endl e lc => Sys2Proof.Machine.execEndl e lc s
  | .mark e => Sys2Proof.Machine.execMark e s
  | .rewind e ga => Sys2Proof.Machine.execRewind e ga s
  | .release e => Sys2Proof.Machine.execRelease e s
  | .waitvt e ga real tol => Sys2Proof.Machine.execWaitvt e ga real tol s
  | .waitvtRealResume e => Sys2Proof.Machine.execWaitvtRealResume e s
  | .bar e mask id => Sys2Proof.Machine.execBar e mask id s
  | .barTimeout e => Sys2Proof.Machine.execBarTimeout e s
  | .sig e code notify => Sys2Proof.Machine.execSig e code notify s
  | .br e cond off => Sys2Proof.Machine.execBr e cond off s
  | .call e cond off => Sys2Proof.Machine.execCall e cond off s
  | .ret e fromTrap => Sys2Proof.Machine.execRet e fromTrap s
  | .trap e imm => Sys2Proof.Machine.execTrap e imm s
  | .halt e => Sys2Proof.Machine.execHalt e s
  | .haltComplete e => Sys2Proof.Machine.execHaltComplete e s
  | .illegalInstruction e => Sys2Proof.Machine.execIllegalInstruction e s
  | .icacheLineFill e => Sys2Proof.Machine.execIcacheLineFill e s
  | .taskPreparationDone e => Sys2Proof.Machine.execTaskPreparationDone e s
  | .engStart e => Sys2Proof.Machine.execEngStart e s
  | .engStop e => Sys2Proof.Machine.execEngStop e s
  | .engRearm e => Sys2Proof.Machine.execEngRearm e s
  | .flushRow e => Sys2Proof.Machine.execFlushRow e s
  | .stageHoldStall e => Sys2Proof.Machine.execStageHoldStall e s
  | .txDataFrame k upsets => Sys2Proof.Machine.execTxDataFrame k upsets s
  | .txIdleFrame k => Sys2Proof.Machine.execTxIdleFrame k s
  | .rxDataFrame k count vt credit payload => Sys2Proof.Machine.execRxDataFrame k count vt credit payload s
  | .rxIdleFrame k credit => Sys2Proof.Machine.execRxIdleFrame k credit s
  | .rxFrameError k why => Sys2Proof.Machine.execRxFrameError k why s
  | .laneNoValidFrame l => Sys2Proof.Machine.execLaneNoValidFrame l s
  | .configAck k tag status credit => Sys2Proof.Machine.execConfigAck k tag status credit s
  | .loopbackAck k tag status credit => Sys2Proof.Machine.execLoopbackAck k tag status credit s
  | .creditSync k tag total credit => Sys2Proof.Machine.execCreditSync k tag total credit s
  | .moltAck k tag status credit => Sys2Proof.Machine.execMoltAck k tag status credit s
  | .peerStatus k tag late discards gaps credit => Sys2Proof.Machine.execPeerStatus k tag late discards gaps credit s
  | .rxContentIgnored k credit => Sys2Proof.Machine.execRxContentIgnored k credit s
  | .ctrlRequestResend l => Sys2Proof.Machine.execCtrlRequestResend l s
  | .laneCtrlTimeout l => Sys2Proof.Machine.execLaneCtrlTimeout l s
  | .receiverDetect l found => Sys2Proof.Machine.execReceiverDetect l found s
  | .laneBitLock l => Sys2Proof.Machine.execLaneBitLock l s
  | .trainingSetRx l tb valid cubeId logical => Sys2Proof.Machine.execTrainingSetRx l tb valid cubeId logical s
  | .trainingFrameRx l valid payload => Sys2Proof.Machine.execTrainingFrameRx l valid payload s
  | .laneTrainTimeout l => Sys2Proof.Machine.execLaneTrainTimeout l s
  | .laneAbsent k => Sys2Proof.Machine.execLaneAbsent k s
  | .laneRetrain k => Sys2Proof.Machine.execLaneRetrain k s
  | .moltTx k => Sys2Proof.Machine.execMoltTx k s
  | .moltRx k => Sys2Proof.Machine.execMoltRx k s
  | .lbStart k mode frames => Sys2Proof.Machine.execLbStart k mode frames s
  | .lbStop k => Sys2Proof.Machine.execLbStop k s
  | .loopbackComplete k => Sys2Proof.Machine.execLoopbackComplete k s
  | .echoEntryExpiry u => Sys2Proof.Machine.execEchoEntryExpiry u s
  | .gapRecordClose u => Sys2Proof.Machine.execGapRecordClose u s
  | .captureDmaWriteComplete u => Sys2Proof.Machine.execCaptureDmaWriteComplete u s
  | .segmentHeaderWrite u p => Sys2Proof.Machine.execSegmentHeaderWrite u p s
  | .segmentHeaderReread u p => Sys2Proof.Machine.execSegmentHeaderReread u p s
  | .mapFillComplete u => Sys2Proof.Machine.execMapFillComplete u s
  | .mapLineAgeFlush u => Sys2Proof.Machine.execMapLineAgeFlush u s
  | .mapWritebackComplete u => Sys2Proof.Machine.execMapWritebackComplete u s
  | .mapPartitionFlush u p => Sys2Proof.Machine.execMapPartitionFlush u p s
  | .capFlush u => Sys2Proof.Machine.execCapFlush u s
  | .dmaResume u => Sys2Proof.Machine.execDmaResume u s
  | .rcDump u p => Sys2Proof.Machine.execRcDump u p s
  | .rcDumpDone u => Sys2Proof.Machine.execRcDumpDone u s
  | .rcClear u p => Sys2Proof.Machine.execRcClear u p s
  | .mcRequest k master port write gran off data => Sys2Proof.Machine.execMcRequest k master port write gran off data s
  | .arrayReadComplete c upset => Sys2Proof.Machine.execArrayReadComplete c upset s
  | .writeBufferDrain c upsets => Sys2Proof.Machine.execWriteBufferDrain c upsets s
  | .rowCloseTimeout c b => Sys2Proof.Machine.execRowCloseTimeout c b s
  | .refreshDue c b => Sys2Proof.Machine.execRefreshDue c b s
  | .refreshIssue c b => Sys2Proof.Machine.execRefreshIssue c b s
  | .norefPrepare c => Sys2Proof.Machine.execNorefPrepare c s
  | .neighbourRefresh c => Sys2Proof.Machine.execNeighbourRefresh c s
  | .layerTempSample readings => Sys2Proof.Machine.execLayerTempSample readings s
  | .tripExit => Sys2Proof.Machine.execTripExit s
  | .chmapCommit map => Sys2Proof.Machine.execChmapCommit map s
  | .chmapSwitch => Sys2Proof.Machine.execChmapSwitch s
  | .regulatorRelease k c master port => Sys2Proof.Machine.execRegulatorRelease k c master port s
  | .bwCommit => Sys2Proof.Machine.execBwCommit s
  | .leakyBucketLeak c => Sys2Proof.Machine.execLeakyBucketLeak c s
  | .remapAllocate c => Sys2Proof.Machine.execRemapAllocate c s
  | .remapCommit c host => Sys2Proof.Machine.execRemapCommit c host s
  | .rowRepair c => Sys2Proof.Machine.execRowRepair c s
  | .eccFlipArm c => Sys2Proof.Machine.execEccFlipArm c s
  | .eccFlipDisarm c => Sys2Proof.Machine.execEccFlipDisarm c s
  | .channelFullTraining c run => Sys2Proof.Machine.execChannelFullTraining c run s
  | .retrainPeriodDue c => Sys2Proof.Machine.execRetrainPeriodDue c s
  | .trainReq c => Sys2Proof.Machine.execTrainReq c s
  | .trainFull c => Sys2Proof.Machine.execTrainFull c s
  | .trainOverdue c => Sys2Proof.Machine.execTrainOverdue c s
  | .tsvDqRepair c pc sound sweep => Sys2Proof.Machine.execTsvDqRepair c pc sound sweep s
  | .layerSubstitution n even odd dead w0 w1 => Sys2Proof.Machine.execLayerSubstitution n even odd dead w0 w1 s
  | .migrationGranuleCopy c upset => Sys2Proof.Machine.execMigrationGranuleCopy c upset s
  | .migrationComplete => Sys2Proof.Machine.execMigrationComplete s
  | .layerSubst layer => Sys2Proof.Machine.execLayerSubst layer s
  | .linkFrameRx typ fseq ack bad noComma agree low high => Sys2Proof.Machine.execLinkFrameRx typ fseq ack bad noComma agree low high s
  | .replayTimeout receiver => Sys2Proof.Machine.execReplayTimeout receiver s
  | .replay fseq => Sys2Proof.Machine.execReplay fseq s
  | .linkRead p => Sys2Proof.Machine.execLinkRead p s
  | .linkWrite p => Sys2Proof.Machine.execLinkWrite p s
  | .linkWritePosted p => Sys2Proof.Machine.execLinkWritePosted p s
  | .linkVtset p => Sys2Proof.Machine.execLinkVtset p s
  | .linkCredit p => Sys2Proof.Machine.execLinkCredit p s
  | .responseSend => Sys2Proof.Machine.execResponseSend s
  | .eventSend => Sys2Proof.Machine.execEventSend s
  | .hlinkMoltRequest logical new old => Sys2Proof.Machine.execHlinkMoltRequest logical new old s
  | .hlinkMoltAck tag status => Sys2Proof.Machine.execHlinkMoltAck tag status s
  | .hlinkWidthChange tx n => Sys2Proof.Machine.execHlinkWidthChange tx n s
  | .hlinkBringupTimeout => Sys2Proof.Machine.execHlinkBringupTimeout s
  | .hlinkRetrain => Sys2Proof.Machine.execHlinkRetrain s
  | .hlinkFresh => Sys2Proof.Machine.execHlinkFresh s
  | .hlinkMoltTx l => Sys2Proof.Machine.execHlinkMoltTx l s
  | .hlinkMoltRx l => Sys2Proof.Machine.execHlinkMoltRx l s
  | .hlinkDmaResume => Sys2Proof.Machine.execHlinkDmaResume s
  | .fuseSenseComplete weak tight lockWeak lockTight => Sys2Proof.Machine.execFuseSenseComplete weak tight lockWeak lockTight s
  | .fuseProgram factory => Sys2Proof.Machine.execFuseProgram factory s
  | .fuseStrengthen factory => Sys2Proof.Machine.execFuseStrengthen factory s
  | .fuseAdvance factory => Sys2Proof.Machine.execFuseAdvance factory s
  | .fuseCommandComplete most good blown unread weak => Sys2Proof.Machine.execFuseCommandComplete most good blown unread weak s
  | .fuseOvrWrite hold enable factory => Sys2Proof.Machine.execFuseOvrWrite hold enable factory s
  | .pllUnlock i0 => Sys2Proof.Machine.execPllUnlock i0 s
  | .pllRelock i0 => Sys2Proof.Machine.execPllRelock i0 s
  | .pllRelockTimeout i0 => Sys2Proof.Machine.execPllRelockTimeout i0 s
  | .clockMonitorWindow count => Sys2Proof.Machine.execClockMonitorWindow count s
  | .gateRequest n => Sys2Proof.Machine.execGateRequest n s
  | .gateComplete n => Sys2Proof.Machine.execGateComplete n s
  | .gateWaitTimeout n => Sys2Proof.Machine.execGateWaitTimeout n s
  | .gateWake n => Sys2Proof.Machine.execGateWake n s
  | .gateIdleRegate n => Sys2Proof.Machine.execGateIdleRegate n s
  | .gateCommit => Sys2Proof.Machine.execGateCommit s
  | .gateRetry => Sys2Proof.Machine.execGateRetry s
  | .phaseFault p => Sys2Proof.Machine.execPhaseFault p s
  | .railFault r => Sys2Proof.Machine.execRailFault r s
  | .vinExcursion => Sys2Proof.Machine.execVinExcursion s
  | .pwrokRise vinOk straps => Sys2Proof.Machine.execPwrokRise vinOk straps s
  | .pwrokFall => Sys2Proof.Machine.execPwrokFall s
  | .resetNAssert ns => Sys2Proof.Machine.execResetNAssert ns s
  | .resetNDeassert straps => Sys2Proof.Machine.execResetNDeassert straps s
  | .railRampComplete => Sys2Proof.Machine.execRailRampComplete s
  | .pllLock i0 => Sys2Proof.Machine.execPllLock i0 s
  | .almOpen => Sys2Proof.Machine.execAlmOpen s
  | .almFwWinWrite data => Sys2Proof.Machine.execAlmFwWinWrite data s
  | .bootFw => Sys2Proof.Machine.execBootFw s
  | .almOverlay => Sys2Proof.Machine.execAlmOverlay s
  | .almUpdate => Sys2Proof.Machine.execAlmUpdate s
  | .fwUpdateRestart => Sys2Proof.Machine.execFwUpdateRestart s
  | .fwReverted => Sys2Proof.Machine.execFwReverted s
  | .fwAntirollbackAdvance => Sys2Proof.Machine.execFwAntirollbackAdvance s
  | .siteSample elems rails phases vin power => Sys2Proof.Machine.execSiteSample elems rails phases vin power s
  | .almCalReq => Sys2Proof.Machine.execAlmCalReq s
  | .calibrationComplete siteDiff voltDiff coef vcoef pairs deltas => Sys2Proof.Machine.execCalibrationComplete siteDiff voltDiff coef vcoef pairs deltas s
  | .logCopy => Sys2Proof.Machine.execLogCopy s
  | .sbDoorbell => Sys2Proof.Machine.execSbDoorbell s
  | .sbPointerWrite ptr data => Sys2Proof.Machine.execSbPointerWrite ptr data s
  | .sbRespLastRead => Sys2Proof.Machine.execSbRespLastRead s
  | .i3cCcc c => Sys2Proof.Machine.execI3cCcc c s
  | .readSensors => Sys2Proof.Machine.execReadSensors s
  | .readSites => Sys2Proof.Machine.execReadSites s
  | .readLog => Sys2Proof.Machine.execReadLog s
  | .readStatus => Sys2Proof.Machine.execReadStatus s
  | .reqReset => Sys2Proof.Machine.execReqReset s
  | .reqDeep => Sys2Proof.Machine.execReqDeep s
  | .fwBegin => Sys2Proof.Machine.execFwBegin s
  | .fwData => Sys2Proof.Machine.execFwData s
  | .fwEnd => Sys2Proof.Machine.execFwEnd s
  | .faultMessageTake => Sys2Proof.Machine.execFaultMessageTake s
  | .quietPeriodExpiry unit => Sys2Proof.Machine.execQuietPeriodExpiry unit s
  | .faultFence unit => Sys2Proof.Machine.execFaultFence unit s
  | .faultUnfence unit => Sys2Proof.Machine.execFaultUnfence unit s
  | .faultRetire unit => Sys2Proof.Machine.execFaultRetire unit s
  | .faultAck p => Sys2Proof.Machine.execFaultAck p s
  | .sliceStart kind target part => Sys2Proof.Machine.execSliceStart kind target part s
  | .sliceComplete kind target part res => Sys2Proof.Machine.execSliceComplete kind target part res s
  | .sliceBudgetExpiry kind target part => Sys2Proof.Machine.execSliceBudgetExpiry kind target part s
  | .abandon => Sys2Proof.Machine.execAbandon s
  | .startupSelftest => Sys2Proof.Machine.execStartupSelftest s
  | .startupSetComplete weak => Sys2Proof.Machine.execStartupSetComplete weak s
  | .memoryTrainingComplete => Sys2Proof.Machine.execMemoryTrainingComplete s
  | .setMode mode parts => Sys2Proof.Machine.execSetMode mode parts s
  | .partitionStart parts => Sys2Proof.Machine.execPartitionStart parts s
  | .modeCommandEffect => Sys2Proof.Machine.execModeCommandEffect s
  | .partitionDrained p => Sys2Proof.Machine.execPartitionDrained p s
  | .deepEnter => Sys2Proof.Machine.execDeepEnter s
  | .deepExit => Sys2Proof.Machine.execDeepExit s
  | .deepExitComplete => Sys2Proof.Machine.execDeepExitComplete s
  | .modeReset key => Sys2Proof.Machine.execModeReset key s
  | .modeBadCmd => Sys2Proof.Machine.execModeBadCmd s
  | .trstNReset => Sys2Proof.Machine.execTrstNReset s
  | .tapBypass => Sys2Proof.Machine.execTapBypass s
  | .tapIdcode => Sys2Proof.Machine.execTapIdcode s
  | .samplePreload sample preload => Sys2Proof.Machine.execSamplePreload sample preload s
  | .tapExtest => Sys2Proof.Machine.execTapExtest s
  | .tapClamp => Sys2Proof.Machine.execTapClamp s
  | .tapHighz => Sys2Proof.Machine.execTapHighz s
  | .extestPulse => Sys2Proof.Machine.execExtestPulse s
  | .extestTrain => Sys2Proof.Machine.execExtestTrain s
  | .csrAccess reg acc => Sys2Proof.Machine.execCsrAccess reg acc s
  | .layerSel layer acc => Sys2Proof.Machine.execLayerSel layer acc s
  | .wrapSel e => Sys2Proof.Machine.execWrapSel e s
  | .pllSwitchoverComplete => Sys2Proof.Machine.execPllSwitchoverComplete s
  | .fuseSenseTimeout => Sys2Proof.Machine.execFuseSenseTimeout s
  | .pllLockTimeout => Sys2Proof.Machine.execPllLockTimeout s
  | .fwUpdateReady => Sys2Proof.Machine.execFwUpdateReady s
  | .partitionWakeComplete p => Sys2Proof.Machine.execPartitionWakeComplete p s
  | .vauxUndervoltage => Sys2Proof.Machine.execVauxUndervoltage s

end Sys2Proof.Machine
end

