-- ==== Sys2Proof/Machine/Tick.lean ====
section
/-! DEFINITION. One FCLK cycle with no command: uptime, Vector Time and the token buckets move on. -/
namespace Sys2Proof.Machine
open Csr

/-- One FCLK of the clocks (R404): 850 of them make a microsecond of uptime. -/
def Clock.tick (c : Clock) : Clock :=
  { c with
    fclk := c.fclk + 1
    uptime := if c.sub + 1 = 850 then c.uptime + 1 else c.uptime
    sub := if c.sub + 1 = 850 then 0 else c.sub + 1 }

/-- One FCLK of Vector Time (R49, R52, R53): it gains VT_RATE in 2^-24 ticks, after what it still has to wait out. -/
def VtUnit.tick (u : VtUnit) (rate : Nat) : VtUnit :=
  let hold := min u.owed rate
  let f := u.frac + (rate - hold)
  { u with owed := u.owed - hold, frac := f % 2 ^ 24, vt := vtAdd u.vt (f / 2 ^ 24), cyc := u.cyc + 1 }

/-- One FCLK cycle: nothing moves in reset or without power; Vector Time and the buckets stand while the data plane does
(R56). Capture-window edges that no sample can precede any more become the window's state (R66), the regulators look at
what waits at the ports, and blocks whose enable in effect is 1 are clocked (R331). -/
def State.tick (s : State) : State :=
  if ! s.pins.pwrok || ! s.pins.resetN then s
  else
    let s : State := { s with clk := s.clk.tick, fresh := [] }
    if s.paused then s
    else
      let s : State := { s with
        vt := s.vt.tick (s.rd VT_RATE_RATE)
        bw := s.bw.tick
        clk := { s.clk with live := s.clk.live + 1 } }
      (s.capSettle s.edgeOld).portsTick.gateRefresh

end Sys2Proof.Machine
end

