-- ==== Sys2Proof/Safety.lean ====
section
/-! DEFINITION. What counts as a sound state, and the words the statements use for what a command changes. -/
namespace Sys2Proof.Machine
open Csr

/-- The DRAM list is canonical: cells in address order, none listed at what an unlisted byte reads as. -/
def State.dramWf (s : State) : Bool := cwf (dramDflt s.filled) s.dram

/-- The register file and the words in effect are canonical. -/
def State.csrWf (s : State) : Bool := cwf csrReset s.csr && cwf csrReset s.eff

/-- The stored flip masks are canonical. -/
def State.masksWf (s : State) : Bool := cwf (fun _ => 0) s.masks

/-- An engine's local SRAM and its scramble tables are canonical. -/
def Engine.wf (g : Engine) : Bool := cwf (fun _ => (0 : W64)) g.sram && cwf (fun a => BitVec.ofNat 8 a) g.scr

/-- So it is for every engine. -/
def State.sramWf (s : State) : Bool := (upFrom 0 72).all fun e => (s.eng e).wf

/-- The invariant: every sparse memory is in its canonical form. -/
def State.Inv (s : State) : Prop :=
  s.csrWf = true ∧ s.dramWf = true ∧ s.masksWf = true ∧ s.sramWf = true

/-- A step stops: with a fault or a refusal. -/
def Stops (o : Host.Outcome State Fault Refusal) : Prop := ∀ t, o ≠ .next t

/-- Nothing but the registers at the addresses of `as` differs. -/
def OnlyRegs (as : List Nat) (s t : State) : Prop := t = { s with csr := t.csr, fresh := t.fresh } ∧ ∀ a, a ∉ as → t.reg a = s.reg a

/-- The words in effect are canonical. -/
abbrev State.effOk (s : State) : Prop := cwf csrReset s.eff = true

/-- Nothing but engine e and the registers at the addresses of `as` differs. -/
def EngFrame (e : Eng) (as : List Nat) (s t : State) : Prop :=
  t = { s with engs := t.engs, csr := t.csr, fresh := t.fresh } ∧ (∀ k : Nat, k ≠ e.val → t.eng k = s.eng k) ∧
    ∀ a, a ∉ as → t.reg a = s.reg a

/-- Engine e has issued an instruction that leaves it as g: ENG_PC shows the instruction's address, nothing else
differs. -/
def Issued (e : Eng) (g : Engine) (s t : State) : Prop :=
  EngFrame e [(ENG_PC_PC e).addr] s t ∧ t.rd (ENG_PC_PC e) = (s.eng e).pc.toNat ∧ t.eng e = g

/-- Engine e's general registers after gd took r: G0 discards the write. -/
def Took (e : Eng) (gd : Fin 16) (r : W64) (s t : State) : Prop :=
  ∀ q : Fin 16, t.getG e q = if q = gd ∧ q ≠ 0 then r else s.getG e q

/-- Engine e has moved a value into gd, and nothing else. -/
def Moved (e : Eng) (gd : Fin 16) (r : W64) (s t : State) : Prop :=
  Issued e { s.eng e with pc := (s.eng e).pc + 4, g := (t.eng e).g } s t ∧ Took e gd r s t

/-- Engine e has computed r into gd with carry c: Z and N from r, C from c, the generator carries as they were. -/
def AluDone (e : Eng) (gd : Fin 16) (r : W64) (c : Bool) (s t : State) : Prop :=
  Issued e { s.eng e with pc := (s.eng e).pc + 4, g := (t.eng e).g, flags := (t.eng e).flags } s t ∧ Took e gd r s t ∧
    (t.eng e).flags.getLsbD 0 = decide (r = 0) ∧ (t.eng e).flags.getLsbD 1 = r.msb ∧ (t.eng e).flags.getLsbD 2 = c ∧
    ∀ i, 3 ≤ i → (t.eng e).flags.getLsbD i = (s.eng e).flags.getLsbD i

/-- Nothing but the lanes of `ks` and the registers at the addresses of `as` differs. -/
def LaneFrame (ks as : List Nat) (s t : State) : Prop :=
  t = { s with lanes := t.lanes, csr := t.csr, fresh := t.fresh } ∧ (∀ j : Nat, j ∉ ks → t.lane j = s.lane j) ∧
    ∀ a, a ∉ as → t.reg a = s.reg a

/-- The pair of TX lane p has n buffers more freed, and its AVAIL shows it (R140). -/
def Credited (p n : Nat) (s t : State) : Prop :=
  (t.lane p).freed = min ((s.lane p).freed + n) (s.lane p).sent ∧
    t.rd (VLANE_CREDIT_AVAIL p) = s.rd (VLANE_CREDIT_POOL p) - ((s.lane p).sent - (t.lane p).freed)

/-- Nothing but capture unit u and the registers at the addresses of `as` differs. -/
def CapFrame (u : Fin 9) (as : List Nat) (s t : State) : Prop :=
  t = { s with caps := t.caps, csr := t.csr, fresh := t.fresh } ∧ (∀ k : Nat, k ≠ u.val → t.cap k = s.cap k) ∧
    ∀ a, a ∉ as → t.reg a = s.reg a

/-- The registers taking a trap writes. -/
def trapRegs (e : Eng) : List Nat :=
  [(ENG_PC_PC e).addr, (ENG_STATE_STATE e).addr, (ENG_TRAP_LO_CAUSE e).addr, (ENG_TRAP_HI_CAUSE e).addr,
    (ENG_TRAPPC_TRAPPC e).addr, (ENG_COUNT_TRAPS e).addr]

/-- Engine e has a trap handler and does not run it (R106, R107); no other trap cause and no stop waits for its next
instruction boundary. -/
def State.canTrap (s : State) (e : Eng) : Prop :=
  s.flag (ENG_STATE_INTRAP e) = false ∧ (s.eng e).desc.trapEntry ≠ 0 ∧ (s.eng e).async = [] ∧ (s.eng e).stopReq = none

/-- Engine e has taken a trap (R105, R106): TRAPCAUSE holds CODE, DETAIL and ADDRESS, TRAPPC the address given, the PC the
handler's entry; INTRAP is set and the registers show the same. -/
def Trapped (e : Eng) (code detail addr : Nat) (tpc : BitVec 24) (s t : State) : Prop :=
  EngFrame e (trapRegs e) s t ∧
    (∃ w : W64, bits w.toNat 0 8 = code ∧ bits w.toNat 8 16 = detail ∧ bits w.toNat 24 36 = addr ∧ bits w.toNat 60 4 = 0 ∧
      t.eng e = { s.eng e with pc := BitVec.ofNat 24 (s.eng e).desc.trapEntry, trapcause := w, trappc := tpc,
                               wait := .none } ∧
      t.rd (ENG_TRAP_LO_CAUSE e) = bits w.toNat 0 32 ∧ t.rd (ENG_TRAP_HI_CAUSE e) = bits w.toNat 32 32) ∧
    t.rd (ENG_TRAPPC_TRAPPC e) = tpc.toNat ∧ t.flag (ENG_STATE_INTRAP e) = true ∧
    t.rd (ENG_STATE_STATE e) = s.rd (ENG_STATE_STATE e) ∧
    t.rd (ENG_COUNT_TRAPS e) = min (s.rd (ENG_COUNT_TRAPS e) + 1) 65535

/-- The state after the sideband has answered the request that was served (R359, R360): OPCODE with bit 7 set, its TAG, the
status, the length and the data, zeros behind; ready, and an IBI with payload 0x01 where IBIs are enabled. -/
def answered (status : Nat) (data : List Byte) (s : State) : State :=
  let c := s.alm.sb.cur
  let r := natLe 1 (fieldAt c 0 1 ||| 0x80) ++ natLe 1 (fieldAt c 1 1) ++ natLe 1 status ++ natLe 1 data.length ++ data
  { s with alm := { s.alm with sb := { s.alm.sb with
    resp := slice r 0 64, busy := false, ready := true, ibi := if s.alm.sb.ibiOn then some 1 else s.alm.sb.ibi } } }

/-- The sideband has answered the request that was served. -/
abbrev Responded (status : Nat) (data : List Byte) (s t : State) : Prop := t = answered status data s

/-- A command on the firmware has failed with a code (R341): CODE and ERR of ALM_FW_STAT say so. -/
def FwFailed (code : Nat) (s t : State) : Prop :=
  OnlyRegs [0x900008] s t ∧ t.rd ALM_FW_STAT_CODE = code ∧ t.flag ALM_FW_STAT_ERR = true

/-- An image is refused with a code: that, and what its log entry changes. -/
def FwRefused (code : Nat) (s t : State) : Prop :=
  t = { s with csr := t.csr, fresh := t.fresh, alm := t.alm } ∧ t.rd ALM_FW_STAT_CODE = code ∧ t.flag ALM_FW_STAT_ERR = true ∧
    t.alm.hdr = s.alm.hdr ∧ t.alm.upd = s.alm.upd ∧ t.rd ALM_STATUS_STATE = s.rd ALM_STATUS_STATE

end Sys2Proof.Machine
end

