-- ==== Sys2Proof/WellFormed.lean ====
section
/-! DEFINITION. Which commands are well formed: what an operand's type does not already say of it. -/
namespace Sys2Proof

/-- A packet carries LENGTH units of 16 bytes, 256 units at most (R274, R275). -/
def Pkt.wf (p : Pkt) : Bool := p.len.toNat ≤ 256 && p.data.length = 16 * p.len.toNat

/-- A channel has 72 DQs and 14 CA signals (R241). -/
def Sweep.wf (w : Sweep) : Bool := w.rd.length ≤ 72 && w.wr.length ≤ 72 && w.ca.length ≤ 14

/-- So it is for every attempt of a full training (R242). -/
def TrainRun.wf (r : TrainRun) : Bool :=
  r.ca.all (fun l => l.length ≤ 14) && r.rd.all (fun l => l.length ≤ 72) && r.wr.all (fun l => l.length ≤ 72) &&
    r.margin.all Sweep.wf

/-- What a slice brings is well formed; a read-verify slice reads one granule at least. -/
def SliceResult.wf : SliceResult → Bool
  | .verified n => 1 ≤ n
  | .tested _ w => w.wf
  | .retrained w => w.wf
  | _ => true

/-- One to 16 registers (R280). -/
def CsrAcc.wf : CsrAcc → Bool
  | .read n => 1 ≤ n && n ≤ 16
  | .write vs => 1 ≤ vs.length && vs.length ≤ 16

/-- Is a command well formed? -/
def Instr.wf : Instr → Bool
  | .ascr _ _ _ us => us.all fun u => u.1 < 32
  | .mcRequest _ _ _ write _ off data => ! write || (1 ≤ data.length && off.toNat + data.length ≤ 64)
  | .layerTempSample rs => rs.length = 17
  | .chmapCommit m => m.length = 32
  | .writeBufferDrain _ us => us.all fun u => u.1 < 32
  | .channelFullTraining _ run => run.wf
  | .tsvDqRepair _ _ _ w => w.wf
  | .layerSubstitution _ _ _ _ w0 w1 => w0.wf && w1.wf
  | .linkRead p => p.wf
  | .linkWrite p => p.wf
  | .linkWritePosted p => p.wf
  | .linkVtset p => p.wf
  | .linkCredit p => p.wf
  | .almFwWinWrite data => data.length % 4 = 0 && inWindow data.length
  | .siteSample elems rails phases _ _ => elems.length = 32 && rails.length = 5 && phases.length = 28
  | .calibrationComplete _ _ coef vcoef pairs deltas =>
    coef.length = 96 && vcoef.length = 6 && pairs.length = 32 && deltas.length = 17
  | .sliceComplete _ _ _ res => res.wf
  | .csrAccess _ acc => acc.wf
  | _ => true
where
  /-- A write to the window of 64 bytes (R341). -/
  inWindow (n : Nat) : Bool := 4 ≤ n && n ≤ 64

end Sys2Proof
end

