-- ==== Sys2Proof/Certificates/Slice0/Obligations.lean ====
section
/-! DEFINITION. The statements for the provers. -/
open Sys2Proof Sys2Proof.Machine Sys2Proof.Machine.Csr

/-! The machine as a whole. -/

/-- A step with a command at the front of the queue runs that command on the state with the queue's rest; with an empty
queue one FCLK passes, in which uptime (850 FCLKs make a microsecond) and, unless the data plane stands still, Vector Time
move on, and what waits for DRAM, for the end of a test, at a memory port or for a gated block to be clocked goes on (the
model's choice, log entry 2). -/
def Obligations.StepRunsFront : Prop :=
  ∀ (c : Instr) (rest : List Instr) (s : State),
    let idle := s.pending = [] ∧ s.alm.job = none ∧ s.tap.waits = none ∧ s.modes.resetDue ≠ some true
    let bare := s.bw.waits = [] ∧ s.img.capEdges = [] ∧ s.gateMarked = []
    let powered := s.pins.pwrok = true ∧ s.pins.resetN = true
    let k := s.clk
    let clock := fun (t : State) => t.clk.fclk = k.fclk + 1 ∧
      t.clk.uptime = k.uptime + (if k.sub + 1 = 850 then 1 else 0) ∧ t.clk.sub = if k.sub + 1 = 850 then 0 else k.sub + 1
    step { s with pending := c :: rest } = exec c { s with pending := rest } ∧
    (s.pending = [] → step s = .next s.tick.fwServe.wrapServe.resetServe) ∧
    (idle → ¬ powered → step s = .next s) ∧
    (idle → powered → s.paused = true → ∃ t, step s = .next t ∧ t = { s with clk := t.clk, fresh := [] } ∧ clock t ∧
      t.clk.live = k.live) ∧
    (idle → powered → s.paused = false →
      ∃ t, step s = .next t ∧ (bare → t = { s with clk := t.clk, vt := t.vt, bw := t.bw, fresh := [] }) ∧ clock t ∧
        t.clk.live = k.live + 1 ∧ t.vt.cyc = s.vt.cyc + 1 ∧ t.vt.edge = s.vt.edge ∧ (s.vt.owed = 0 →
         let f := s.vt.frac + s.rd VT_RATE_RATE
         t.vt = { s.vt with vt := vtAdd s.vt.vt (f / 2 ^ 24), frac := f % 2 ^ 24, cyc := s.vt.cyc + 1 }))

/-- What reset leaves (R12, R47, R50, R69, R390, R402, R404): the state after RESET_N deasserts at power-up. The registers'
reset values are those of the register tables (`csrReset`); where a table gives none, log entry 5 names the model's. -/
def Obligations.AfterReset : Prop :=
  let s := State.reset
  s.Inv ∧ s.pending = [] ∧ s.devMode = 0 ∧ s.rd GLOBAL_BOOT_STEP = 0 ∧ s.vt.vt = 0 ∧ s.rd VT_STATUS_STATE = 0 ∧
    s.rd ALM_STATUS_STATE = 0 ∧ s.flag FUSE_STATUS_SENSED = false ∧ s.partsList = [] ∧ s.dram = [] ∧ s.filled = 0 ∧
    s.modes.memReady = false ∧ s.linkUp = false ∧ s.flag GLOBAL_RESET_CAUSE_WARM = false ∧
    (∀ k, k < 32 → s.physOf k = k) ∧ (∀ e, e < 72 → s.engState e = 0 ∨ s.engState e = 7) ∧
    (∀ e, e < 72 → (s.aliveEng e = true ↔ e % 9 ≠ 8)) ∧
    (∀ e : Eng, ∀ q, s.getG e q = 0) ∧ (∀ a, a ≠ 0x34 → s.reg a = csrReset a) ∧ (∀ a, s.effReg a = csrReset a)

/-- Every sparse memory stays in its canonical form (the register file and the words in effect, DRAM, flip masks, the engines'
local SRAM): a step from any state in which they are leads to a state in which they are. -/
def Obligations.StepKeepsInv : Prop :=
  ∀ s t : State, s.Inv → step s = .next t → t.Inv

/-- No command touches the queue of commands that wait: not its own effect, not a reset, not a loss of power. -/
def Obligations.CommandsLeaveQueue : Prop :=
  ∀ (c : Instr) (s t : State), exec c s = .next t → t.pending = s.pending

/-- Engine words (R81 to R83): every engine command's word is 32 bits wide and reads back as that command, with every operand
at every value; and every word that reads as a command is that command's own word. -/
def Obligations.EngineWords : Prop :=
  (∀ i w, engWord i = some w → w < 2 ^ 32 ∧ ∃ e, engDecode e w = some (dropUpset i)) ∧
  (∀ (e : Eng) (gd ga gb : Fin 16) (imm : BitVec 18) (sh : BitVec 6) (m : MovOp) (l : LiOp) (u : SramUpset)
      (us : List (Nat × Bool)) (b : Bool) (mask : BitVec 16) (f3 : BitVec 3) (op : Fin 3) (x y : BitVec 5) (f4 : BitVec 4)
      (rep : BitVec 10) (lc : Fin 4) (off : BitVec 14) (tol : BitVec 13) (m9 : BitVec 9) (id : BitVec 4) (code : BitVec 8)
      (cond : Fin 13) (off22 : BitVec 22),
    ∀ p ∈ [(Instr.nop e, 0x01), (.add e gd ga gb, 0x02), (.sub e gd ga gb, 0x03), (.andReg e gd ga gb, 0x04),
      (.orReg e gd ga gb, 0x05), (.xorReg e gd ga gb, 0x06), (.shl e gd ga gb, 0x07), (.shr e gd ga gb, 0x08),
      (.mov e m, 0x09), (.addImm e gd ga imm, 0x0A), (.andImm e gd ga imm, 0x0B), (.orImm e gd ga imm, 0x0C),
      (.xorImm e gd ga imm, 0x0D), (.shlImm e gd ga sh, 0x0E), (.shrImm e gd ga sh, 0x0F), (.li e gd l, 0x10),
      (.ld e gd ga imm u, 0x11), (.st e gd ga imm, 0x12), (.drq e gd ga gb b, 0x13), (.dwt e mask, 0x14),
      (.aset e gd ga, 0x15), (.ainc e f3, 0x16), (.ascr e gd ga us, 0x17), (.dgset e ga, 0x18), (.dginv e op, 0x19),
      (.dgchk e x y b, 0x1A), (.dglfsr e ga f4, 0x1B), (.emit e gd ga f3, 0x1C), (.emitn e gd ga rep f3, 0x1D),
      (.vstream e ga gb b, 0x1E), (.loop e lc ga off, 0x1F), (.endl e lc, 0x20), (.mark e, 0x21), (.rewind e ga, 0x22),
      (.release e, 0x23), (.waitvt e ga b tol, 0x24), (.bar e m9 id, 0x25), (.sig e code b, 0x26), (.br e cond off22, 0x27),
      (.call e cond off22, 0x28), (.ret e b, 0x29), (.trap e mask, 0x2A), (.halt e, 0x2B)],
      ∃ w, engWord p.1 = some w ∧ w / 2 ^ 26 = p.2) ∧
  (∀ e w i, w < 2 ^ 32 → engDecode e w = some i → engWord i = some w)

/-! Registers -/

/-- A write to a register that starts nothing (R5 to R7, R9), in every block: RW and RWP bits take the value, a 1 clears a W1C
bit unless an event set it in the same FCLK cycle, every other bit and every other register stays (`starts`: the command
registers, the registers with a write behaviour of their own, and those of instances that are not fabricated). A write
that fails a check changes nothing, and before the fuses are sensed no access does anything (R301). A read clears the RC bits
but for what events brought in the same FCLK cycle, which the next read returns; reading VT_NOW_LO or ENG_STG_CYC_LO latches
what belongs to it (R8, R49, R127). -/
def Obligations.RegisterAccess : Prop :=
  ∀ (reg : BitVec 22) (v : Word) (factory : Bool) (e : Eng) (s : State), s.regsOk →
    let a := 4 * reg.toNat
    let starts := a ∈ [0x20, 0x10008, 0x10040, 0x2000C, 0x300004, 0x300014, 0x430030, 0x500008, (FAULT_FE_STATUS_VALID).addr,
        0x600004, 0x700018, 0x700020, 0x800004, 0x800020, 0x900004, 0x900080, 0xA00004] ∨
      (0x100000 ≤ a ∧ a < 0x148000 ∧ a % 0x1000 = 4) ∨ a = 0x170004 ∨ (0x180000 ≤ a ∧ a < 0x200000 ∧ a % 0x10000 = 4) ∨
      (0x200000 ≤ a ∧ a < 0x264000 ∧ a % 0x1000 = 4) ∨
      (0x400000 ≤ a ∧ a < 0x422000 ∧ a % 0x1000 ∈ [0x40, 0xC8, 0x140, 0x200]) ∨ (0x600200 ≤ a ∧ a < 0x600300 ∧ a % 16 = 0) ∨
      (0x700100 ≤ a ∧ a < 0x700300) ∨ (0x900040 ≤ a ∧ a < 0x900080) ∨
      (0x801000 ≤ a ∧ a < 0x802000 ∧ ¬ ((a - 0x801000) / 4 ∈ gateBlocks ∧ (a - 0x801000) / 4 < 896))
    (s.sensed = false → exec (.registerWrite reg v factory) s = .next s ∧ exec (.rcRead reg) s = .next s) ∧
    (s.csrStatus true factory a v ≠ 0 → exec (.registerWrite reg v factory) s = .next s) ∧
    (s.sensed = true → s.modes.resetDue ≠ some true → s.csrStatus true factory a v = 0 → ¬ starts →
      ∀ r i j, regAt a = some (r, i, j) →
      ∃ t, exec (.registerWrite reg v factory) s = .next t ∧ OnlyRegs [a] s t ∧ ∀ b, b < 32 →
        (t.reg a).getLsbD b = if v.getLsbD b && r.w1c.testBit b && ! ((s.freshAt a).elim 0 (·.2)).getLsbD b then false
          else if r.rw.testBit b || r.rwp.testBit b then v.getLsbD b else (s.reg a).getLsbD b) ∧
    (s.csrStatus false false a 0 ≠ 0 → exec (.rcRead reg) s = .next s) ∧
    (s.sensed = true → s.csrStatus false false a 0 = 0 → s.latch a = s →
      ¬ (0x400000 ≤ a ∧ a < 0x422000 ∧ a % 0x1000 = 0x54) → ∃ t, exec (.rcRead reg) s = .next t ∧
      t.reg a = (s.reg a &&& ~~~ rcMask a) ||| ((s.freshAt a).elim 0 (·.2) &&& rcMask a) ∧
      (s.csrRead a).1 &&& rcMask a = (s.freshAt a).elim (s.csrView a) (·.1) &&& rcMask a ∧ ∀ b, b ≠ a → t.reg b = s.reg b) ∧
    (∃ t, exec .vtNowRead s = .next t ∧ OnlyRegs [0x10004] s t ∧ (s.csrRead 0x10000).1.toNat = s.vt.vt % 2 ^ 32 ∧
      t.rd VT_NOW_HI_VT = s.vt.vt / 2 ^ 32 % 2 ^ 16) ∧
    (∃ t, exec (.stgCycRead e) s = .next t ∧ t = { s with csr := t.csr, fresh := t.fresh } ∧
      (s.csrRead (0x100054 + 0x1000 * e.val)).1.toNat = s.cyclesSent e % 2 ^ 32 ∧
      t.rd (ENG_STG_CYC_HI_CYCLES e) = s.cyclesSent e / 2 ^ 32 % 2 ^ 16 ∧
      ∀ n, n < 4 → t.rd (ENG_STG_SIG_SIG e n) = s.signature e n % 2 ^ 32)

/-! The image unit -/

/-- LOAD, its end, VALIDATE, its end, and an unassigned command (R23 to R25, R34, R35): the slot's state, IMAGE_ERR and
IMAGE_ADMIT, which a VALIDATE zeroes. A refused command changes IMAGE_ERR alone; VALIDATE of a FAILED slot that holds no image
ends at once with NO_IMAGE. -/
def Obligations.ImageSlot : Prop :=
  ∀ s : State, s.regsOk →
    let st := s.slotState
    let src := s.imgSrc
    let n := s.rd IMAGE_LEN_LEN
    let refused := fun (c : Instr) (code : Nat) => ∃ t, exec c s = .next t ∧ OnlyRegs [0x2001C] s t ∧
      t.rd IMAGE_ERR_CODE = code ∧ t.rd IMAGE_ERR_STAGE = 0 ∧ t.rd IMAGE_ERR_OFFSET = 0
    refused .imageBadCmd 1 ∧
    (st = 1 ∨ st = 3 ∨ st = 5 → refused .imageLoad 2 ∧ refused .imageValidate 2) ∧
    (st = 0 → refused .imageValidate 3) ∧
    (st = 0 ∨ st = 2 ∨ st = 4 ∨ st = 6 →
      (loadBad src n = false → ∃ t, exec .imageLoad s = .next t ∧ t.slotState = 1 ∧ t.rd IMAGE_ERR_CODE = 0 ∧
        t.img.src = src ∧ t.img.len = n ∧ t.img.slot = [] ∧ t.img.active = s.img.active ∧
        ∀ a, a ≠ 0x20018 → a ≠ 0x2001C → t.reg a = s.reg a) ∧
      (loadBad src n = true → ∃ t, exec .imageLoad s = .next t ∧ t.slotState = 6 ∧ t.rd IMAGE_ERR_CODE = 5 ∧
        t.img.slot = [] ∧ t.img.active = s.img.active)) ∧
    (st = 1 → s.paused = false → s.modes.memReady = true → s.memHeld (s.hostDmaAcc 1) s.img.src s.img.len = false →
      (let r := s.readMem (s.hostDmaAcc 1) s.img.src s.img.len
       (r.2.2 = none → ∃ t, exec .imageCopyComplete s = .next t ∧ t.slotState = 2 ∧ t.img.slot = r.2.1) ∧
       (∀ x, r.2.2 = some x → ∃ t, exec .imageCopyComplete s = .next t ∧ t.slotState = 6 ∧
        t.rd IMAGE_ERR_CODE = 5 ∧ t.img.slot = []))) ∧
    (st = 2 ∨ st = 4 ∨ st = 6 → s.img.slot = [] → ∃ t, exec .imageValidate s = .next t ∧ t.slotState = 6 ∧
      OnlyRegs [0x20018, 0x2001C, 0x20020] s t ∧ t.rd IMAGE_ERR_CODE = 3 ∧ t.rd IMAGE_ERR_STAGE = 0 ∧
      t.rd IMAGE_ADMIT_CHANNEL = 0 ∧ t.rd IMAGE_ADMIT_HEADROOM = 0) ∧
    (st = 2 ∨ st = 4 ∨ st = 6 → s.img.slot ≠ [] → ∃ t, exec .imageValidate s = .next t ∧ t.slotState = 3 ∧
      t.rd IMAGE_ERR_CODE = 0 ∧ t.rd IMAGE_ADMIT_CHANNEL = 0 ∧ t.rd IMAGE_ADMIT_HEADROOM = 0 ∧ t = { s with csr := t.csr, fresh := t.fresh, img := { s.img with parsed := none } } ∧
      ∀ a, a ≠ 0x20018 → a ≠ 0x2001C → a ≠ 0x20020 → t.reg a = s.reg a) ∧
    (st = 3 → s.paused = false →
      (let r := (s.putb IMAGE_STATUS_SIGNED
          (sigPassed s.img.slot s.sigCtx (s.rd VT_TICK_PS_TICK_PS) s.img.len)).validated
       (r.2.2 = none → ∃ t, exec .validationComplete s = .next t ∧ t.slotState = 4 ∧ t.img.parsed = some r.2.1) ∧
       (∀ x, r.2.2 = some x → ∃ t, exec .validationComplete s = .next t ∧ t.slotState = 6 ∧
        t.rd IMAGE_ERR_CODE = x.code % 32 ∧ t.rd IMAGE_ERR_STAGE = x.stage % 4 ∧
        t.rd IMAGE_ERR_OFFSET = x.off % 2 ^ 24)))

/-- APPLY, DISCARD and the epoch (R23, R24, R35, R40 to R44): APPLY arms a VALID image with its epoch and PARTS; at the epoch
the bindings change, or APPLY_FAIL says why not and everything stays bound as it was; a Calendar entry arms and applies the
same way. PARTS 0 installs the whole image; a partial apply replaces what belongs to the partitions of its scope and keeps
the rest, an engine of a partition that is not named with all it holds. Every partition of the scope enters its INIT_MODE,
DONE is set, ACTIVE_GEN counts, IMAGE_ACTIVE_ID changes with a device-wide apply alone. An apply waits for what the capture
units still write (the model's reading, log entry 188). -/
def Obligations.ImageApplies : Prop :=
  ∀ (parts : BitVec 16) (k : Fin 64) (p : Fin 16) (s : State), s.regsOk → s.effOk →
    let st := s.slotState
    let old := s.img.active
    let named := fun (q : Nat) => decide (q < 16) && s.img.parts.testBit q
    let other := fun (q : Nat) => decide (q < 16) && ! s.img.parts.testBit q
    let inScope := fun (q : Nat) => q < 16 ∧ (s.img.parts = 0 ∨ s.img.parts.testBit q = true)
    let mode := fun (i : Img) => match i.parts.find? (fun r => r.part = p.val) with | some r => r.initMode % 8 | none => 0
    let merged := fun (i a : Img) =>
      a.parts = old.parts.filter (fun r => other r.part) ++ i.parts.filter (fun r => named r.part) ∧
      a.regions = old.regions.filter (fun r => other r.part) ++ i.regions.filter (fun r => named r.part) ∧
      a.caps = old.caps.filter (fun r => other r.part) ++ i.caps.filter (fun r => named r.part) ∧
      a.engines = old.engines.filter (fun r => other r.desc.part) ++ i.engines.filter (fun r => named r.desc.part) ∧
      a.lanes = old.lanes.filter (fun r => old.engines.any fun x => other x.desc.part && x.engine = r.engine) ++
        i.lanes.filter (fun r => i.engines.any fun x => named x.desc.part && x.engine = r.engine) ∧
      a.pins = old.pins.filter (fun r => old.engines.any fun x => other x.desc.part && x.engine = r.engine) ++
        i.pins.filter (fun r => i.engines.any fun x => named x.desc.part && x.engine = r.engine) ∧
      a.ppl = (upFrom 0 16).map (fun q => if named q then i.ppl.getD q 0 else old.ppl.getD q 0) ∧
      a.devwide = old.devwide ∧ a.classes = old.classes ∧ a.policy = old.policy
    let done := fun (i : Img) (t : State) => t.slotState = 0 ∧ t.img.slot = [] ∧ t.img.parsed = none ∧
      t.flag IMAGE_STATUS_DONE = true ∧
      t.rd IMAGE_STATUS_ACTIVE_GEN = (s.rd IMAGE_STATUS_ACTIVE_GEN + 1) % 2 ^ IMAGE_STATUS_ACTIVE_GEN.w ∧
      (s.img.parts = 0 → t.img.active = { i with cal := [] } ∧ t.rd IMAGE_ACTIVE_ID_LO_ID = i.id % 2 ^ 32 ∧
        t.rd IMAGE_ACTIVE_ID_HI_ID = i.id / 2 ^ 32 % 2 ^ 32) ∧
      (s.img.parts ≠ 0 → merged i t.img.active ∧ t.rd IMAGE_ACTIVE_ID_LO_ID = s.rd IMAGE_ACTIVE_ID_LO_ID ∧
        t.rd IMAGE_ACTIVE_ID_HI_ID = s.rd IMAGE_ACTIVE_ID_HI_ID) ∧
      (inScope p → t.pmode p = mode i ∧ (t.flag (GLOBAL_PMODE_DECLARED p) = true ↔ ∃ r ∈ i.parts, r.part = p.val)) ∧
      (¬ inScope p → t.pmode p = s.pmode p) ∧
      (∀ e : Eng, s.st.slices = [] → (∀ r ∈ old.engines ++ i.engines, r.engine = e.val → ¬ inScope r.desc.part) →
        t.eng e = s.eng e) ∧
      (∀ r ∈ i.engines, r.engine < 72 → inScope r.desc.part → (∀ x ∈ i.engines, x.engine = r.engine → x = r) →
        s.engState r.engine = 0 → (∀ x ∈ old.engines, x.engine ≠ r.engine) → s.st.slices = [] →
        t.engState r.engine = 1 ∧ (t.eng r.engine).desc = r.desc)
    let s0 := ((s.put IMAGE_ERR_CODE 0).put IMAGE_ADMIT_CHANNEL 0).put IMAGE_ADMIT_HEADROOM 0
    let epoch := s.rd IMAGE_EPOCH_LO_VT + s.rd IMAGE_EPOCH_HI_VT * 2 ^ 32
    let s1 := (s.put IMAGE_ADMIT_CHANNEL 0).put IMAGE_ADMIT_HEADROOM 0
    let refused := fun (c : Instr) (code : Nat) => ∃ t, exec c s = .next t ∧ OnlyRegs [0x2001C] s t ∧ t.rd IMAGE_ERR_CODE = code
    (st = 0 → refused (.imageApply parts) 3) ∧
    (st = 1 ∨ st = 3 ∨ st = 5 → refused (.imageApply parts) 2) ∧
    (st = 2 ∨ st = 6 → refused (.imageApply parts) 4) ∧
    (∀ i, st = 4 → s.img.parsed = some i →
      (s0.partialErr s.img.slot i parts.toNat = none → ∃ t, exec (.imageApply parts) s = .next t ∧ t.slotState = 5 ∧
        t.img = { s.img with epoch := epoch, parts := parts.toNat, armedBy := 0 } ∧
        t.rd IMAGE_ADMIT_CHANNEL = 0 ∧ t.rd IMAGE_ADMIT_HEADROOM = 0 ∧
        (t.flag IMAGE_STATUS_PARTIAL = true ↔ parts ≠ 0)) ∧
      (∀ x, s0.partialErr s.img.slot i parts.toNat = some x → ∃ t, exec (.imageApply parts) s = .next t ∧
        t.slotState = 4 ∧ t.rd IMAGE_ERR_CODE = x.code % 32 ∧ t.img = s.img ∧ t.rd IMAGE_ADMIT_CHANNEL = 0)) ∧
    (st = 1 ∨ st = 3 → refused .imageDiscard 2) ∧
    (st ≠ 1 → st ≠ 3 → (st ≠ 5 ∨ s.img.armedBy = 0) → ∃ t, exec .imageDiscard s = .next t ∧ t.slotState = 0 ∧
      t.img.slot = [] ∧ t.img.parsed = none ∧ t.img.active = s.img.active ∧ t.eff = s.eff) ∧
    (st = 5 → s.img.armedBy = k.val + 1 → ∃ t, exec .imageDiscard s = .next t ∧ t.slotState = 0 ∧ t.img.slot = [] ∧
      (t.calEff k).code = 0 ∧ t.img.active = s.img.active) ∧
    (∀ i, st = 5 → s.img.armedBy = 0 → s.paused = false → s.devMode ≠ 7 → s.reacted = true →
      vtGe s.vt.vt s.img.epoch = true → s.img.parsed = some i →
      ((s1.applyErr s.img.slot i s.img.parts).2 = none → (s.applyReady id).2 = true → ∃ t, exec .applyEpoch s = .next t ∧
        done i t) ∧
      ((s.applyReady id).2 = false → ∃ t, exec .applyEpoch s = .next t ∧ t.slotState = 5 ∧ t.img.active = old) ∧
      (∀ x, (s1.applyErr s.img.slot i s.img.parts).2 = some x → ∃ t, exec .applyEpoch s = .next t ∧ t.slotState = 4 ∧
        t.flag IMAGE_STATUS_APPLY_FAIL = true ∧ t.flag IMAGE_ERR_AT_EPOCH = true ∧
        t.rd IMAGE_ERR_CODE = x.code % 32 ∧ t.img = { s.img with armedBy := 0 } ∧ t.engs = s.engs)) ∧
    (∀ i, s.calNext k 1 = true → st = 5 → s.img.armedBy = k.val + 1 → s.img.parsed = some i →
      (let u := ((s.calFire k).put IMAGE_ADMIT_CHANNEL 0).put IMAGE_ADMIT_HEADROOM 0
       (u.applyErr s.img.slot i s.img.parts).2 = none → (s.applyReady fun x => x.calFire k).2 = true →
       ∃ t, exec (.applyImage k) s = .next t ∧ done i t)) ∧
    (s.calNext k 1 = true → (st ≠ 5 ∨ s.img.armedBy ≠ k.val + 1) → ∃ t, exec (.applyImage k) s = .next t ∧
      (t.calEff k).code = 0 ∧ t.img = s.img ∧
      t.rd VT_CAL_STAT_VOID = min (s.rd VT_CAL_STAT_VOID + 1) 255)

/-! Vector Time and the Calendar -/

/-- TICK_PS, TSYNC edges, a missing edge and the VTSET commit (R50 to R55, R421). The spec's own words for the rate are
"rounded to nearest"; the model's own choices are that half a unit rounds up (log entry 24), that an edge out of lock is
ignored (25), that a correction is waited out in the next FCLKs (26), that ALIGN comes before RUNNING (136) and that a TSYNC
pulse is held against the pulse before it (202). -/
def Obligations.VectorTime : Prop :=
  ∀ (p : BitVec 14) (s : State), s.regsOk → s.effOk →
    let e := s.edgeErr
    let v := s.rd VT_SET_LO_VT + s.rd VT_SET_HI_VT * 2 ^ 32
    (s.partsList = [] → 250 ≤ p.toNat → p.toNat ≤ 16000 → ∃ t, exec (.vtTickPsWrite p) s = .next t ∧
      OnlyRegs [0x10008, 0x1000C, 0x10010] s t ∧ t.rd VT_TICK_PS_TICK_PS = p.toNat ∧
      t.rd VT_RATE_RATE = (2 * 2 ^ 24 * 1000000 + 850 * p.toNat) / (2 * (850 * p.toNat)) ∧ t.rd VT_STATUS_STATE = 0) ∧
    (s.partsList ≠ [] ∨ p.toNat < 250 ∨ 16000 < p.toNat → ∃ t, exec (.vtTickPsWrite p) s = .next t ∧
      OnlyRegs [0x10010] s t ∧ t.flag VT_STATUS_TICK_REFUSED = true ∧ t.rd VT_STATUS_STATE = s.rd VT_STATUS_STATE) ∧
    (s.paused = true → exec .tsyncEdge s = .next s ∧ exec .tsyncMissing s = .next s) ∧
    (s.paused = false → s.sameEdge = true → exec .tsyncEdge s = .next { s with vt := { s.vt with pulse := some s.clk.fclk } }) ∧
    (s.sameEdge = true ↔ ∃ x, s.vt.pulse = some x ∧ s.clk.fclk < x + 43) ∧
    (∀ w, s.paused = false → s.sameEdge = false → s.vt.armed = some w → ∃ t, exec .tsyncEdge s = .next t ∧
      t.vt = { s.vt with vt := w, frac := 0, owed := 0, edge := (w + 65536) % 2 ^ 48, cyc := 0, armed := none,
                         pulse := some s.clk.fclk } ∧
      t.rd VT_STATUS_STATE = 1 ∧ t.flag VT_STATUS_VTSET_ARMED = false) ∧
    (s.paused = false → s.sameEdge = false → s.vt.armed = none → s.rd VT_STATUS_STATE ≠ 1 →
      exec .tsyncEdge s = .next { s with vt := { s.vt with pulse := some s.clk.fclk } }) ∧
    (s.paused = false → s.sameEdge = false → s.vt.armed = none → s.rd VT_STATUS_STATE = 1 → e.natAbs ≤ 8 → 0 < s.vt.cyc → s.vt.cyc < 2 ^ 40 →
      ∃ t, exec .tsyncEdge s = .next t ∧ OnlyRegs [0x1000C, 0x10014] { s with vt := t.vt } t ∧
      t.vt = { s.vt with vt := if e < 0 then s.vt.edge else s.vt.vt, frac := if e < 0 then 0 else s.vt.frac,
                         owed := if e < 0 then s.vt.owed else s.vt.owed + e.toNat * 2 ^ 24,
                         edge := (s.vt.edge + 65536) % 2 ^ 48, cyc := 0, pulse := some s.clk.fclk } ∧
      t.rd VT_RATE_RATE = (2 * 65536 * 2 ^ 24 + s.vt.cyc) / (2 * s.vt.cyc) % 2 ^ 32 ∧
      sextInt 16 (t.rd VT_EDGE_LAST_ERR) = e) ∧
    (s.paused = false → s.sameEdge = false → s.vt.armed = none → s.rd VT_STATUS_STATE = 1 → 8 < e.natAbs →
      ∃ t, exec .tsyncEdge s = .next t ∧ t.vt = { s.vt with pulse := some s.clk.fclk } ∧ t.rd VT_STATUS_STATE = 2 ∧ t.flag VT_STATUS_VT_SLIP = true ∧
      t.rd VT_EDGE_SLIPS = min (s.rd VT_EDGE_SLIPS + 1) 255 ∧ t.rd VT_RATE_RATE = s.rd VT_RATE_RATE) ∧
    (s.paused = false → s.rd VT_STATUS_STATE = 1 → vtGe s.vt.vt ((s.vt.edge + 64) % 2 ^ 48) = true →
      ∃ t, exec .tsyncMissing s = .next t ∧ t.vt = s.vt ∧ t.rd VT_STATUS_STATE = 2 ∧
      t.flag VT_STATUS_TSYNC_MISS = true ∧ t.rd VT_EDGE_MISSES = min (s.rd VT_EDGE_MISSES + 1) 255) ∧
    (v % 65536 ≠ 0 → ∃ t, exec .vtsetCommit s = .next t ∧ OnlyRegs [0x10044] s t ∧
      t.flag VT_COMMIT_ERR_VTSET = true ∧ t.rd VT_COMMIT_ERR_CAUSE = 3) ∧
    (v % 65536 = 0 → s.rd VT_STATUS_STATE ≠ 0 → (∃ q ∈ s.partsList, s.pmode q = 3) → ∃ t, exec .vtsetCommit s = .next t ∧
      OnlyRegs [0x10044] s t ∧ t.flag VT_COMMIT_ERR_VTSET = true ∧ t.rd VT_COMMIT_ERR_CAUSE = 2) ∧
    (v % 65536 = 0 → (s.rd VT_STATUS_STATE = 0 ∨ ∀ q ∈ s.partsList, s.pmode q ≠ 3) → ∃ t, exec .vtsetCommit s = .next t ∧
      t.vt = { s.vt with armed := some v } ∧ t.flag VT_STATUS_VTSET_ARMED = true ∧
      t.effReg 0x10018 = s.reg 0x10018 ∧ t.effReg 0x1001C = s.reg 0x1001C)

/-- The Calendar's commits (R9, R61, R63, R64): a refused one leaves every entry in effect; one that passes installs every
pending word; the holiday commit writes a HOLIDAY_BEGIN into the lowest entry that is empty in both copies. Which cause an
entry with several faults reports, and which a holiday with two, is the model's choice (log entries 42 and 177). -/
def Obligations.CalendarCommits : Prop :=
  ∀ s : State, s.regsOk → s.effOk →
    let all := s.calPending
    let v := s.rd VT_HOL_START_LO_VT + s.rd VT_HOL_START_HI_VT * 2 ^ 32
    let w := s.rd VT_HOL_END_LO_VT + s.rd VT_HOL_END_HI_VT * 2 ^ 32
    let p := s.rd VT_HOL_START_HI_PART
    let h : CalEnt := ⟨v, 5, p, w⟩
    let known := p = 255 ∨ s.declared p = true
    let refused := fun (cause : Nat) => ∃ t, exec .holidayCommit s = .next t ∧ OnlyRegs [0x10044] s t ∧
      t.flag VT_COMMIT_ERR_HOLIDAY = true ∧ t.rd VT_COMMIT_ERR_CAUSE = cause
    (∀ x, (all.filter fun x => ! (calDupsOf all).contains x.1).find?
        (fun x => (s.calCheck (all.filter fun x => ! (calDupsOf all).contains x.1) x.1 x.2).1 ≠ 0) = some x →
      ∃ t, exec .calCommit s = .next t ∧ t.eff = s.eff ∧ t.img = s.img ∧ t.flag VT_COMMIT_ERR_CAL = true ∧
        t.rd VT_COMMIT_ERR_ENTRY = x.1 % 64 ∧
        t.rd VT_COMMIT_ERR_CAUSE = (s.calCheck (all.filter fun x => ! (calDupsOf all).contains x.1) x.1 x.2).1 % 256) ∧
    (calDupsOf all = [] → all.find? (fun x => (s.calCheck all x.1 x.2).1 ≠ 0) = none →
      ∃ t, exec .calCommit s = .next t ∧ ∀ n, n < 64 → t.calEff n = s.calPend n) ∧
    (vtGe w v = false → refused 4) ∧
    (vtGe w v = true → ¬ known → refused 1) ∧
    (vtGe w v = true → known → v = w → ∃ t, exec .holidayCommit s = .next t ∧ t = { s with eff := t.eff } ∧
      ∀ n, n < 64 → t.calEff n = s.calEff n) ∧
    (vtGe w v = true → known → v ≠ w → (∃ x ∈ s.calLive, x.2 = h) → ∃ t, exec .holidayCommit s = .next t ∧
      t.rd VT_CAL_STAT_DUP = min (s.rd VT_CAL_STAT_DUP + 1) 255 ∧ ∀ n, n < 64 → t.calEff n = s.calEff n) ∧
    (vtGe w v = true → known → v ≠ w → (∀ x ∈ s.calLive, x.2 ≠ h) → (∀ n, n < 64 → s.calEmpty n = false) → refused 5) ∧
    (∀ n, vtGe w v = true → known → v ≠ w → (∀ x ∈ s.calLive, x.2 ≠ h) → n < 64 → s.calEmpty n = true →
      (∀ m, m < n → s.calEmpty m = false) → ∃ t, exec .holidayCommit s = .next t ∧ t.calEff n = h ∧ t.calPend n = h ∧
        ∀ m, m < 64 → m ≠ n → t.calEff m = s.calEff m ∧ t.calPend m = s.calPend m)

/-- Holidays and no-refresh windows (R60, R62, R64, R65): an entry that fires opens, replaces or closes the window of its
scope and is gone; one whose end has been reached fires void; VT at the end closes the window. That such an entry is void
(log entry 44) and that a second NOREF_OPEN replaces the window's end (136) are the model's choices. -/
def Obligations.CalendarWindows : Prop :=
  ∀ (n : Fin 64) (s : State), s.regsOk → s.effOk →
    let e := s.calEff n
    let known := e.part = 255 ∨ s.declared e.part = true
    let stop := e.arg % 2 ^ 48
    let gone := fun (t : State) => (t.calEff n).code = 0 ∧ ∀ m, m < 64 → m ≠ n.val → t.calEff m = s.calEff m
    let void := fun (c : Instr) => ∃ t, exec c s = .next t ∧ gone t ∧ t.vt.holidays = s.vt.holidays ∧
      t.vt.norefs = s.vt.norefs ∧ t.rd VT_CAL_STAT_VOID = min (s.rd VT_CAL_STAT_VOID + 1) 255
    (s.calNext n 5 = false → exec (.holidayBegin n) s = .next s) ∧
    (s.calNext n 5 = true → (¬ known ∨ vtGe s.vt.vt stop = true) → void (.holidayBegin n)) ∧
    (s.calNext n 5 = true → known → vtGe s.vt.vt stop = false → ∃ t, exec (.holidayBegin n) s = .next t ∧ gone t ∧
      t.vt.holidays = s.vt.holidays.filter (fun w => w.scope ≠ e.part) ++ [⟨e.part, stop⟩]) ∧
    (s.calNext n 3 = true → known → (∃ w ∈ s.vt.holidays, w.scope = e.part) → ∃ t, exec (.holidayEnd n) s = .next t ∧
      gone t ∧ t.vt.holidays = s.vt.holidays.filter fun w => w.scope ≠ e.part) ∧
    (s.calNext n 3 = true → (¬ known ∨ ∀ w ∈ s.vt.holidays, w.scope ≠ e.part) → void (.holidayEnd n)) ∧
    (∃ t, exec .holidayExpiry s = .next t ∧ t.vt.norefs = s.vt.norefs ∧ t.eff = s.eff ∧
      t.vt.holidays = s.vt.holidays.filter fun w => ! vtGe s.vt.vt w.stop) ∧
    (s.calNext n 6 = true → known → vtGe s.vt.vt stop = false → ∃ t, exec (.norefOpen n) s = .next t ∧ gone t ∧
      t.vt.norefs = s.vt.norefs.filter (fun w => w.scope ≠ e.part) ++ [⟨e.part, stop⟩]) ∧
    (s.calNext n 6 = true → (¬ known ∨ vtGe s.vt.vt stop = true) → void (.norefOpen n)) ∧
    (s.calNext n 4 = true → known → (∃ w ∈ s.vt.norefs, w.scope = e.part) → ∃ t, exec (.norefClose n) s = .next t ∧
      gone t ∧ t.vt.norefs = s.vt.norefs.filter fun w => w.scope ≠ e.part) ∧
    (s.calNext n 4 = true → (¬ known ∨ ∀ w ∈ s.vt.norefs, w.scope ≠ e.part) → void (.norefClose n)) ∧
    (exec .norefWindowExpiry s = .next { s with
      vt := { s.vt with norefs := s.vt.norefs.filter fun w => ! vtGe s.vt.vt w.stop } })

/-- MODE, CAP_OPEN, CAP_CLOSE, TASK_START and TASK_STOP entries (R57, R59, R62, R392, R395). -/
def Obligations.CalendarActions : Prop :=
  ∀ (n : Fin 64) (s : State), s.regsOk → s.effOk →
    let e := s.calEff n
    let gone := fun (t : State) => (t.calEff n).code = 0
    let v := s.capVt n e
    let first := ∀ x ∈ s.calLive, x.2.code = e.code → x.2.part = e.part → x.1 ≠ n.val →
      if x.2.vt = e.vt then n.val < x.1 else vtGe x.2.vt e.vt = true
    let due := (∃ x ∈ s.vt.lateCaps, x.1 = n.val) ∨
      (∃ x, s.img.lastSample.find? (fun x => x.1 = e.part) = some x ∧ vtGe x.2 e.vt = true) ∨
      vtGe s.vt.vt (vtAdd e.vt (s.rttMax e.part)) = true
    let origin := if e.arg % 2 ^ 48 = 0 then s.autoOrigin e.part else e.arg % 2 ^ 48
    (s.calNext n 2 = true → e.part < 16 → s.declared e.part = true → modeAllowed (s.pmode e.part) (e.arg % 8) = true →
      ∃ t, exec (.calMode n) s = .next t ∧ gone t ∧ t.pmode e.part = e.arg % 8) ∧
    (s.calNext n 2 = true → e.part < 16 → s.declared e.part = true → modeAllowed (s.pmode e.part) (e.arg % 8) = false →
      ∃ t, exec (.calMode n) s = .next t ∧ gone t ∧ t.pmode e.part = s.pmode e.part ∧
        t.rd VT_CAL_STAT_VOID = min (s.rd VT_CAL_STAT_VOID + 1) 255) ∧
    (e.code = 7 → s.paused = false → s.devMode ≠ 7 → s.declared e.part = true →
      (first → due → ∃ t, exec (.capOpen n) s = .next t ∧ gone t ∧
        t.img = { s.img with capEdges := s.img.capEdges ++ [⟨e.part, v, e.vt, true⟩] }) ∧
      (¬ (first ∧ due) → exec (.capOpen n) s = .next s)) ∧
    (e.code = 8 → s.paused = false → s.devMode ≠ 7 → s.declared e.part = true →
      (first → due → ∃ t, exec (.capClose n) s = .next t ∧ gone t ∧ t.img = { s.img with
        capEdges := s.img.capEdges ++ [⟨e.part, v, e.vt, false⟩]
        flushFrom := (e.part, v) :: s.img.flushFrom.filter fun y => y.1 ≠ e.part }) ∧
      (¬ (first ∧ due) → exec (.capClose n) s = .next s)) ∧
    (∀ g : Eng, s.calNext n 9 = true → e.part < 16 → s.declared e.part = true → s.pmode e.part = 3 →
      s.halted e.part = false → s.laneEngs e.part = [g.val] → s.engState g = 2 →
      ∃ t, exec (.taskStart n) s = .next t ∧ gone t ∧ t.engState g = 3 ∧ (t.eng g).stime = origin ∧
        (t.eng g).origin = origin) ∧
    (∀ g : Eng, e.code = 10 → s.paused = false → s.devMode ≠ 7 → (s.firstStop e.part).map (·.1) = some n.val → s.laneEngs e.part = [g.val] →
      s.engState g = 3 → vtGe (s.eng g).stime e.vt = true → s.stopLate g e.vt = false → (s.eng g).stopVt = none →
      ∃ t, exec (.taskStop n) s = .next t ∧ gone t ∧ (t.eng g).stopVt = some e.vt)

/-! Modes, start-up, power -/

/-- SET_MODE, START, their second check at the frame boundary, an unassigned command, and the end of draining and waking
(R392 to R396): causes 2 NOT_READY, 3 UNDECLARED, 4 TRANSITION, 5 NOT_RUN, 6 ALIGN, 1 BAD_CMD. A START that passes runs the
lane-bound tasks of its partitions from one origin, but those of a DEGRADED_HALTED partition (R373); a partition that leaves
RUN stops its lane-bound tasks at the boundary; one that goes to SLEEP drains. -/
def Obligations.ModeCommands : Prop :=
  ∀ (mode : BitVec 3) (parts : BitVec 16) (p : Fin 16) (s : State), s.regsOk →
    let ps := maskBits 16 parts.toNat
    let o := s.rd GLOBAL_START_ORIGIN_LO_VT + s.rd GLOBAL_START_ORIGIN_HI_VT * 2 ^ 32
    let ready := s.devMode = 2
    let named := ps ≠ [] ∧ ∀ q ∈ ps, s.declared q = true
    let refused := fun (c : Instr) (cause : Nat) => ∃ t, exec c s = .next t ∧ OnlyRegs [0x2C] s t ∧
      t.flag GLOBAL_MODE_STAT_CMD_REFUSED = true ∧ t.rd GLOBAL_MODE_STAT_CAUSE = cause
    refused .modeBadCmd 1 ∧
    (¬ ready → refused (.setMode mode parts) 2 ∧ refused (.partitionStart parts) 2) ∧
    (ready → ¬ named → refused (.setMode mode parts) 3 ∧ refused (.partitionStart parts) 3) ∧
    (ready → named → (∃ q ∈ ps, modeAllowed (s.pmode q) mode.toNat = false) → refused (.setMode mode parts) 4) ∧
    (ready → named → (∀ q ∈ ps, modeAllowed (s.pmode q) mode.toNat = true) → exec (.setMode mode parts) s = .next
      { s with modes := { s.modes with cmds := s.modes.cmds ++ [.setMode mode.toNat parts.toNat] } }) ∧
    (ready → named → (∃ q ∈ ps, s.pmode q ≠ 3) → refused (.partitionStart parts) 5) ∧
    (ready → named → (∀ q ∈ ps, s.pmode q = 3) → (∃ q ∈ ps, o % s.mPart q ≠ 0) → refused (.partitionStart parts) 6) ∧
    (ready → named → (∀ q ∈ ps, s.pmode q = 3 ∧ o % s.mPart q = 0) → exec (.partitionStart parts) s = .next
      { s with modes := { s.modes with cmds := s.modes.cmds ++ [.start parts.toNat o] } }) ∧
    (s.boundaryDone = false → exec .modeCommandEffect s = .next s) ∧
    (∀ rest, s.modes.cmds = .start parts.toNat (o % 2 ^ 48) :: rest → s.pauses.any = false → s.boundaryDone = true →
      s.modeCheck (.start parts.toNat (o % 2 ^ 48)) = 0 → ps = [p.val] → ∀ g : Eng, s.laneEngs p = [g.val] →
      ∃ t, exec .modeCommandEffect s = .next t ∧ t.modes = { s.modes with cmds := rest } ∧
        t.flag GLOBAL_MODE_STAT_MODE_CHANGED = true ∧ t.pmode p = s.pmode p ∧
        (s.halted p = true → t.engs = s.engs ∧ t.engState g = s.engState g) ∧
        (s.halted p = false → s.engState g = 2 → t.engState g = 3 ∧ (t.eng g).origin = (t.eng g).stime ∧
          (t.eng g).stime = if o % 2 ^ 48 = 0 then s.autoOrigin p else o % 2 ^ 48)) ∧
    (∀ rest, s.modes.cmds = .setMode mode.toNat parts.toNat :: rest → s.pauses.any = false → s.boundaryDone = true →
      s.modeCheck (.setMode mode.toNat parts.toNat) = 0 → ps = [p.val] → s.pmode p = 3 → mode ≠ 3 → s.st.slices = [] →
      ∀ g : Eng, s.laneEngs p = [g.val] → s.engState g = 3 → (s.eng g).stopVt = none →
      ∃ t, exec .modeCommandEffect s = .next t ∧ (t.eng g).stopVt = some s.vt.vt ∧ t.engState g = 3 ∧
        t.img.flushFrom = (p.val, s.vt.vt) :: s.img.flushFrom.filter (fun x => x.1 ≠ p.val) ∧
        (mode = 6 → (t.rd GLOBAL_PDRAIN_DRAINING).testBit p = true)) ∧
    (∀ c rest, s.modes.cmds = c :: rest → s.pauses.any = false → s.devMode ≠ 7 → s.boundaryDone = true → s.modeCheck c ≠ 0 → s.modeCheck c < 256 →
      ∃ t, exec .modeCommandEffect s = .next t ∧ OnlyRegs [0x2C] { s with modes := { s.modes with cmds := rest } } t ∧
        t.flag GLOBAL_MODE_STAT_CMD_REFUSED = true ∧ t.rd GLOBAL_MODE_STAT_CAUSE = s.modeCheck c) ∧
    (∀ rest, s.modes.cmds = .setMode mode.toNat parts.toNat :: rest → s.pauses.any = false → s.boundaryDone = true →
      s.modeCheck (.setMode mode.toNat parts.toNat) = 0 → ∃ t, exec .modeCommandEffect s = .next t ∧
        t.modes = { s.modes with cmds := rest } ∧ t.flag GLOBAL_MODE_STAT_MODE_CHANGED = true ∧
        ∀ q ∈ ps, t.pmode q = mode.toNat) ∧
    ((s.rd GLOBAL_PDRAIN_DRAINING).testBit p = true → s.partDrained p = true → ∃ t, exec (.partitionDrained p) s = .next t ∧
      OnlyRegs [0x1C] s t ∧ t.rd GLOBAL_PDRAIN_WAKING = s.rd GLOBAL_PDRAIN_WAKING ∧
      ∀ q, (t.rd GLOBAL_PDRAIN_DRAINING).testBit q = (decide (q ≠ p.val) && (s.rd GLOBAL_PDRAIN_DRAINING).testBit q)) ∧
    ((s.rd GLOBAL_PDRAIN_WAKING).testBit p = true → (∀ k ∈ gateBlocks, p.val ∈ s.blockParts k → s.gateEn k = true →
        s.flag (CLKPWR_GATE_GATED k) = false) → ∃ t, exec (.partitionWakeComplete p) s = .next t ∧ OnlyRegs [0x1C] s t ∧
      t.rd GLOBAL_PDRAIN_DRAINING = s.rd GLOBAL_PDRAIN_DRAINING ∧
      ∀ q, (t.rd GLOBAL_PDRAIN_WAKING).testBit q = (decide (q ≠ p.val) && (s.rd GLOBAL_PDRAIN_WAKING).testBit q))

/-- Deep-Sleep (R334, R394, R397 to R399): entry needs READY, every partition asleep and drained, and nothing busy (causes 2,
7, 8), and takes VLANE off unless a block of class 3 or 4 keeps its clocks; an exit needs DEEP. With a PLL locked the exit ends
the pause and trains the lanes and the host link; once they have trained, after 1.5 ms at the latest, the device is
READY (the two commands of the exit: log entry 110). -/
def Obligations.DeepSleep : Prop :=
  ∀ s : State, s.regsOk →
    let asleep := ∀ p ∈ s.partsList, s.pmode p = 6 ∧ (s.rd GLOBAL_PDRAIN_DRAINING).testBit p = false
    let refused := fun (c : Instr) (cause : Nat) => ∃ t, exec c s = .next t ∧ OnlyRegs [0x2C] s t ∧
      t.flag GLOBAL_MODE_STAT_CMD_REFUSED = true ∧ t.rd GLOBAL_MODE_STAT_CAUSE = cause
    (s.devMode ≠ 2 → refused .deepEnter 2) ∧
    (s.devMode = 2 → ¬ asleep → refused .deepEnter 7) ∧
    (s.devMode = 2 → asleep → s.deepBusy = true → refused .deepEnter 8) ∧
    (s.devMode = 2 → asleep → s.deepBusy = false → ∃ t, exec .deepEnter s = .next t ∧ t.devMode = 7 ∧
      t.pauses.deep = true ∧ t.modes = { s.modes with exiting := false, retrains := none } ∧ t.vt = s.vt ∧
      t.engs = s.engs ∧ t.dram = s.dram ∧
      (t.clocks.vlaneOff = false ↔ ∃ n ∈ gateBlocks, (n / 128 = 3 ∨ n / 128 = 4) ∧ s.erd (CLKPWR_GATE_DEEP_EN n) = 1) ∧ t.flag GLOBAL_MODE_STAT_MODE_CHANGED = true) ∧
    (s.devMode ≠ 7 → refused .deepExit 2) ∧
    (s.devMode = 7 → exec .deepExit s = .next { s with
      modes := { s.modes with exiting := true }, clocks := { s.clocks with vlaneOff := false } }) ∧
    (s.devMode = 7 → s.modes.exiting = true → s.clocks.vlaneOff = false → s.modes.retrains = none →
      (s.pauses.trip = false → s.flag CLKPWR_STATUS_HCK_LOST = false →
        (s.flag CLKPWR_STATUS_PLL0_LOCK = true ∨ s.flag CLKPWR_STATUS_PLL1_LOCK = true) →
        ∃ t, exec .deepExitComplete s = .next t ∧ t.devMode = 7 ∧ t.modes = { s.modes with retrains := some s.clk.uptime } ∧
          t.pauses.deep = false ∧ t.flag CLKPWR_STATUS_ALM_ROSC = false ∧ t.dram = s.dram) ∧
      (s.pauses.trip = true ∨ s.flag CLKPWR_STATUS_HCK_LOST = true ∨
        (s.flag CLKPWR_STATUS_PLL0_LOCK = false ∧ s.flag CLKPWR_STATUS_PLL1_LOCK = false) →
        exec .deepExitComplete s = .next s)) ∧
    (∀ x, s.devMode = 7 → s.modes.exiting = true → s.clocks.vlaneOff = false → s.modes.retrains = some x →
      s.pauses.any = false →
      (s.deepTrained x = true → ∃ t, exec .deepExitComplete s = .next t ∧ t.devMode = 2 ∧
        t.modes = { s.modes with exiting := false, retrains := none } ∧ t.pauses = s.pauses ∧
        t.flag GLOBAL_MODE_STAT_DEEP_EXITED = true ∧ t.flag GLOBAL_MODE_STAT_MODE_CHANGED = true ∧ t.dram = s.dram) ∧
      (x + 1500 ≤ s.clk.uptime → s.deepTrained x = true) ∧
      (s.deepTrained x = false → exec .deepExitComplete s = .next s))

/-- Resets and power (R404 to R407, R416, R418): a fall of PWROK loses all but what is blown; RESET_N low for 1 µs resets
all but what a reset keeps, shorter than 0.5 µs nothing, between them either; CUBE_ID shows the straps latched; RESET needs
READY and its key (causes 2, 9), and while a reset asked for waits for its RESPONSE it adds nothing (log entry 106). -/
def Obligations.ResetsAndPower : Prop :=
  ∀ (ns : Nat) (straps : BitVec 3) (key : BitVec 8) (s : State), s.regsOk →
    let cold := { State.reset with
      pending := s.pending, free := s.free, pins := { s.pins with pwrok := false }
      mcs := s.mcs.map fun m => { repaired := m.repaired }
      fuses := { s.fuses with cmd := none, held := false } : State }
    let warm := fun (t : State) => t.devMode = 0 ∧ t.flag GLOBAL_RESET_CAUSE_WARM = true ∧ t.vt = {} ∧
      t.engs = State.reset.engs ∧ t.caps = State.reset.caps ∧ t.img = State.reset.img ∧ t.eff = [] ∧
      t.fuses = { s.fuses with held := s.flag FUSE_OVR_HOLD } ∧ t.tap = s.tap ∧ t.filled = s.filled
    let refused := fun (cause : Nat) => ∃ t, exec (.modeReset key) s = .next t ∧ OnlyRegs [0x2C] s t ∧
      t.flag GLOBAL_MODE_STAT_CMD_REFUSED = true ∧ t.rd GLOBAL_MODE_STAT_CAUSE = cause
    (s.pins.pwrok = true → s.fuses.cmd = none →
      exec .pwrokFall s = .next cold ∧ exec .vinExcursion s = .next cold ∧ exec .vauxUndervoltage s = .next cold) ∧
    (s.pins.pwrok = true → ∃ t, exec .pwrokFall s = .next t ∧ t.csr = State.reset.csr ∧ t.dram = [] ∧ t.masks = [] ∧
      t.pins.pwrok = false ∧ t.engs = State.reset.engs) ∧
    (s.pins.pwrok = false → ∃ t, exec (.pwrokRise true straps) s = .next t ∧ t = { s with
      clk := {}, csr := t.csr
      pins := { s.pins with pwrok := true, straps := if s.pins.resetN then straps.toNat else s.pins.straps } } ∧
      t.rd HLINK_STATUS_CUBE_ID = t.pins.straps % 8) ∧
    (s.pins.resetN = true → ns ≤ 500 → exec (.resetNAssert ns) s = .next s) ∧
    (s.pins.resetN = true → s.pins.pwrok = true → s.fuses.cmd = none → 1000 ≤ ns →
      ∃ t, exec (.resetNAssert ns) s = .next t ∧ t.pins = { s.pins with resetN := false } ∧ warm t ∧
        t.flag GLOBAL_RESET_CAUSE_PIN = true) ∧
    (s.pins.resetN = true → 500 < ns → ns < 1000 → ∃ t, exec (.resetNAssert ns) s = .next t ∧
      (t = { s with free := s.free + 1 } ∨ t.pins.resetN = false)) ∧
    (s.pins.resetN = false → ∃ t, exec (.resetNDeassert straps) s = .next t ∧ t = { s with
      clk := {}, csr := t.csr, pins := { s.pins with resetN := true, straps := straps.toNat } } ∧
      t.rd HLINK_STATUS_CUBE_ID = straps.toNat) ∧
    (s.modes.resetDue ≠ some true → s.devMode ≠ 2 → refused 2) ∧
    (s.modes.resetDue ≠ some true → s.devMode = 2 → key ≠ 0x5E → refused 9) ∧
    (s.modes.resetDue = some true → s.devMode = 2 → key = 0x5E → exec (.modeReset key) s = .next s) ∧
    (s.devMode = 2 → key = 0x5E → s.fuses.cmd = none → s.modes.resetDue ≠ some true →
      ∃ t, exec (.modeReset key) s = .next t ∧ warm t ∧
      t.pins = s.pins ∧ t.flag GLOBAL_RESET_CAUSE_HOST = true)

/-- Start-up in HOLD and the end of memory training (R399, R402): the rails, then the first PLL to lock, which lets the data
plane leave reset into BOOT; with none locked HCK is lost. -/
def Obligations.StartUp : Prop :=
  ∀ (i : Fin 2) (s : State), s.regsOk →
    let hold := fun (n : Nat) => s.devMode = 0 ∧ s.rd GLOBAL_BOOT_STEP = n ∧ s.pins.pwrok = true ∧ s.pins.resetN = true
    (hold 1 → s.pauses.rail = false → ∃ t, exec .railRampComplete s = .next t ∧ OnlyRegs [0x30] s t ∧
      t.rd GLOBAL_BOOT_STEP = 2) ∧
    (hold 2 → s.flag CLKPWR_STATUS_PLL0_LOCK = false → s.flag CLKPWR_STATUS_PLL1_LOCK = false →
      s.flag (pllRetF i) = false → s.pauses.rail = true → ∃ t, exec (.pllLock i) s = .next t ∧ t.devMode = 0 ∧
      t.rd GLOBAL_BOOT_STEP = 2 ∧ t.flag (pllLockF i) = true) ∧
    (hold 2 → s.flag CLKPWR_STATUS_PLL0_LOCK = false → s.flag CLKPWR_STATUS_PLL1_LOCK = false →
      s.flag (pllRetF i) = false → s.flag CLKPWR_STATUS_HCK_LOST = false → s.pauses.rail = false →
      ∃ t, exec (.pllLock i) s = .next t ∧ t.devMode = 1 ∧ t.rd GLOBAL_BOOT_STEP = 3 ∧ t.flag (pllLockF i) = true ∧ t.rd CLKPWR_STATUS_PRIMARY = i.val) ∧
    (hold 2 → s.flag CLKPWR_STATUS_PLL0_LOCK = false → s.flag CLKPWR_STATUS_PLL1_LOCK = false →
      s.flag CLKPWR_STATUS_HCK_LOST = false → ∃ t, exec .pllLockTimeout s = .next t ∧
      t.flag CLKPWR_STATUS_HCK_LOST = true ∧ t.flag CLKPWR_NMI_HCK_LOST = true ∧ t.pauses.hck = true) ∧
    (s.devMode = 1 → s.rd GLOBAL_BOOT_STEP = 5 → s.modes.memReady = false → s.paused = false →
      (∀ c, c < 34 → s.rd (MC_TRN_STAT_LAST_KIND c) ≠ 0 ∨ s.mcState c = 4 ∨
        (32 ≤ c ∧ s.flag MC_LAYER_STAT_SPARE_BAD = true)) →
      ∃ t, exec .memoryTrainingComplete s = .next t ∧ t.rd GLOBAL_BOOT_STEP = 6 ∧
        t.modes = { s.modes with memReady := true, kept := {} })

/-- Root PLLs, the clock monitor, phases and rails (R321 to R326, R335 to R338, R346): in a loss of HCK the windows that count
are those of a locked primary after the one in progress at its relock; a phase that fails while the Almanac restarts is
disabled at once, its molt waits. -/
def Obligations.ClocksAndRails : Prop :=
  ∀ (i : Fin 2) (count : BitVec 16) (p : Fin 28) (r : Fin 4) (s : State), s.regsOk →
    let good := 4352 ≤ count.toNat ∧ count.toNat ≤ 17408
    let locked := s.flag (pllLockF (s.rd CLKPWR_STATUS_PRIMARY)) = true
    let watched := s.devMode ≠ 0 ∧ (s.devMode ≠ 7 ∨ s.flag CLKPWR_STATUS_HCK_LOST = true ∨ (s.modes.exiting = true ∧ locked))
    (s.flag (pllLockF i) = true → s.flag (pllLockF (1 - i.val)) = true → s.rd CLKPWR_STATUS_PRIMARY = i.val →
      s.flag CLKPWR_STATUS_HCK_LOST = false → ∃ t, exec (.pllUnlock i) s = .next t ∧ t.flag (pllLockF i) = false ∧
      t.flag CLKPWR_STATUS_SWITCHING = true ∧ t.flag CLKPWR_STATUS_ALM_ROSC = true ∧ t.pauses.switchover = true) ∧
    (s.flag (pllLockF i) = true → s.flag (pllLockF (1 - i.val)) = true → s.rd CLKPWR_STATUS_PRIMARY ≠ i.val →
      ∃ t, exec (.pllUnlock i) s = .next t ∧ OnlyRegs [0x800000] { s with clocks := t.clocks } t ∧
      t.flag (pllLockF i) = false ∧ t.flag CLKPWR_STATUS_STANDBY_OK = false) ∧
    (s.flag CLKPWR_STATUS_SWITCHING = true → ∃ t, exec .pllSwitchoverComplete s = .next t ∧
      t.pauses = { s.pauses with switchover := false, since := t.pauses.since } ∧
      t.flag CLKPWR_STATUS_SWITCHING = false ∧ t.rd CLKPWR_STATUS_PRIMARY = 1 - s.rd CLKPWR_STATUS_PRIMARY ∧
      t.flag CLKPWR_STATUS_STANDBY_OK = s.flag (pllLockF (s.rd CLKPWR_STATUS_PRIMARY)) ∧
      t.rd CLKPWR_COUNT_SWITCHOVERS = min (s.rd CLKPWR_COUNT_SWITCHOVERS + 1) (2 ^ CLKPWR_COUNT_SWITCHOVERS.w - 1)) ∧
    (s.pllTries i = true → s.flag (pllRetF i) = false → ∃ t, exec (.pllRelock i) s = .next t ∧
      OnlyRegs [0x800000] { s with clocks := t.clocks } t ∧ t.flag (pllLockF i) = true ∧ t.pllTries i = false) ∧
    (s.pllTries i = true → ∃ t, exec (.pllRelockTimeout i) s = .next t ∧
      t.flag (pllRetF i) = true ∧ t.pllTries i = false) ∧
    (¬ watched → exec (.clockMonitorWindow count) s = .next s) ∧
    (watched → s.flag CLKPWR_STATUS_HCK_LOST = false → good →
      ∃ t, exec (.clockMonitorWindow count) s = .next t ∧ OnlyRegs [(CLKPWR_MON_LAST).addr] s t ∧
      t.rd CLKPWR_MON_LAST = count.toNat) ∧
    (s.devMode ≠ 0 → s.flag CLKPWR_STATUS_HCK_LOST = true → good → locked →
      ((s.clocks.skipWin = true ∨ s.clocks.goodWindows + 1 < max 1 (s.rd CLKPWR_CFG_RESUME_WINDOWS)) →
        ∃ t, exec (.clockMonitorWindow count) s = .next t ∧ OnlyRegs [(CLKPWR_MON_LAST).addr] { s with clocks := t.clocks } t ∧
        t.rd CLKPWR_MON_LAST = count.toNat ∧ t.clocks = { s.clocks with
          skipWin := false, goodWindows := s.clocks.goodWindows + if s.clocks.skipWin then 0 else 1 }) ∧
      (s.clocks.skipWin = false → max 1 (s.rd CLKPWR_CFG_RESUME_WINDOWS) ≤ s.clocks.goodWindows + 1 →
        ∃ t, exec (.clockMonitorWindow count) s = .next t ∧ t.flag CLKPWR_STATUS_HCK_LOST = false ∧ t.pauses.hck = false)) ∧
    (watched → s.flag CLKPWR_STATUS_HCK_LOST = false → ¬ good →
      ∃ t, exec (.clockMonitorWindow count) s = .next t ∧ t.rd CLKPWR_MON_LAST = count.toNat ∧
      t.flag CLKPWR_STATUS_HCK_LOST = true ∧ t.flag CLKPWR_NMI_HCK_LOST = true ∧ t.pauses.hck = true) ∧
    (s.rd (CLKPWR_PHASE_STATE p) = 1 → ∃ t, exec (.phaseFault p) s = .next t ∧
      OnlyRegs [(CLKPWR_PHASE_STATE p).addr] s t ∧ t.rd (CLKPWR_PHASE_STATE p) = 2) ∧
    (∀ q : Fin 28, s.rd (CLKPWR_PHASE_STATE p) = 0 → q ≠ p → s.rd (CLKPWR_PHASE_STATE q) = 1 →
      (∀ k, k < q.val → s.rd (CLKPWR_PHASE_STATE k) ≠ 1) → s.restarting = false → ∃ t, exec (.phaseFault p) s = .next t ∧
      t.rd (CLKPWR_PHASE_STATE p) = 2 ∧ t.rd (CLKPWR_PHASE_STATE q) = 0 ∧
      t.rd (CLKPWR_PHASE_RAIL q) = s.rd (CLKPWR_PHASE_RAIL p)) ∧
    (s.rd (CLKPWR_PHASE_STATE p) = 0 → s.restarting = true → ∃ t, exec (.phaseFault p) s = .next t ∧
      OnlyRegs [(CLKPWR_PHASE_STATE p).addr] { s with alm := t.alm } t ∧ t.rd (CLKPWR_PHASE_STATE p) = 2 ∧
      t.rd (CLKPWR_PHASE_RAIL p) = 7) ∧
    (∃ t, exec (.railFault r) s = .next t ∧ t.pauses.rail = true ∧ t.flag (CLKPWR_RAIL_FAULT r) = true ∧
      t.flag CLKPWR_NMI_RAIL_FAULT = true ∧
      (r.val = 1 ∨ r.val = 2 → t.dram = [] ∧ t.masks = [] ∧ t.filled = 0) ∧
      (r.val ≠ 1 → r.val ≠ 2 → t.dram = s.dram ∧ t.masks = s.masks))

/-- Clock gating (R330 to R333): a request waits for the block to idle, is refused after its limit, and a woken block is
gated again after 1024 FCLK; COMMIT installs the enables or names the first block that fails. -/
def Obligations.ClockGating : Prop :=
  ∀ (n : Fin 1024) (s : State), s.regsOk → s.effOk →
    let fault := s.gateFault s.img.active fun k => (s.reg (0x801000 + 4 * k)).toNat
    (s.paused = false → s.devMode ≠ 0 → n.val ∈ gateBlocks → s.gateEn n = false → s.gateWithheld n = false →
      s.flag (CLKPWR_GATE_GATED n) = false → s.flag (CLKPWR_GATE_WAITING n) = false → s.gates.refused = [] →
      s.gates.woken = [] → ∃ t, exec (.gateRequest n) s = .next t ∧ OnlyRegs [(CLKPWR_GATE_WAITING n).addr] s t ∧
      t.flag (CLKPWR_GATE_WAITING n) = true) ∧
    (s.flag (CLKPWR_GATE_WAITING n) = true → s.blockBusy n = 0 → s.gateEn n = true → ∃ t, exec (.gateComplete n) s = .next t ∧
      OnlyRegs [(CLKPWR_GATE_WAITING n).addr] s t ∧ t.flag (CLKPWR_GATE_WAITING n) = false ∧
      t.flag (CLKPWR_GATE_GATED n) = s.flag (CLKPWR_GATE_GATED n)) ∧
    (s.flag (CLKPWR_GATE_WAITING n) = true → s.blockBusy n = 0 → s.gateEn n = false → n.val / 128 ≠ 3 → ∃ t, exec (.gateComplete n) s = .next t ∧
      OnlyRegs [(CLKPWR_GATE_WAITING n).addr] s t ∧ t.flag (CLKPWR_GATE_WAITING n) = false ∧
      t.flag (CLKPWR_GATE_GATED n) = true) ∧
    (s.flag (CLKPWR_GATE_WAITING n) = true → s.blockBusy n ≠ 0 → s.flag CLKPWR_GATE_COMMIT_FORCE = false →
      ∃ t, exec (.gateWaitTimeout n) s = .next t ∧ t.flag (CLKPWR_GATE_WAITING n) = false ∧
      t.flag CLKPWR_GATE_STAT_GATE_REFUSED = true ∧
      t.gates = { s.gates with
        refused := (n.val, s.powerState n) :: s.gates.refused.filter fun x => x.1 ≠ n.val }) ∧
    (wakeable n = true → s.paused = false → s.unitOut n = false → s.flag (CLKPWR_GATE_GATED n) = true →
      ∃ t, exec (.gateWake n) s = .next t ∧ t.flag (CLKPWR_GATE_GATED n) = false ∧
      t.gates = { s.gates with woken := (n.val, s.clk.fclk) :: s.gates.woken.filter fun x => x.1 ≠ n.val }) ∧
    (∀ w, s.gates.woken.find? (fun x => x.1 = n.val) = some w → s.paused = false → w.2 + 1024 ≤ s.clk.fclk →
      ∃ t, exec (.gateIdleRegate n) s = .next t ∧ t.gates = { s.gates with
        woken := s.gates.woken.filter fun x => x.1 ≠ n.val } ∧
      (s.gateEn n = false → t.flag (CLKPWR_GATE_WAITING n) = true)) ∧
    (∀ k c, fault = some (k, c) → ∃ t, exec .gateCommit s = .next t ∧
      OnlyRegs [(CLKPWR_GATE_COMMIT_CAUSE).addr] s t ∧ t.flag CLKPWR_GATE_COMMIT_COMMIT_ERR = true ∧
      t.rd CLKPWR_GATE_COMMIT_CAUSE = c ∧ t.rd CLKPWR_GATE_COMMIT_ERR_BLOCK = k) ∧
    (fault = none → ∃ t, exec .gateCommit s = .next t ∧ ∀ k ∈ gateBlocks,
      t.effReg (0x801000 + 4 * k) = s.reg (0x801000 + 4 * k)) ∧
    (exec .gateRetry s = .next { s with gates := { s.gates with refused := [] } })
/-! Pattern engines. `s.ready e w`: engine e runs, is not held, waits for nothing, and has fetched the word w. -/

/-- ADD to SHR with register operands (R68, R83): G0 reads as zero and discards writes, arithmetic is modulo 2^64, shift
amounts are bits [5:0]; gd takes the result, Z, N and C are set, nothing else changes. -/
def Obligations.RegisterArithmetic : Prop :=
  ∀ (e : Eng) (gd ga gb : Fin 16) (s : State), s.regsOk →
    let x := s.getG e ga
    let y := s.getG e gb
    (∀ t : State, t.getG e 0 = 0) ∧
    (s.ready e (fmtA 2 gd ga gb 0) = true → ∃ t, exec (.add e gd ga gb) s = .next t ∧
      AluDone e gd (x + y) (decide (2 ^ 64 ≤ x.toNat + y.toNat)) s t) ∧
    (s.ready e (fmtA 3 gd ga gb 0) = true → ∃ t, exec (.sub e gd ga gb) s = .next t ∧
      AluDone e gd (x - y) (decide (x.toNat < y.toNat)) s t) ∧
    (s.ready e (fmtA 4 gd ga gb 0) = true → ∃ t, exec (.andReg e gd ga gb) s = .next t ∧
      AluDone e gd (x &&& y) false s t) ∧
    (s.ready e (fmtA 5 gd ga gb 0) = true → ∃ t, exec (.orReg e gd ga gb) s = .next t ∧
      AluDone e gd (x ||| y) false s t) ∧
    (s.ready e (fmtA 6 gd ga gb 0) = true → ∃ t, exec (.xorReg e gd ga gb) s = .next t ∧
      AluDone e gd (x ^^^ y) false s t) ∧
    (s.ready e (fmtA 7 gd ga gb 0) = true → ∃ t, exec (.shl e gd ga gb) s = .next t ∧
      AluDone e gd (x <<< (y.toNat % 64)) false s t) ∧
    (s.ready e (fmtA 8 gd ga gb 0) = true → ∃ t, exec (.shr e gd ga gb) s = .next t ∧
      AluDone e gd (x >>> (y.toNat % 64)) false s t)

/-- The same with an immediate (R83): 18 bits sign-extended, or a shift by 6 bits. -/
def Obligations.ImmediateArithmetic : Prop :=
  ∀ (e : Eng) (gd ga : Fin 16) (imm : BitVec 18) (sh : BitVec 6) (s : State), s.regsOk →
    let x := s.getG e ga
    let i : W64 := imm.signExtend 64
    (s.ready e (fmtB 10 gd ga imm.toNat) = true → ∃ t, exec (.addImm e gd ga imm) s = .next t ∧
      AluDone e gd (x + i) (decide (2 ^ 64 ≤ x.toNat + i.toNat)) s t) ∧
    (s.ready e (fmtB 11 gd ga imm.toNat) = true → ∃ t, exec (.andImm e gd ga imm) s = .next t ∧
      AluDone e gd (x &&& i) false s t) ∧
    (s.ready e (fmtB 12 gd ga imm.toNat) = true → ∃ t, exec (.orImm e gd ga imm) s = .next t ∧
      AluDone e gd (x ||| i) false s t) ∧
    (s.ready e (fmtB 13 gd ga imm.toNat) = true → ∃ t, exec (.xorImm e gd ga imm) s = .next t ∧
      AluDone e gd (x ^^^ i) false s t) ∧
    (s.ready e (fmtB 14 gd ga sh.toNat) = true → ∃ t, exec (.shlImm e gd ga sh) s = .next t ∧
      AluDone e gd (x <<< sh.toNat) false s t) ∧
    (s.ready e (fmtB 15 gd ga sh.toNat) = true → ∃ t, exec (.shrImm e gd ga sh) s = .next t ∧
      AluDone e gd (x >>> sh.toNat) false s t)

/-- NOP, MOV and LI (R83, R87, R88): no flag changes; MOV from the PC gives the MOV's own address (DEDUCED, log entry
20). `reads` and `writes` are the table of state registers with their widths (R69): AX_STEP and AY_STEP read back sign-extended;
STATUS shows flags, INTRAP, a held mark, an active stream and the busy tags (R70), its flags alone are writable; TRAPCAUSE
takes 64 bits (the model's choice, log entry 184); ACFG and DGCFG take legal values alone (R71, R72). -/
def Obligations.MovesAndConstants : Prop :=
  ∀ (e : Eng) (gd ga : Fin 16) (n : BitVec 8) (imm : BitVec 18) (k : Fin 4) (h : BitVec 16) (s : State), s.regsOk →
    let next := (s.eng e).pc + 4
    let g := s.eng e
    let v := s.getG e ga
    let reads : List (Nat × W64) := [
      (0x02, BitVec.ofNat 64 (g.desc.cls % 8)), (0x03, g.trapcause), (0x04, g.trappc.setWidth 64),
      (0x05, BitVec.ofNat 64 (g.desc.part % 16)), (0x08, g.lc[0].setWidth 64), (0x09, g.lc[1].setWidth 64),
      (0x0A, g.lc[2].setWidth 64), (0x0B, g.lc[3].setWidth 64), (0x10, g.ax.val.setWidth 64), (0x11, g.ax.lim.setWidth 64),
      (0x12, g.ax.step.signExtend 64), (0x13, g.ax.wrap.setWidth 64), (0x14, g.ay.val.setWidth 64),
      (0x15, g.ay.lim.setWidth 64), (0x16, g.ay.step.signExtend 64), (0x17, g.ay.wrap.setWidth 64), (0x18, g.az.setWidth 64),
      (0x19, g.azLim.setWidth 64), (0x1A, g.acfg.setWidth 64), (0x20, g.dg), (0x21, g.dgcfg.setWidth 64),
      (0x22, BitVec.ofNat 64 g.stime), (0x23, BitVec.ofNat 64 s.vt.vt), (0x24, g.barto.setWidth 64)]
    let writes : List (Nat × Engine) := [
      (0x01, { g with flags := v.setWidth 6 }), (0x03, { g with trapcause := v }), (0x04, { g with trappc := v.setWidth 24 }),
      (0x08, { g with lc := g.lc.set 0 (v.setWidth 32) }), (0x09, { g with lc := g.lc.set 1 (v.setWidth 32) }),
      (0x0A, { g with lc := g.lc.set 2 (v.setWidth 32) }), (0x0B, { g with lc := g.lc.set 3 (v.setWidth 32) }),
      (0x10, { g with ax := { g.ax with val := v.setWidth 24 } }), (0x11, { g with ax := { g.ax with lim := v.setWidth 24 } }),
      (0x12, { g with ax := { g.ax with step := v.setWidth 24 } }), (0x13, { g with ax := { g.ax with wrap := v.setWidth 24 } }),
      (0x14, { g with ay := { g.ay with val := v.setWidth 24 } }), (0x15, { g with ay := { g.ay with lim := v.setWidth 24 } }),
      (0x16, { g with ay := { g.ay with step := v.setWidth 24 } }), (0x17, { g with ay := { g.ay with wrap := v.setWidth 24 } }),
      (0x18, { g with az := v.setWidth 8 }), (0x19, { g with azLim := v.setWidth 8 }), (0x1A, { g with acfg := v.setWidth 15 }),
      (0x20, { g with dg := v }), (0x21, { g with dgcfg := v.setWidth 13 }), (0x24, { g with barto := v.setWidth 32 })]
    (s.ready e (fmtA 1 0 0 0 0) = true → ∃ t, exec (.nop e) s = .next t ∧ Issued e { s.eng e with pc := next } s t) ∧
    (s.ready e (fmtA 9 gd ga 0 0) = true → ∃ t, exec (.mov e (.reg gd ga)) s = .next t ∧ Moved e gd (s.getG e ga) s t) ∧
    (∀ p ∈ reads, n.toNat = p.1 → s.ready e (fmtA 9 gd 0 0 (0x1000 + n.toNat)) = true →
      ∃ t, exec (.mov e (.fromSr gd n)) s = .next t ∧ Moved e gd p.2 s t) ∧
    (s.ready e (fmtA 9 gd 0 0 0x1001) = true → (∀ d ∈ g.drqs, d.tag < 16) →
      ∃ t w, exec (.mov e (.fromSr gd 1)) s = .next t ∧ Moved e gd w s t ∧ ∀ i, i < 64 →
        w.getLsbD i = if i < 6 then g.flags.getLsbD i else if i = 8 then s.flag (ENG_STATE_INTRAP e)
          else if i = 9 then g.stg.mark.isSome else if i = 10 then g.vs.isSome
          else if 16 ≤ i ∧ i < 32 then g.drqs.any (fun d => d.tag = i - 16) else false) ∧
    (s.ready e (fmtA 9 gd 0 0 0x1000) = true →
      ∃ t, exec (.mov e (.fromSr gd 0)) s = .next t ∧ Moved e gd ((s.eng e).pc.setWidth 64) s t) ∧
    (∀ p ∈ writes, n.toNat = p.1 → s.ready e (fmtA 9 0 ga 0 (0x2000 + n.toNat)) = true →
      (n = 0x1A → bits v.toNat 5 5 ≤ 16 ∧ bits v.toNat 10 5 ≤ 16) → (n = 0x21 → bits v.toNat 2 5 ≤ 23 ∧ bits v.toNat 7 5 ≤ 23) →
      ∃ t, exec (.mov e (.toSr n ga)) s = .next t ∧ Issued e { p.2 with pc := next } s t) ∧
    (s.ready e (fmtB 16 gd 0 imm.toNat) = true →
      ∃ t, exec (.li e gd (.sext imm)) s = .next t ∧ Moved e gd (imm.signExtend 64) s t) ∧
    (s.ready e (fmtB 16 gd (8 + k.val) h.toNat) = true →
      ∃ t r, exec (.li e gd (.ins k h)) s = .next t ∧ Moved e gd r s t ∧ ∀ i, i < 64 →
        r.getLsbD i = if 16 * k.val ≤ i ∧ i < 16 * k.val + 16 then h.getLsbD (i - 16 * k.val)
          else (s.getG e gd).getLsbD i)

/-- LD and ST (R89): the word at (ga + sext(imm)) mod 65536; a single-bit error is corrected and counted, a double-bit
error traps 0x03, a word that an outstanding DRQ touches stalls the instruction. -/
def Obligations.LocalSram : Prop :=
  ∀ (e : Eng) (gd ga : Fin 16) (imm : BitVec 18) (u : SramUpset) (s : State), s.regsOk → s.sramWf = true →
    let a := (s.getG e ga + imm.signExtend 64).toNat % 65536
    let ld := fmtB 17 gd ga imm.toNat
    let st := fmtB 18 gd ga imm.toNat
    a % 8 = 0 →
    ((s.eng e).drqHits a = true → exec (.ld e gd ga imm u) s = .next s ∧ exec (.st e gd ga imm) s = .next s) ∧
    ((s.eng e).drqHits a = false →
      (s.ready e ld = true → ∃ t, exec (.ld e gd ga imm .clean) s = .next t ∧ Moved e gd ((s.eng e).word a) s t) ∧
      (s.ready e ld = true → ∃ t, exec (.ld e gd ga imm .single) s = .next t ∧
        EngFrame e [(ENG_PC_PC e).addr, (ENG_COUNT_SRAM_CORR e).addr] s t ∧
        t.eng e = { s.eng e with pc := (s.eng e).pc + 4, g := (t.eng e).g } ∧ Took e gd ((s.eng e).word a) s t ∧
        t.rd (ENG_COUNT_SRAM_CORR e) = min (s.rd (ENG_COUNT_SRAM_CORR e) + 1) 65535 ∧
        t.rd (ENG_COUNT_TRAPS e) = s.rd (ENG_COUNT_TRAPS e)) ∧
      (s.ready e ld = true → s.canTrap e → ∃ t, exec (.ld e gd ga imm .double) s = .next t ∧
        Trapped e 3 0 a (s.eng e).pc s t) ∧
      (s.ready e st = true → ∃ t, exec (.st e gd ga imm) s = .next t ∧
        Issued e { s.eng e with pc := (s.eng e).pc + 4, sram := (t.eng e).sram } s t ∧
        ∀ b, b % 8 = 0 → (t.eng e).word b = if b = a then s.getG e gd else (s.eng e).word b))

/-- DRQ, DWT and the two ends of a request (R83, R90 to R92): a read that completes puts the DRAM bytes into local SRAM from
LOCADDR on and leaves the rest of it; a write stores the local bytes, each granule as a DRAM write does (`writeAll`); a
request that fails frees its tag and traps 0x06 with its tag and reason and the failing address. -/
def Obligations.DramRequests : Prop :=
  ∀ (e : Eng) (t ga gb : Fin 16) (write : Bool) (mask : BitVec 16) (us : List (Nat × Bool)) (s : State),
    s.regsOk → s.sramWf = true →
    let a := (s.getG e ga).toNat
    let b := (s.getG e gb).toNat
    let loc := b % 65536
    let len := b / 65536
    let next := (s.eng e).pc + 4
    let w := fmtA 19 t ga gb (if write then 1 else 0)
    let idle := ∀ d ∈ (s.eng e).drqs, d.tag ≠ t.val
    (¬ idle → exec (.drq e t ga gb write) s = .next s) ∧
    (s.ready e w = true → idle → a % 64 = 0 → loc % 64 = 0 → len % 64 = 0 → loc + len ≤ 65536 →
      (len = 0 → ∃ u, exec (.drq e t ga gb write) s = .next u ∧ Issued e { s.eng e with pc := next } s u) ∧
      (len ≠ 0 → s.inOneRegion e a len = true → ∃ u, exec (.drq e t ga gb write) s = .next u ∧
        Issued e { s.eng e with pc := next, drqs := (s.eng e).drqs ++ [⟨t, a, loc, len, write, s.clk.live⟩] } s u) ∧
      (len ≠ 0 → s.inOneRegion e a len = false → s.canTrap e → ∃ u, exec (.drq e t ga gb write) s = .next u ∧
        Trapped e 6 t.val (a % 2 ^ 36) (s.eng e).pc s u)) ∧
    (s.ready e (fmtB 20 0 0 mask.toNat) = true → ∃ u, exec (.dwt e mask) s = .next u ∧
      Issued e { s.eng e with
        pc := next, wait := if ∃ d ∈ (s.eng e).drqs, mask.getLsbD d.tag = true then .dwt mask.toNat else .none } s u) ∧
    (∀ d, s.drqLive e t = some d → s.memHeld (s.drqAcc e d) d.cube d.len = true →
      (∃ u, exec (.drqComplete e t us) s = .next u ∧ u.engs = s.engs) ∧
      ∃ u, exec (.drqDmaHalt e t us) s = .next u ∧ u.engs = s.engs) ∧
    (∀ d, s.drqLive e t = some d → s.memHeld (s.drqAcc e d) d.cube d.len = false → (s.drqRun e d us).2 = none →
      ∃ u, exec (.drqComplete e t us) s = .next u ∧ (∀ d' ∈ (u.eng e).drqs, d'.tag ≠ t.val) ∧
        (d.loc % 64 = 0 → d.len % 64 = 0 → d.loc + d.len ≤ 65536 →
          (d.write = false → ∀ i, i < 65536 → (u.eng e).byte i = if d.loc ≤ i ∧ i < d.loc + d.len
            then (s.readWhole (s.engAcc e 1) d.cube (d.len / 64)).2.1.getD (i - d.loc) 0 else (s.eng e).byte i) ∧
          (d.write = true → us = [] → (u.eng e).sram = (s.eng e).sram ∧
            u.dram = (s.writeAll (s.engAcc e 2) d.cube ((upFrom d.loc d.len).map (s.eng e).byte)).1.dram))) ∧
    (∀ d, s.drqLive e t = some d → s.memHeld (s.drqAcc e d) d.cube d.len = false → ∀ x, (s.drqRun e d us).2 = some x →
      ∃ u, exec (.drqDmaHalt e t us) s = .next u ∧ (∀ d' ∈ (u.eng e).drqs, d'.tag ≠ t.val) ∧
        (∀ y, x = .dram y → s.canTrap e → (s.eng e).wait = .none →
          let c := (u.eng e).trapcause.toNat
          bits c 0 8 = 6 ∧ bits c 8 16 = t.val + (if y.uncorrectable then 1 else 2) * 2 ^ 8 ∧
            bits c 24 36 = y.addr % 2 ^ 36 ∧ (u.eng e).trappc = (s.eng e).pc ∧
            (u.eng e).pc = BitVec.ofNat 24 (s.eng e).desc.trapEntry ∧ u.flag (ENG_STATE_INTRAP e) = true))

/-- The address and data generators (R71 to R76, R83): ASET writes one register of the table, AINC steps with its
carries, ASCR loads a table of 256 bytes, DGSET, DGINV, DGCHK and DGLFSR set the data generator. -/
def Obligations.Generators : Prop :=
  ∀ (e : Eng) (gd ga : Fin 16) (mode : BitVec 3) (op : Fin 3) (x y : BitVec 5) (chk : Bool) (f : BitVec 4) (s : State),
    s.regsOk → s.sramWf = true →
    let g := s.eng e
    let next := g.pc + 4
    let v := s.getG e ga
    let targets : List (Nat × Engine) := [
      (0, { g with ax := { g.ax with val := v.setWidth 24 } }), (1, { g with ax := { g.ax with lim := v.setWidth 24 } }),
      (2, { g with ax := { g.ax with step := v.setWidth 24 } }), (3, { g with ax := { g.ax with wrap := v.setWidth 24 } }),
      (4, { g with ay := { g.ay with val := v.setWidth 24 } }), (5, { g with ay := { g.ay with lim := v.setWidth 24 } }),
      (6, { g with ay := { g.ay with step := v.setWidth 24 } }), (7, { g with ay := { g.ay with wrap := v.setWidth 24 } }),
      (8, { g with az := v.setWidth 8 }), (9, { g with azLim := v.setWidth 8 }), (10, { g with acfg := v.setWidth 15 })]
    (∀ p ∈ targets, gd.val = p.1 → s.ready e (fmtA 21 gd ga 0 0) = true →
      (gd = 10 → bits v.toNat 5 5 ≤ 16 ∧ bits v.toNat 10 5 ≤ 16) →
      ∃ t, exec (.aset e gd ga) s = .next t ∧ Issued e { p.2 with pc := next } s t) ∧
    (s.ready e (fmtA 22 0 0 0 mode.toNat) = true → ∃ t, exec (.ainc e mode) s = .next t ∧
      (let m := mode.toNat % 4
       let xc := decide (g.ax.val = g.ax.lim)
       let yc := decide (g.ay.val = g.ay.lim)
       let xs := decide (m = 0) || decide (m = 2) || (decide (m = 3) && yc)
       let ys := decide (m = 1) || decide (m = 3) || (decide (m = 2) && xc)
       let zs := mode.getLsbD 2 && (if m = 0 ∨ m = 3 then xs && xc else ys && yc)
       let zc := zs && decide (g.az = g.azLim)
       Issued e { g with
         pc := next
         ax := { g.ax with val := if xs then (if xc then g.ax.wrap else g.ax.val + g.ax.step) else g.ax.val }
         ay := { g.ay with val := if ys then (if yc then g.ay.wrap else g.ay.val + g.ay.step) else g.ay.val }
         az := if zs then (if zc then 0 else g.az + 1) else g.az
         flags := (t.eng e).flags } s t ∧
       (t.eng e).flags.getLsbD 3 = (xs && xc) ∧ (t.eng e).flags.getLsbD 4 = (ys && yc) ∧
       (t.eng e).flags.getLsbD 5 = zc ∧ ∀ i, i < 3 → (t.eng e).flags.getLsbD i = g.flags.getLsbD i)) ∧
    (s.ready e (fmtA 23 gd ga 0 0) = true → gd.val ≤ 1 → ∃ t, exec (.ascr e gd ga []) s = .next t ∧
      Issued e { g with pc := next, scr := (t.eng e).scr } s t ∧
      ∀ i, i < 256 → (t.eng e).scrAt gd.val i = g.byte (v.toNat % 65536 + i) ∧
        (t.eng e).scrAt (1 - gd.val) i = g.scrAt (1 - gd.val) i) ∧
    (s.ready e (fmtA 24 0 ga 0 0) = true → ∃ t, exec (.dgset e ga) s = .next t ∧
      Issued e { g with pc := next, dg := v } s t) ∧
    (s.ready e (fmtA 25 0 0 0 op.val) = true → ∃ t, exec (.dginv e op) s = .next t ∧
      Issued e { g with pc := next, dgcfg := (t.eng e).dgcfg } s t ∧ ∀ i, (t.eng e).dgcfg.getLsbD i =
        if i = 0 then (if op = 0 then false else if op = 1 then true else ! g.dgcfg.getLsbD 0) else g.dgcfg.getLsbD i) ∧
    (s.ready e (fmtB 26 0 0 (x.toNat + y.toNat * 32 + (if chk then 1024 else 0))) = true →
      x.toNat ≤ 23 → y.toNat ≤ 23 → ∃ t, exec (.dgchk e x y chk) s = .next t ∧
      Issued e { g with pc := next, dgcfg := (t.eng e).dgcfg } s t ∧ ∀ i, (t.eng e).dgcfg.getLsbD i =
        if i = 1 then chk else if 2 ≤ i ∧ i < 7 then x.getLsbD (i - 2) else if 7 ≤ i ∧ i < 12 then y.getLsbD (i - 7)
        else g.dgcfg.getLsbD i) ∧
    (s.ready e (fmtA 27 0 ga 0 f.toNat) = true → (f.getLsbD 3 = true → f.getLsbD 1 = true) →
      ∃ t, exec (.dglfsr e ga f) s = .next t ∧
      (let d := if f.getLsbD 0 then v else g.dg
       Issued e { g with pc := next, dg := (t.eng e).dg, dgcfg := (t.eng e).dgcfg } s t ∧
       (∀ i, i < 64 → (t.eng e).dg.getLsbD i = if f.getLsbD 2 then
          (if i = 0 then d.getLsbD 63 ^^ d.getLsbD 62 ^^ d.getLsbD 60 ^^ d.getLsbD 59 else d.getLsbD (i - 1))
          else d.getLsbD i) ∧
       ∀ i, (t.eng e).dgcfg.getLsbD i = if i = 12 ∧ f.getLsbD 1 = true then f.getLsbD 3 else g.dgcfg.getLsbD i))

/-- EMIT and EMITN (R74 to R76, R95, R96, R98, R99, R160): a cycle that finds room is composed from the pin role table (CONST, X, Y,
Z, DATA, DATA inverted, STORED; a masked pin keeps its low two bits under drive), stamped with AX, AY and AZ as they stand,
written to staging and entered in the echo ring, and the stream time advances by M; then INC steps the generators and
DSTEP the LFSR. STORED pins take the head of a MERGE stream's queue, and trap 0x05 without a stream. EMITN writes its count
of cycles; one that finds no room waits, and goes on with the ECLK it stalled counted. -/
def Obligations.EmitCycles : Prop :=
  ∀ (e : Eng) (src mask : Fin 16) (f : BitVec 3) (n : BitVec 10) (eclk : Nat) (s : State), s.regsOk →
    let s1 := s.advance e
    let s2 := s.add (ENG_STALL_ECLK e) eclk
    let free := fun (u : State) => (u.eng e).async = [] ∧ (u.eng e).stopReq = none ∧ u.stopHere e = false ∧
      (u.roles e).length ≤ 64
    let plain := fun (u : State) => free u ∧ (u.eng e).vs = none ∧ ∀ r ∈ u.roles e, r.1 < 6
    let nib := fun (u : State) (h : BitVec 256) (j : Nat) (r : Nat × Nat) =>
      let g := u.eng e
      let b := fun (x : Nat) => if x.testBit r.2 then 1 else 0
      let d := b (if src = 0 then g.dataWord else u.getG e src).toNat
      let data := fun (x : Nat) => if f.getLsbD 0 then 2 + 4 * x else 12 + x
      let k := match r.1 with
        | 0 => r.2 % 16 | 1 => 12 + b (g.pinX) | 2 => 12 + b (g.pinY) | 3 => 12 + b g.az.toNat
        | 4 => data d | 5 => data (1 - d) | _ => bits h.toNat (4 * j) 4
      if mask ≠ 0 ∧ (u.getG e mask).getLsbD j = true then k % 4 + 12 else k
    let one := fun (u : State) (h : BitVec 256) (c : Cycle) =>
      c.stamp = (u.eng e).az ++ (u.eng e).ay.val ++ (u.eng e).ax.val ∧
        ∀ j r, (u.roles e)[j]? = some r → bits c.nibs.toNat (4 * j) 4 = nib u h j r
    let gave := fun (h : BitVec 256) (u t : State) => (t.eng e).wait = .none ∧
      (t.eng e).stime = ((u.eng e).stime + u.engM e) % 2 ^ 48 ∧
      (let w := if f.getLsbD 1 then (u.eng e).incr ((u.eng e).acfg.toNat % 8) else u.eng e
       (t.eng e).ax = w.ax ∧ (t.eng e).ay = w.ay ∧ (t.eng e).az = w.az ∧ (t.eng e).flags = w.flags) ∧
      (t.eng e).dg = (if f.getLsbD 2 ∧ (u.eng e).dgcfg.getLsbD 12 then lfsrStep (u.eng e).dg else (u.eng e).dg) ∧
      ((u.stg e).cur.length + 1 < u.rowLen e → ∃ c, (t.stg e).cur = (u.stg e).cur ++ [c] ∧ one u h c) ∧
      (∀ k, u.unitOf (u.engGroup e) = some k → u.deadSlots e = [] → ∃ x, (t.cap k).ring = (u.cap k).ring ++ [x] ∧
        x.engine = e.val ∧ x.vt = (u.eng e).stime ∧ x.stamp = (u.eng e).az ++ (u.eng e).ay.val ++ (u.eng e).ax.val ∧
        x.slots = (u.engLanes e).length ∧ x.answered = 0 ∧
        ∀ j r, (u.roles e)[j]? = some r → bits x.expects.toNat (2 * j) 2 = nib u h j r / 4)
    (s.ready e (fmtD 28 src mask 0 f.toNat) = true → s.aux e = false → plain s1 → s1.cycleRoom e = true →
      ∃ t, exec (.emit e src mask f) s = .next t ∧ gave 0 s1 t ∧ (t.eng e).pc = (s.eng e).pc + 4) ∧
    (∀ v, (s.eng e).vs = some v → v.pure = false → ∀ h q, v.queue = h :: q →
      s.ready e (fmtD 28 src mask 0 f.toNat) = true → s.aux e = false → free s1 → s1.cycleRoom e = true →
      ∃ t, exec (.emit e src mask f) s = .next t ∧ gave h s1 t ∧ (t.eng e).pc = (s.eng e).pc + 4 ∧
        (t.eng e).vs = if q = [] ∧ v.left = 0 then none else some { v with queue := q }) ∧
    (s.ready e (fmtD 28 src mask 0 f.toNat) = true → s.aux e = false → s1.stopHere e = false → (s.eng e).vs = none →
      (∃ r ∈ s1.roles e, r.1 = 6) → s.canTrap e → ∃ t, exec (.emit e src mask f) s = .next t ∧
        Trapped e 5 28 0 (s.eng e).pc s t) ∧
    (s.ready e (fmtD 28 src mask 0 f.toNat) = true → s.aux e = false → plain s1 → s1.cycleRoom e = false →
      (s.stg e).held = false → ∃ t, exec (.emit e src mask f) s = .next t ∧
        t.eng e = { s.eng e with pc := (s.eng e).pc + 4, wait := .emit 28 src mask f.toNat 1 }) ∧
    (s.ready e (fmtD 29 src mask 1 f.toNat) = true → s.aux e = false → plain s1 → s1.cycleRoom e = true →
      ∃ t, exec (.emitn e src mask 1 f) s = .next t ∧ gave 0 s1 t ∧ (t.eng e).pc = (s.eng e).pc + 4) ∧
    (s.ready e (fmtD 29 src mask n.toNat f.toNat) = true → s.aux e = false → plain s1 → f.toNat ≤ 1 → n ≠ 0 →
      (s.eng e).stopVt = none → (∀ p, s.engPart e = some p → s.stopVt p = none) → (s.stg e).fillOk = true →
      s1.echoRoom e n.toNat = true → (s.stg e).cur.length + n.toNat < s.rowLen e →
      ∃ t, exec (.emitn e src mask n f) s = .next t ∧ (∃ c, (t.stg e).cur.getLast? = some c ∧ one s1 0 c ∧
        (t.stg e).cur = (s.stg e).cur ++ List.replicate n.toNat c) ∧ (t.eng e).wait = .none ∧
        (t.eng e).stime = ((s.eng e).stime + n.toNat * s.engM e) % 2 ^ 48 ∧ (t.eng e).pc = (s.eng e).pc + 4) ∧
    (s.ready e (fmtD 29 src mask 0 f.toNat) = true → s.aux e = false → plain s1 →
      ∃ t, exec (.emitn e src mask 0 f) s = .next t ∧ Issued e { s.eng e with pc := (s.eng e).pc + 4 } s t) ∧
    (s.ready e (fmtD 29 src mask n.toNat f.toNat) = true → s.aux e = false → plain s1 → n ≠ 0 → s1.cycleRoom e = false →
      (s.stg e).held = false → ∃ t, exec (.emitn e src mask n f) s = .next t ∧
        t.eng e = { s.eng e with pc := (s.eng e).pc + 4, wait := .emit 29 src mask f.toNat n.toNat }) ∧
    ((s.eng e).wait = .emit 28 src mask f.toNat 1 → s.engHeld e = false → plain s2 →
      (s2.cycleRoom e = true → ∃ t, exec (.emitStallResume e eclk) s = .next t ∧ gave 0 s2 t ∧
        (t.eng e).pc = (s.eng e).pc) ∧
      (s2.cycleRoom e = false → (s.stg e).held = false → ∃ t, exec (.emitStallResume e eclk) s = .next t ∧
        t.eng e = s.eng e ∧ t.rd (ENG_STALL_ECLK e) = min (s.rd (ENG_STALL_ECLK e) + eclk) (2 ^ 32 - 1)))

/-- VSTREAM and vector DMA (R97 to R100, R115, R116): a stream starts with its first granule and its stamp; a granule that
arrives moves it on by 64 bytes, and a MERGE stream neither loses nor invents a cycle; one that fails ends it. -/
def Obligations.StoredVectors : Prop :=
  ∀ (e : Eng) (ga gb : Fin 16) (merge : Bool) (us : List (Nat × BitVec 256)) (s : State), s.regsOk →
    let a := (s.getG e ga).toNat
    let n := (s.getG e gb).toNat % 2 ^ 32
    let w := fmtA 30 0 ga gb (if merge then 1 else 0)
    let next := (s.eng e).pc + 4
    (∀ v, (s.eng e).vs = some v → v.pure = true → exec (.vstream e ga gb merge) s = .next s) ∧
    (∀ v, (s.eng e).vs = some v → v.pure = false → s.ready e w = true → s.aux e = false → a % 64 = 0 → s.canTrap e →
      ∃ t, exec (.vstream e ga gb merge) s = .next t ∧ Trapped e 5 30 0 (s.eng e).pc s t) ∧
    ((s.eng e).vs = none → s.ready e w = true → s.aux e = false → a % 64 = 0 →
      (n = 0 → ∃ t, exec (.vstream e ga gb merge) s = .next t ∧ Issued e { s.eng e with pc := next } s t) ∧
      (n ≠ 0 → s.inOneRegion e a (n * s.storedLen e) = true → ∃ t, exec (.vstream e ga gb merge) s = .next t ∧
        Issued e { s.eng e with pc := next, vs := some {
          pure := ! merge, next := a, left := n, stamp := (s.eng e).az ++ (s.eng e).ay.val ++ (s.eng e).ax.val
          before := ((s.eng e).drqs.filter (·.write)).map (·.tag), since := s.clk.live } } s t) ∧
      (n ≠ 0 → s.inOneRegion e a (n * s.storedLen e) = false → s.canTrap e →
        ∃ t, exec (.vstream e ga gb merge) s = .next t ∧ Trapped e 6 16 (a % 2 ^ 36) (s.eng e).pc s t)) ∧
    (∀ v, (s.eng e).vs = some v → s.streamLive e = true → s.wantsGran e v = true → s.streamHeld e = false →
      ((s.queueUpset e us).streamFetch e).2 = none →
      ∃ t, exec (.vectorDmaFetch e us) s = .next t ∧
        ((t.eng e).vs = none ∨ ∃ v', (t.eng e).vs = some v' ∧ v'.next = v.next + 64) ∧
        (v.pure = false → ∃ v', (t.eng e).vs = some v' ∧ v'.stamp = v.stamp ∧
          v'.left + v'.queue.length = v.left + v.queue.length ∧ (us = [] → v.queue <+: v'.queue))) ∧
    (∀ x, s.streamLive e = true → s.streamHeld e = false → (s.streamFetch e).2 = some x →
      ∃ t, exec (.vstreamDmaHalt e) s = .next t ∧ (t.eng e).vs = none)

/-- Loops, branches, calls and returns (R82, R84, R85, R93, R94): `holds` is the condition table, over Z, N, C, AXC, AYC, AZC. -/
def Obligations.LoopsAndBranches : Prop :=
  ∀ (e : Eng) (lc : Fin 4) (ga : Fin 16) (off : BitVec 14) (cond : Fin 13) (rel : BitVec 22) (s : State), s.regsOk →
    let g := s.eng e
    let next := g.pc + 4
    let n : Word := (s.getG e ga).setWidth 32
    let target := g.pc + rel.signExtend 24 * 4
    let f := g.flags.getLsbD
    let holds := match cond.val with
      | 0 => true | 1 => f 0 | 2 => ! f 0 | 3 => f 1 | 4 => ! f 1 | 5 => f 2 | 6 => ! f 2
      | 7 => f 3 | 8 => ! f 3 | 9 => f 4 | 10 => ! f 4 | 11 => f 5 | _ => ! f 5
    (s.ready e (fmtA 31 lc ga 0 off.toNat) = true → off ≠ 0 → ∃ t, exec (.loop e lc ga off) s = .next t ∧
      Issued e { g with pc := if n = 0 then g.pc + off.setWidth 24 * 4 + 4 else next,
                        lc := g.lc.set lc n, lstart := g.lstart.set lc next } s t) ∧
    (s.ready e (fmtA 32 lc 0 0 0) = true → ∃ t, exec (.endl e lc) s = .next t ∧
      Issued e (if g.lc[lc] = 0 then { g with pc := next }
        else { g with lc := g.lc.set lc (g.lc[lc] - 1), pc := if g.lc[lc] = 1 then next else g.lstart[lc] }) s t) ∧
    (s.ready e (fmtC 39 cond rel.toNat) = true → ∃ t, exec (.br e cond rel) s = .next t ∧
      Issued e { g with pc := if holds then target else next } s t) ∧
    (s.ready e (fmtC 40 cond rel.toNat) = true →
      (holds = false → ∃ t, exec (.call e cond rel) s = .next t ∧ Issued e { g with pc := next } s t) ∧
      (holds = true → g.stack.length < 16 → ∃ t, exec (.call e cond rel) s = .next t ∧
        Issued e { g with pc := target, stack := next :: g.stack } s t) ∧
      (holds = true → 16 ≤ g.stack.length → s.canTrap e → ∃ t, exec (.call e cond rel) s = .next t ∧
        Trapped e 7 0 0 g.pc s t)) ∧
    (s.ready e (fmtA 41 0 0 0 0) = true →
      (∀ a r, g.stack = a :: r → ∃ t, exec (.ret e false) s = .next t ∧ Issued e { g with pc := a, stack := r } s t) ∧
      (g.stack = [] → s.canTrap e → ∃ t, exec (.ret e false) s = .next t ∧ Trapped e 7 1 0 g.pc s t)) ∧
    (s.ready e (fmtA 41 0 0 0 1) = true → s.flag (ENG_STATE_INTRAP e) = false → s.canTrap e →
      ∃ t, exec (.ret e true) s = .next t ∧ Trapped e 2 41 0 g.pc s t) ∧
    (s.ready e (fmtA 41 0 0 0 1) = true → s.flag (ENG_STATE_INTRAP e) = true → ∃ t, exec (.ret e true) s = .next t ∧
      EngFrame e [(ENG_PC_PC e).addr, (ENG_STATE_STATE e).addr] s t ∧ t.eng e = { g with pc := g.trappc } ∧
      t.flag (ENG_STATE_INTRAP e) = false ∧ t.rd (ENG_STATE_STATE e) = s.rd (ENG_STATE_STATE e))

/-- MARK, REWIND and RELEASE (R101, R120, R122 to R124): the mark lies at the row after the one MARK closes; REWIND adds n
passes of the marked region to the stream time; RELEASE ends the hold. -/
def Obligations.MarkedRegions : Prop :=
  ∀ (e : Eng) (ga : Fin 16) (s : State), s.regsOk →
    let g := s.stg e
    let next := (s.eng e).pc + 4
    let n := (s.getG e ga).toNat % 2 ^ 32
    let after := g.fill + if g.cur = [] then 0 else 1
    (s.ready e (fmtA 33 0 0 0 0) = true →
      (g.mark = none → ∃ t, exec (.mark e) s = .next t ∧ t = { s with engs := t.engs, csr := t.csr, fresh := t.fresh } ∧
        (∀ k : Nat, k ≠ e.val → t.eng k = s.eng k) ∧ (t.eng e).pc = next ∧
        (t.stg e).mark = some after ∧ (t.stg e).fill = after ∧ (t.stg e).cur = []) ∧
      (g.mark.isSome → s.canTrap e → ∃ t, exec (.mark e) s = .next t ∧ Trapped e 5 33 0 (s.eng e).pc s t)) ∧
    (s.pureActive e = true → exec (.rewind e ga) s = .next s) ∧
    (s.pureActive e = false → s.ready e (fmtA 34 0 ga 0 0) = true →
      (g.mark = none → s.canTrap e → ∃ t, exec (.rewind e ga) s = .next t ∧ Trapped e 5 34 0 (s.eng e).pc s t) ∧
      (∀ m, g.mark = some m → n = 0 → ∃ t, exec (.rewind e ga) s = .next t ∧
        Issued e { s.eng e with pc := next } s t) ∧
      (∀ m, g.mark = some m → n ≠ 0 → 256 < after - m → s.canTrap e → ∃ t, exec (.rewind e ga) s = .next t ∧
        Trapped e 5 34 0 (s.eng e).pc s t) ∧
      (∀ m, g.mark = some m → n ≠ 0 → m ≤ g.fill → after - m ≤ 256 →
        (let s1 := (s.advance e).closeRow e
         let l := (g.rows.filter fun r => decide (m ≤ r.num)).foldl (fun k r => k + r.cycles.length) 0 + g.cur.length
         (s1.engPart e).bind s1.stopVt = none → l ≠ 0 → ∃ t, exec (.rewind e ga) s = .next t ∧ (t.eng e).pc = next ∧
          (t.eng e).stime = ((s.eng e).stime + n * l * s.engM e) % 2 ^ 48 ∧
          (t.stg e).mark = some m ∧ (t.stg e).cur = []))) ∧
    (s.ready e (fmtA 35 0 0 0 0) = true → ∃ t, exec (.release e) s = .next t ∧
      t = { s with engs := t.engs, csr := t.csr, fresh := t.fresh } ∧ (t.eng e).pc = next ∧ (t.stg e).mark = none)

/-- WAITVT, BAR and SIG (R102 to R104). -/
def Obligations.WaitsAndBarriers : Prop :=
  ∀ (e : Eng) (ga : Fin 16) (tol : BitVec 13) (mask : BitVec 9) (id : BitVec 4) (code : BitVec 8) (s : State), s.regsOk →
    let g := s.eng e
    let next := g.pc + 4
    let v := (s.getG e ga).toNat
    let pad := roundUp v (s.engM e) % 2 ^ 48
    let s1 := s.advance e
    -- REAL mode
    (s.ready e (fmtA 36 0 ga 0 (1 + tol.toNat * 2)) = true → v < 2 ^ 48 →
      (vtGe s.vt.vt v = false → ∃ t, exec (.waitvt e ga true tol) s = .next t ∧
        Issued e { g with pc := next, wait := .waitvt v } s t) ∧
      (vtGe s.vt.vt v = true → vtDiff s.vt.vt v ≤ tol.toNat → ∃ t, exec (.waitvt e ga true tol) s = .next t ∧
        Issued e { g with pc := next } s t) ∧
      (vtGe s.vt.vt v = true → tol.toNat < vtDiff s.vt.vt v → s.canTrap e →
        ∃ t, exec (.waitvt e ga true tol) s = .next t ∧ Trapped e 4 (min (vtDiff s.vt.vt v) 65535) 0 g.pc s t)) ∧
    -- STREAM mode
    (s.pureActive e = true → exec (.waitvt e ga false tol) s = .next s) ∧
    (s.pureActive e = false → s.aux e = false → s.ready e (fmtA 36 0 ga 0 (tol.toNat * 2)) = true → v < 2 ^ 48 →
      (vtGe g.stime pad = true → vtDiff g.stime pad ≤ tol.toNat → ∃ t, exec (.waitvt e ga false tol) s = .next t ∧
        Issued e { g with pc := next } s t) ∧
      (vtGe g.stime pad = true → tol.toNat < vtDiff g.stime pad → s.canTrap e →
        ∃ t, exec (.waitvt e ga false tol) s = .next t ∧ Trapped e 4 (min (vtDiff g.stime pad) 65535) 0 g.pc s t) ∧
      (vtGe g.stime pad = false → s1.stopHere e = false → s1.cycleRoom e = false →
        ∃ t, exec (.waitvt e ga false tol) s = .next t ∧ t.eng e = { g with pc := next, wait := .pad pad }) ∧
      (vtGe g.stime pad = false → s1.stopHere e = false → s1.cycleRoom e = true → g.async = [] → g.stopReq = none →
        vtGe ((g.stime + s.engM e) % 2 ^ 48) pad = true →
        ∃ t, exec (.waitvt e ga false tol) s = .next t ∧ (t.eng e).stime = (g.stime + s.engM e) % 2 ^ 48 ∧
          (t.eng e).wait = .none ∧ (t.eng e).pc = next)) ∧
    (∀ v, g.wait = .waitvt v → vtGe s.vt.vt v = true → s.engHeld e = false → g.async = [] → g.stopReq = none →
      ∃ t, exec (.waitvtRealResume e) s = .next t ∧ EngFrame e [] s t ∧ t.eng e = { g with wait := .none }) ∧
    (s.ready e (fmtB 37 0 0 (mask.toNat + id.toNat * 512)) = true → mask.getLsbD (e.val % 9) = true →
      ((∃ k ∈ barEngs e mask.toNat, k ≠ e.val ∧ (s.eng k).wait ≠ .bar mask.toNat id.toNat) →
        ∃ t, exec (.bar e mask id) s = .next t ∧
          Issued e { g with pc := next, wait := .bar mask.toNat id.toNat } s t) ∧
      ((∀ k ∈ barEngs e mask.toNat, (k ≠ e.val → (s.eng k).wait = .bar mask.toNat id.toNat) ∧
          (s.eng k).async = [] ∧ (s.eng k).stopReq = none) →
        ∃ t, exec (.bar e mask id) s = .next t ∧ (t.eng e).pc = next ∧
          ∀ k ∈ barEngs e mask.toNat, (t.eng k).wait = .none)) ∧
    (∀ m i, g.wait = .bar m i → i < 16 → g.barto ≠ 0 → s.engHeld e = false → g.stopReq = none → s.canTrap e →
      ∃ t, exec (.barTimeout e) s = .next t ∧ Trapped e 8 i 0 (BitVec.ofNat 24 (s.rd (ENG_PC_PC e))) s t) ∧
    (s.ready e (fmtB 38 0 0 code.toNat) = true → ∃ t, exec (.sig e code false) s = .next t ∧
      EngFrame e [(ENG_PC_PC e).addr, (ENG_EVENT_SIG e).addr] s t ∧ t.eng e = { g with pc := next } ∧
      t.rd (ENG_EVENT_SIGCODE e) = code.toNat ∧ t.flag (ENG_EVENT_SIG e) = true) ∧
    (s.ready e (fmtB 38 0 0 (code.toNat + 256)) = true → s.hl.evq.length < 256 →
      ∃ t, exec (.sig e code true) s = .next t ∧ t = { s with engs := t.engs, csr := t.csr, fresh := t.fresh, hl := t.hl } ∧
        t.rd (ENG_EVENT_SIGCODE e) = code.toNat ∧ t.flag (ENG_EVENT_SIG e) = true ∧
        ∃ v, t.hl.evq = s.hl.evq ++ [v] ∧ v.code = 4 ∧ v.sub = code.toNat ∧ v.detail = e.val ∧ v.vt = s.vt.vt)

/-- Taking a trap (R71, R72, R81, R90, R93, R97, R103, R105 to R107): TRAP saves the next instruction's address and gives its immediate as detail; an
illegal word and an illegal operand save the instruction's own address and give its opcode; with no handler, or in one, the
engine halts TRAPPED. The illegal operands are those of MOV, LD, ST, DRQ, ASET, ASCR, DGCHK, DGLFSR, EMIT, EMITN, VSTREAM, LOOP,
WAITVT, BAR and RET. -/
def Obligations.TrapsTaken : Prop :=
  ∀ (e : Eng) (gd ga : Fin 16) (n : BitVec 8) (imm : BitVec 18) (i16 : BitVec 16) (wr : Bool) (s : State), s.regsOk →
    let pc := (s.eng e).pc
    let v := s.getG e ga
    let q := (s.getG e gd).toNat
    (s.ready e (fmtB 42 0 0 i16.toNat) = true → s.canTrap e → ∃ t, exec (.trap e i16) s = .next t ∧
      Trapped e 9 i16.toNat 0 (pc + 4) s t) ∧
    (s.ready e (fmtB 42 0 0 i16.toNat) = true → s.flag (ENG_STATE_INTRAP e) = true ∨ (s.eng e).desc.trapEntry = 0 →
      (s.eng e).async = [] → (s.eng e).drqs = [] → s.pureActive e = false →
      ∃ t, exec (.trap e i16) s = .next t ∧ t.rd (ENG_STATE_STATE e) = 4 ∧ t.flag (ENG_EVENT_TRAP_HALT e) = true ∧
        t.flag (ENG_EVENT_HALTED e) = true ∧ t.rd (ENG_EVENT_HALT_REASON e) = 3 ∧ (t.eng e).wait = .none ∧
        bits (t.eng e).trapcause.toNat 0 8 = 9 ∧ (t.eng e).trappc = pc + 4) ∧
    (s.canTrap e →
      (∀ w, s.ready e w = true → engDecode e w = none → ∃ t, exec (.illegalInstruction e) s = .next t ∧
        Trapped e 2 (w / 2 ^ 26 % 64) 0 pc s t) ∧
      (s.ready e (fmtA 9 gd 0 0 (0x1000 + n.toNat)) = true →
        n.toNat ∉ [0, 1, 2, 3, 4, 5, 8, 9, 10, 11] → ¬ (0x10 ≤ n.toNat ∧ n.toNat ≤ 0x1A) → ¬ (0x20 ≤ n.toNat ∧ n.toNat ≤ 0x24) →
        ∃ t, exec (.mov e (.fromSr gd n)) s = .next t ∧ Trapped e 2 9 0 pc s t) ∧
      (s.ready e (fmtA 9 0 ga 0 (0x2000 + n.toNat)) = true →
        (n.toNat ∉ [1, 3, 4, 8, 9, 10, 11, 0x20, 0x21, 0x24] ∧ ¬ (0x10 ≤ n.toNat ∧ n.toNat ≤ 0x1A)) ∨
          (n = 0x1A ∧ ¬ (bits v.toNat 5 5 ≤ 16 ∧ bits v.toNat 10 5 ≤ 16)) ∨
          (n = 0x21 ∧ ¬ (bits v.toNat 2 5 ≤ 23 ∧ bits v.toNat 7 5 ≤ 23)) →
        ∃ t, exec (.mov e (.toSr n ga)) s = .next t ∧ Trapped e 2 9 0 pc s t) ∧
      (s.ready e (fmtB 17 gd ga imm.toNat) = true → (v + imm.signExtend 64).toNat % 8 ≠ 0 →
        ∃ t, exec (.ld e gd ga imm .clean) s = .next t ∧ Trapped e 2 17 0 pc s t) ∧
      (s.ready e (fmtB 18 gd ga imm.toNat) = true → (v + imm.signExtend 64).toNat % 8 ≠ 0 →
        ∃ t, exec (.st e gd ga imm) s = .next t ∧ Trapped e 2 18 0 pc s t) ∧
      (s.ready e (fmtA 21 gd ga 0 0) = true → 11 ≤ gd.val ∨ (gd = 10 ∧ ¬ (bits v.toNat 5 5 ≤ 16 ∧ bits v.toNat 10 5 ≤ 16)) → ∃ t, exec (.aset e gd ga) s = .next t ∧
        Trapped e 2 21 0 pc s t) ∧
      (s.ready e (fmtA 23 gd ga 0 0) = true → 2 ≤ gd.val → ∃ t, exec (.ascr e gd ga []) s = .next t ∧
        Trapped e 2 23 0 pc s t) ∧
      (∀ t6 : Fin 16, s.ready e (fmtA 19 t6 ga gd (if wr then 1 else 0)) = true → (∀ d ∈ (s.eng e).drqs, d.tag ≠ t6.val) →
        v.toNat % 64 ≠ 0 ∨ q % 64 ≠ 0 ∨ q / 65536 % 64 ≠ 0 ∨ 65536 < q % 65536 + q / 65536 →
        ∃ t, exec (.drq e t6 ga gd wr) s = .next t ∧ Trapped e 2 19 0 pc s t) ∧
      (∀ x y : BitVec 5, s.ready e (fmtB 26 0 0 (x.toNat + y.toNat * 32 + (if wr then 1024 else 0))) = true →
        23 < x.toNat ∨ 23 < y.toNat → ∃ t, exec (.dgchk e x y wr) s = .next t ∧ Trapped e 2 26 0 pc s t) ∧
      (∀ f : BitVec 4, s.ready e (fmtA 27 0 ga 0 f.toNat) = true → f.getLsbD 3 = true → f.getLsbD 1 = false →
        ∃ t, exec (.dglfsr e ga f) s = .next t ∧ Trapped e 2 27 0 pc s t) ∧
      (s.ready e (fmtA 30 0 ga gd (if wr then 1 else 0)) = true → s.pureActive e = false → s.aux e = true ∨ v.toNat % 64 ≠ 0 →
        ∃ t, exec (.vstream e ga gd wr) s = .next t ∧ Trapped e 2 30 0 pc s t) ∧
      (∀ lc : Fin 4, s.ready e (fmtA 31 lc ga 0 0) = true → ∃ t, exec (.loop e lc ga 0) s = .next t ∧ Trapped e 2 31 0 pc s t) ∧
      (∀ (m9 : BitVec 9) (id : BitVec 4), s.ready e (fmtB 37 0 0 (m9.toNat + id.toNat * 512)) = true →
        m9.getLsbD (e.val % 9) = false → ∃ t, exec (.bar e m9 id) s = .next t ∧ Trapped e 2 37 0 pc s t) ∧
      (s.ready e (fmtA 36 0 ga 0 0) = true → s.pureActive e = false → s.aux e = true →
        ∃ t, exec (.waitvt e ga false 0) s = .next t ∧ Trapped e 2 36 0 pc s t) ∧
      (s.ready e (fmtD 29 gd ga 2 0) = true → s.aux e = true → ∃ t, exec (.emitn e gd ga 2 0) s = .next t ∧
        Trapped e 2 29 0 pc s t) ∧
      (s.ready e (fmtD 28 gd ga 0 0) = true → s.aux e = true → ∃ t, exec (.emit e gd ga 0) s = .next t ∧
        Trapped e 2 28 0 pc s t) ∧
      (s.ready e (fmtA 36 0 ga 0 1) = true → 2 ^ 48 ≤ v.toNat → ∃ t, exec (.waitvt e ga true 0) s = .next t ∧
        Trapped e 2 36 0 pc s t) ∧
      (s.ready e (fmtA 41 0 0 0 1) = true → ∃ t, exec (.ret e true) s = .next t ∧ Trapped e 2 41 0 pc s t))

/-- HALT, fetch and preparation (R78, R79, R84, R86). -/
def Obligations.HaltAndPreparation : Prop :=
  ∀ (e : Eng) (s : State), s.regsOk →
    let g := s.eng e
    let done := g.drqs = [] ∧ s.pureActive e = false
    (s.ready e (fmtA 43 0 0 0 0) = true → ¬ done → ∃ t, exec (.halt e) s = .next t ∧
      Issued e { g with pc := g.pc + 4, wait := .halt 0 } s t) ∧
    (s.ready e (fmtA 43 0 0 0 0) = true → done → ∃ t, exec (.halt e) s = .next t ∧
      t.rd (ENG_STATE_STATE e) = 1 ∧ t.flag (ENG_EVENT_HALTED e) = true ∧ t.rd (ENG_EVENT_HALT_REASON e) = 0 ∧
      (t.stg e).mark = none ∧ (t.stg e).cur = [] ∧ (t.eng e).vs = none) ∧
    (∀ r, g.wait = .halt r → r < 8 → s.engHeld e = false → done → ∃ t, exec (.haltComplete e) s = .next t ∧
      t.rd (ENG_STATE_STATE e) = 1 ∧ t.flag (ENG_EVENT_HALTED e) = true ∧ t.rd (ENG_EVENT_HALT_REASON e) = r ∧
      (t.eng e).wait = .none ∧ (t.stg e).mark = none) ∧
    (s.engState e = 3 → s.engHeld e = false → g.wait = .none → s.fetched e = none → s.fetchOk e = true →
      s.memHeld (s.engAcc e 3) (s.fetchAddr e / 64 * 64) 64 = false →
      (let r := s.readWhole (s.engAcc e 3) (s.fetchAddr e / 64 * 64) 1
       r.2.2 = none → ∃ t, exec (.icacheLineFill e) s = .next t ∧
         t.fetched e = some (fieldAt r.2.1 (g.pc.toNat % 64) 4) ∧ (t.eng e).pc = g.pc)) ∧
    (s.engState e = 3 → s.engHeld e = false → g.wait = .none → s.fetched e = none → s.fetchOk e = false → s.canTrap e →
      ∃ t, exec (.icacheLineFill e) s = .next t ∧ Trapped e 1 1 (s.fetchAddr e % 2 ^ 36) g.pc s t) ∧
    (s.engState e = 1 → s.paused = false → s.drained e = true → g.desc.ldiLen = 0 →
      (g.startWait = none → ∃ t, exec (.taskPreparationDone e) s = .next t ∧ t.engState e = 2 ∧
        t.flag (ENG_STATE_INTRAP e) = false ∧ t.eng e = { g.fresh with sram := [] }) ∧
      (∀ o, g.startWait = some o → ∃ t, exec (.taskPreparationDone e) s = .next t ∧ t.engState e = 3 ∧
        (t.eng e).stime = (if s.aux e then 0 else o) ∧ (t.eng e).startWait = none ∧
        (t.eng e).pc = BitVec.ofNat 24 g.desc.entry)) ∧
    (let s0 := s.updEng e fun g => { g with icache := [], sram := [] }
     s.engState e = 1 → s.engHeld e = false → s.drained e = true → g.startWait = none →
      s.memHeld (s.engAcc e 1) g.desc.ldiSrc g.desc.ldiLen = false →
      ((s0.ldiCopy e).2 = none → ∃ t, exec (.taskPreparationDone e) s = .next t ∧ t.engState e = 2 ∧
        (t.eng e).sram = ((s0.ldiCopy e).1.eng e).sram) ∧
      (∀ r a, (s0.ldiCopy e).2 = some (r, a) → ∃ t, exec (.taskPreparationDone e) s = .next t ∧ t.engState e = 4 ∧
        t.flag (ENG_EVENT_TRAP_HALT e) = true ∧ bits (t.eng e).trapcause.toNat 0 8 = 6 ∧ (t.eng e).g = g.g))

/-- ENG_CTRL, the early close of a row and the stall on a held bank (R79, R80, R107, R114, R125, R331): a command to a gated
engine does nothing. That a STOP without a task is refused is the model's choice (log entry 182). -/
def Obligations.EngineControl : Prop :=
  ∀ (e : Eng) (s : State), s.regsOk →
    let g := s.eng e
    let awake := ∃ p, s.engPart e = some p ∧ s.pmode p ≠ 6
    let refused := fun (c : Instr) => exec c s = .next (s.on (ENG_EVENT_CMD_REFUSED e))
    let clocked := s.flag (CLKPWR_GATE_GATED e) = false
    (s.flag (CLKPWR_GATE_GATED e) = true →
      exec (.engStart e) s = .next s ∧ exec (.engStop e) s = .next s ∧ exec (.engRearm e) s = .next s) ∧
    (clocked → s.aux e = true → awake → s.engState e = 2 → ∃ t, exec (.engStart e) s = .next t ∧ t.engState e = 3 ∧
      (t.eng e).stime = 0 ∧ (t.eng e).startWait = none ∧ (t.stg e) = {}) ∧
    (clocked → s.aux e = true → awake → s.engState e = 1 → ∃ t, exec (.engStart e) s = .next t ∧
      EngFrame e [(ENG_EVENT_START_LATE e).addr] s t ∧ t.flag (ENG_EVENT_START_LATE e) = true ∧
      t.eng e = { g with startWait := some 0 }) ∧
    (clocked → s.aux e = false ∨ ¬ awake ∨ (s.engState e ≠ 1 ∧ s.engState e ≠ 2) → refused (.engStart e)) ∧
    (clocked → s.engState e = 3 → g.wait = .none → g.async = [] → g.drqs = [] → s.pureActive e = false → ∃ t, exec (.engStop e) s = .next t ∧
      t.engState e = 1 ∧ t.flag (ENG_EVENT_HALTED e) = true ∧ t.rd (ENG_EVENT_HALT_REASON e) = 2) ∧
    (clocked → s.engState e = 1 → g.startWait.isSome → ∃ t, exec (.engStop e) s = .next t ∧
      EngFrame e [] s t ∧ t.eng e = { g with startWait := none }) ∧
    (clocked → s.engState e ≠ 3 → (s.engState e ≠ 1 ∨ g.startWait = none) → refused (.engStop e)) ∧
    (clocked → s.engState e = 4 → ∃ t, exec (.engRearm e) s = .next t ∧ EngFrame e [(ENG_STATE_STATE e).addr] s t ∧
      t.engState e = 1 ∧ t.engs = s.engs) ∧
    (clocked → s.engState e ≠ 4 → refused (.engRearm e)) ∧
    (s.flag (ENG_STG_CFG_FLUSH_EN e) = true → g.stg.cur ≠ [] → s.paused = false →
      vtGe s.vt.vt (g.stg.curVt + 2 ^ 48 - g.stg.lead) = true → ∃ t, exec (.flushRow e) s = .next t ∧
      (t.stg e).cur = [] ∧ (t.stg e).fill = g.stg.fill + 1 ∧ (t.eng e).stime = g.stime ∧
      t.rd (ENG_STG_COUNT_FLUSH e) = min (s.rd (ENG_STG_COUNT_FLUSH e) + 1) 255) ∧
    (∀ a b c d k, g.wait = .emit a b c d k → g.stg.held = true → s.engHeld e = false →
      (s.faults.queue.filter fun x => x.src = e.val).length < 4 → ∃ t, exec (.stageHoldStall e) s = .next t ∧
      t = { s with faults := { s.faults with queue := t.faults.queue } } ∧
      ∃ m, t.faults.queue = s.faults.queue ++ [m] ∧ m.src = e.val ∧ m.kind = 2 ∧ m.part = s.engPart e)

/-! Vector lanes. A pair is kept with its TX lane: `s.txOf k` is the TX lane of the pair RX lane k belongs to, `s.rxOf k`
the RX lane of TX lane k's. Lane states are those of VLANE_STATE: 1 DETECT, 2 TRAIN, 3 LOCK, 4 EXCHANGE, 5 ACTIVE, 6
STANDBY, 7 LOOPBACK, 8 out of service. -/

/-- Frames (R117, R122, R136, R138, R140, R144, R153): what the lane sends; a data frame received counts, credits its
header's buffers and is compared at the Vector Time rebuilt from its 24-bit field; a bad one is counted. -/
def Obligations.LaneFrames : Prop :=
  ∀ (k : Fin 100) (count : BitVec 8) (vt : BitVec 24) (credit : BitVec 4) (payload : BitVec 1024) (ups : List (Nat × BitVec 256 × BitVec 56)) (s : State),
    s.regsOk →
    let x := s.lane k
    let p := s.txOf k
    let live := s.paused = false ∧ s.rxState k = 5
    let avail := 0x20000C + 0x1000 * p
    let err := 0x200018 + 0x1000 * k.val
    let nib := fun i => bits payload.toNat (4 * i) 4
    (∀ d m g, s.txReady k = some (d, m, g) → ∀ e n f, (s.stgUpset d g.row.num ups).txReady k = some (e, n, f) →
      ∀ u, (s.stgUpset d g.row.num ups).replayEcho e f = some u → u.regsOk → ∃ t, exec (.txDataFrame k ups) s = .next t ∧
      t.lane k = { (u.lane k).send (.frame ⟨1, f.cycles.length, f.vt % 2 ^ 24, (u.lane k).seq,
          packPayload (Machine.payload f.cycles (u.engP e) n)⟩) with
        seq := ((u.lane k).seq + 1) % 16, sent := (u.lane k).sent + 1 : Lane } ∧
      t.rd (VLANE_TX_FRAMES_COUNT k) = min (u.rd (VLANE_TX_FRAMES_COUNT k) + 1) (2 ^ 32 - 1) ∧
      t.rd (VLANE_CREDIT_AVAIL k) = u.rd (VLANE_CREDIT_POOL k) - ((u.lane k).sent + 1 - (u.lane k).freed)) ∧
    (∀ d m g, s.txReady k = some (d, m, g) → ∀ e n f, (s.stgUpset d g.row.num ups).txReady k = some (e, n, f) →
      (s.stgUpset d g.row.num ups).replayEcho e f = none → ∃ t, exec (.txDataFrame k ups) s = .next t ∧
      t.lane k = x.send (.frame { typ := 0, seq := x.seq }) ∧ t.engs = (s.stgUpset d g.row.num ups).engs) ∧
    (s.paused = false → x.gatedIdle = false → s.txState k = 5 ∨ (s.txState k = 6 ∧ x.lb = none) → s.txReady k = none →
      ∃ t, exec (.txIdleFrame k) s = .next t ∧ LaneFrame [k.val] [] s t ∧
        t.lane k = x.send (.frame { typ := 0, seq := x.seq })) ∧
    (s.paused = false → x.gatedIdle = false → s.txState k = 7 ∨ s.txState k = 6 → ∀ l, x.lb = some l → l.mode ≠ 0 →
      l.frames = 0 ∨ l.sent < l.frames → ∃ t, exec (.txIdleFrame k) s = .next t ∧ LaneFrame [k.val] [] s t ∧
        t.lane k = { x with lb := some l.next.2 }.send (.frame { typ := 3, seq := x.seq, payload := l.next.1 })) ∧
    (live → s.rxC k < count.toNat → s.rd (VLANE_CFG_ERR_LIMIT k) = 0 →
      ∃ t, exec (.rxDataFrame k count vt credit payload) s = .next t ∧ LaneFrame [k.val] [err] s t ∧
        t.rd (VLANE_RX_ERR_CRC k) = min (s.rd (VLANE_RX_ERR_CRC k) + 1) 255) ∧
    (live → count = 0 → ∃ t, exec (.rxDataFrame k count vt credit payload) s = .next t ∧
      LaneFrame [k.val, p] [avail] s t ∧ Credited p credit.toNat s t) ∧
    (live → count ≠ 0 → count.toNat ≤ s.rxC k → ∃ u v, LaneFrame [k.val, p] [avail, 0x200014 + 0x1000 * k.val] s u ∧
      Credited p credit.toNat s u ∧ u.rd (VLANE_RX_FRAMES_COUNT k) = min (s.rd (VLANE_RX_FRAMES_COUNT k) + 1) (2 ^ 32 - 1) ∧
      v < 2 ^ 48 ∧ v % 2 ^ 24 = vt.toNat ∧ (v + 2 ^ 48 + 2 ^ 23 - s.vt.vt % 2 ^ 48) % 2 ^ 48 < 2 ^ 24 ∧
      exec (.rxDataFrame k count vt credit payload) s = .next (u.capFrame (s.logRx k) v count.toNat nib)) ∧
    (live → ∃ t, exec (.rxIdleFrame k credit) s = .next t ∧ LaneFrame [k.val, p] [avail] s t ∧ Credited p credit.toNat s t) ∧
    (live → ∃ t, exec (.rxContentIgnored k credit) s = .next t ∧
      LaneFrame [k.val, p] [avail, 0x20001C + 0x1000 * k.val] s t ∧ Credited p credit.toNat s t ∧
      t.rd (VLANE_RX_IGNORED_COUNT k) = min (s.rd (VLANE_RX_IGNORED_COUNT k) + 1) 65535) ∧
    (live → s.rd (VLANE_CFG_ERR_LIMIT k) = 0 →
      (∃ t, exec (.rxFrameError k .crc) s = .next t ∧ LaneFrame [k.val] [err] s t ∧ (t.lane k).noComma = 0 ∧
        t.rd (VLANE_RX_ERR_CRC k) = min (s.rd (VLANE_RX_ERR_CRC k) + 1) 255) ∧
      (∃ t, exec (.rxFrameError k .code) s = .next t ∧ LaneFrame [k.val] [err] s t ∧ (t.lane k).noComma = 0 ∧
        t.rd (VLANE_RX_ERR_CODE k) = min (s.rd (VLANE_RX_ERR_CODE k) + 1) 255) ∧
      (x.noComma ≠ 3 → ∃ t, exec (.rxFrameError k .align) s = .next t ∧ LaneFrame [k.val] [err] s t ∧
        (t.lane k).noComma = x.noComma + 1 ∧
        t.rd (VLANE_RX_ERR_ALIGN k) = min (s.rd (VLANE_RX_ERR_ALIGN k) + 1) 255) ∧
      (x.noComma = 3 → ∃ t, exec (.rxFrameError k .align) s = .next t ∧
        LaneFrame [k.val] [err, 0x200030 + 0x1000 * k.val] s t ∧ (t.lane k).noComma = 0 ∧
        t.flag (VLANE_EVENT_LOCK_LOST k) = true ∧
        t.rd (VLANE_RX_ERR_LOCK_LOSS k) = min (s.rd (VLANE_RX_ERR_LOCK_LOSS k) + 1) 255)) ∧
    (live → s.txState p ≠ 8 → s.rxState (s.rxOf p) ≠ 8 →
      ∃ t, exec (.laneNoValidFrame (.vl k)) s = .next t ∧ t.txState p = 1 ∧ t.rxState (s.rxOf p) = 1 ∧
      t.rd (VLANE_STATE_ATTEMPTS p) = 0 ∧ (t.lane p).out = none ∧ (t.lane p).reqs = [])

/-- Answers to control requests (R140, R141, R143 to R145, R152, R154 to R156). -/
def Obligations.LaneControl : Prop :=
  ∀ (k : Fin 100) (tag status : BitVec 8) (total : BitVec 16) (late discards gaps : BitVec 32) (credit : BitVec 4)
    (r : CtrlReq) (s : State), s.regsOk →
    let p := s.txOf k
    let x := s.lane p
    let live := s.paused = false ∧ s.rxState k = 5
    let avail := 0x20000C + 0x1000 * p
    let ignored := fun (c : Instr) => ∃ t, exec c s = .next t ∧ LaneFrame [k.val, p] [avail, 0x20001C + 0x1000 * k.val] s t ∧
      Credited p credit.toNat s t ∧ t.rd (VLANE_RX_IGNORED_COUNT k) = min (s.rd (VLANE_RX_IGNORED_COUNT k) + 1) 65535
    (live → x.answered 1 tag.toNat = none → ignored (.configAck k tag status credit)) ∧
    (live → x.answered 1 tag.toNat = some r →
      (status = 0 → ∃ t, exec (.configAck k tag status credit) s = .next t ∧ LaneFrame [k.val, p] [avail] s t ∧
        Credited p credit.toNat s t ∧ (t.lane p).reqs = x.reqs.filter (fun y => y ≠ r) ∧
        (t.lane p).cfgTag = if x.cfgTag = some tag.toNat then none else x.cfgTag) ∧
      (status ≠ 0 → ∃ t, exec (.configAck k tag status credit) s = .next t ∧
        t.flag (VLANE_EVENT_CONFIG_REFUSED p) = true ∧ t.txState p = 8 ∧ t.rxState (s.rxOf p) = 8 ∧
        (t.lane p).reqs = [])) ∧
    (∀ l, x.lb = some l → s.rxState k = 7 → l.mode ≠ 2 → exec (.loopbackAck k tag status credit) s = .next s) ∧
    (∀ l, x.lb = some l → s.paused = false → s.rxState k = 5 ∨ (s.rxState k = 7 ∧ l.mode = 2) →
      x.answered 2 tag.toNat = some r → l.waiting = true →
      (status = 0 → s.logTx p ≠ 255 → s.txState p ≠ 8 → s.rxState (s.rxOf p) ≠ 8 →
        ∃ t, exec (.loopbackAck k tag status credit) s = .next t ∧ t.txState p = 7 ∧
        t.rxState (s.rxOf p) = 7 ∧ t.flag (VLANE_EVENT_LB_RUNNING p) = true ∧ t.rd (VLANE_LB_FRAMES p) = 0 ∧
        t.rd (VLANE_LB_ERRORS p) = 0 ∧ (t.lane p).lb = some { l with waiting := false }) ∧
      (status ≠ 0 → ∃ t, exec (.loopbackAck k tag status credit) s = .next t ∧
        LaneFrame [k.val, p] [avail, 0x200030 + 0x1000 * p] s t ∧ t.flag (VLANE_EVENT_CMD_REFUSED p) = true ∧
        (t.lane p).lb = none)) ∧
    (live →
      (let out := (x.sent + 65536 - total.toNat) % 65536
       (out ≤ s.rd (VLANE_CREDIT_POOL p) → out ≤ x.sent → credit = 0 →
        ∃ t, exec (.creditSync k tag total credit) s = .next t ∧ LaneFrame [k.val, p] [avail] s t ∧
        (t.lane p).freed = x.sent - out ∧ t.rd (VLANE_CREDIT_AVAIL p) = s.rd (VLANE_CREDIT_POOL p) - out ∧
        t.rd (VLANE_CREDIT_FIX p) =
          if x.sent - out = x.freed then s.rd (VLANE_CREDIT_FIX p) else min (s.rd (VLANE_CREDIT_FIX p) + 1) 65535) ∧
       (s.rd (VLANE_CREDIT_POOL p) < out ∨ x.sent < out → credit = 0 →
        ∃ t, exec (.creditSync k tag total credit) s = .next t ∧ LaneFrame [k.val, p] [0x20001C + 0x1000 * k.val] s t ∧
        (t.lane p).freed = x.freed ∧
        t.rd (VLANE_RX_IGNORED_COUNT k) = min (s.rd (VLANE_RX_IGNORED_COUNT k) + 1) 65535))) ∧
    (∀ sp, live → (∀ j, j < 100 → (s.lane j).moltRx ≠ some k.val) → x.answered 4 tag.toNat = some r → r.args.headD 1 = 0 →
      x.moltTx = some sp → sp < 100 → sp ≠ p → s.txState sp = 6 → ∃ t, exec (.moltAck k tag 0 credit) s = .next t ∧
        t.logTx sp = s.logTx p ∧ t.logTx p = 255 ∧ t.txState p = 8 ∧ t.txState sp = 5 ∧ (t.lane sp).seq = x.seq ∧
        (t.lane sp).sent = x.sent ∧ (t.lane sp).freed = min (x.freed + credit.toNat) x.sent ∧
        t.flag (VLANE_EVENT_MOLT_OUT p) = true ∧ t.flag (VLANE_EVENT_MOLT_IN sp) = true) ∧
    (∀ sp, x.moltTx = some sp → live → (∀ j, j < 100 → (s.lane j).moltRx ≠ some k.val) → x.answered 4 tag.toNat = some r →
      r.args.headD 1 = 0 → s.txState sp ≠ 6 → s.restarting = false → s.logTx p < 96 →
      s.txState (96 + s.logTx p / 24) ≠ 6 → ∃ t, exec (.moltAck k tag 0 credit) s = .next t ∧ t.txState p = 8 ∧
        (t.lane p).reqs = [] ∧ t.aliveTx (s.logTx p) = false ∧ t.aliveRx (s.logTx p) = false) ∧
    (∀ j, s.paused = false → s.rxState k = 6 → j < 100 → j ≠ k.val → (s.lane j).moltRx = some k.val →
      (∀ i, i < j → (s.lane i).moltRx ≠ some k.val) → (s.lane (s.txOf j)).answered 4 tag.toNat = some r →
      ∃ t, exec (.moltAck k tag 0 credit) s = .next t ∧ t.logRx k = s.logRx j ∧ t.logRx j = 255 ∧ t.rxState j = 8 ∧
        t.rxState k = 5 ∧ t.flag (VLANE_EVENT_MOLT_OUT j) = true ∧ t.flag (VLANE_EVENT_MOLT_IN k) = true) ∧
    (live → s.rd (VLANE_CFG_ERR_LIMIT p) = 0 → ∃ t, exec (.peerStatus k tag late discards gaps credit) s = .next t ∧
      LaneFrame [k.val, p] [avail, 0x200024 + 0x1000 * p, 0x200028 + 0x1000 * p] s t ∧ Credited p credit.toNat s t ∧
      t.rd (VLANE_PEER_LATE_LATE_CYCLES p) = late.toNat ∧ t.rd (VLANE_PEER_ERR_TX_DISCARDS p) = discards.toNat % 65536 ∧
      t.rd (VLANE_PEER_ERR_SEQ_GAPS p) = gaps.toNat % 65536 ∧ (t.lane p).discards = discards.toNat) ∧
    (let rs := (s.lane k).reqs.filter fun y => y.sends < 64
     s.paused = false → rs.getLast? = some r → r.on < 100 →
      ∃ t, exec (.ctrlRequestResend (.vl k)) s = .next t ∧ LaneFrame (k.val :: rs.map CtrlReq.on) [] s t ∧
        (t.lane r.on).out = some (.frame (r.frame (s.lane k).seq)) ∧
        (t.lane k).reqs = (s.lane k).reqs.map fun y => if y.sends < 64 then { y with sends := y.sends + 1 } else y) ∧
    (s.paused = false → (s.lane k).reqs.find? (fun y => 64 ≤ y.sends) = some r → s.txState k ≠ 8 →
      s.rxState (s.rxOf k) ≠ 8 →
      ∃ t, exec (.laneCtrlTimeout (.vl k)) s = .next t ∧ t.flag (VLANE_EVENT_CTRL_TIMEOUT k) = true ∧ t.txState k = 1 ∧
        t.rxState (s.rxOf k) = 1 ∧ (t.lane k).reqs = [] ∧ t.rd (VLANE_STATE_ATTEMPTS k) = 0)

/-- Bring-up of a pair (R146 to R150): detection, bit lock, training sets, capability blocks, the failed attempts. -/
def Obligations.LaneBringUp : Prop :=
  ∀ (k : Fin 100) (tb valid : Bool) (cubeId : BitVec 3) (logical : BitVec 8) (payload : BitVec 1024) (p : Nat) (s : State),
    s.regsOk →
    let b := payload.setWidth 128
    let x := s.lane p
    let cube := s.pins.straps % 8
    let good := cubeId.toNat = cube ∧ logical.toNat = s.logTx p
    let set := Instr.trainingSetRx (.vl k) tb valid cubeId logical
    let frame := Instr.trainingFrameRx (.vl k) true payload
    let blockOk := blockByte b 0 = 1 ∧ 8 ≤ blockByte b 6 ∧ blockByte b 6 ≤ 200 ∧ blockByte b 4 % 8 ≠ 0
    let at1 := fun (t : State) => t.txState k = 1 ∧ t.rxState (s.rxOf k) = 1
    let clocked := s.flag (CLKPWR_GATE_GATED (srcLane k)) = false
    let block := fun (t : State) => LineOut.frame (blockFrame (s.logTx p) p (t.lane p).seq)
    s.paused = false →
    (s.trainOf k = none → exec (.laneBitLock (.vl k)) s = .next s ∧ exec set s = .next s ∧ exec frame s = .next s) ∧
    (s.trainOf k = some p → s.rxState (s.rxOf p) ≠ 8 → s.rxState (s.rxOf k) ≠ 8 →
    (exec (.receiverDetect (.vl k) false) s = .next s) ∧
    (s.txState k = 1 → s.leads k = true → (s.lane k).gatedIdle = false →
      ∃ t, exec (.receiverDetect (.vl k) true) s = .next t ∧
      t.txState k = 2 ∧ t.rxState (s.rxOf k) = 2 ∧ t.flag (VLANE_STATE_ABSENT k) = false ∧
      (t.lane k).out = some (.set false (s.logTx k) k cube) ∧
      (s.flag (VLANE_STATE_ABSENT k) = false → LaneFrame (s.trainTxs k)
        [0x200000 + 0x1000 * k.val, 0x200000 + 0x1000 * s.rxOf k] s t)) ∧
    (s.txState p = 2 → ∃ t, exec (.laneBitLock (.vl k)) s = .next t ∧ t.txState p = 3 ∧ t.rxState (s.rxOf p) = 3 ∧
      t.lane p = { x with bitLock := true }.send (.set false (s.logTx p) p cube)) ∧
    (s.txState p = 3 →
      (valid = true → ∃ t, exec set s = .next t ∧ t.rd (VLANE_PEER_ECHO_LOG p) = logical.toNat ∧
        (t.lane p).sets = x.sets + 1 ∧
        (¬ (x.symLock = true ∧ tb = true ∧ good) → (t.lane p).out = some (.set x.symLock (s.logTx p) p cube)) ∧ ((t.lane p).symLock = true ↔ x.symLock = true ∨ 3 ≤ x.sets) ∧
        (t.lane p).tbs = (if tb = true ∧ good then x.tbs + 1 else 0) ∧
        (tb = true → ¬ good → (t.lane p).mismatch = true)) ∧
      (valid = false → ∃ t, exec set s = .next t ∧ (t.lane p).sets = 0 ∧ (t.lane p).tbs = 0) ∧
      (valid = true → tb = true → good → x.symLock = true → 7 ≤ x.tbs → 15 ≤ x.tbSent → ∃ t, exec set s = .next t ∧
        t.txState p = 4 ∧ t.rxState (s.rxOf p) = 4 ∧ (t.lane p).out = some (block t))) ∧
    (s.txState p = 4 → blockOk →
      (x.block ≠ some b ∨ x.blocks < 3 → ∃ t, exec frame s = .next t ∧ LaneFrame (s.trainTxs p) [] s t ∧
        t.lane p = { x with block := some b, blocks := x.blocks + 1 }.send (block s)) ∧
      (x.block = some b → 3 ≤ x.blocks → s.logTx p = 255 → ∃ t, exec frame s = .next t ∧ t.txState p = 6 ∧
        t.rxState (s.rxOf p) = 6 ∧ t.rd (VLANE_CREDIT_POOL p) = blockByte b 6) ∧
      (x.block = some b → 3 ≤ x.blocks → s.logTx p ≠ 255 → x.wantTx = false → x.wantRx = false →
        (s.lane (s.rxOf p)).wantRx = false → (s.lane (s.rxOf p)).wantTx = false → ∃ t, exec frame s = .next t ∧
        t.txState p = 5 ∧ t.rxState (s.rxOf p) = 5 ∧ t.flag (VLANE_EVENT_TRAINED p) = true ∧
        t.rd (VLANE_CREDIT_POOL p) = blockByte b 6 ∧ t.rd (VLANE_CREDIT_AVAIL p) = blockByte b 6 ∧
        t.rd (VLANE_PEER_VERSION p) = 1 ∧ (t.lane p).cfgTag = some x.nextTag)) ∧
    (s.txState p = 4 → ∃ t, exec (.trainingFrameRx (.vl k) false payload) s = .next t ∧
      t.lane p = { x with badCrc := true, block := none, blocks := x.blocks + 1 }.send (block s)) ∧
    (s.txState p = 7 ∨ s.txState p = 6 → ∀ l, x.lb = some l → ∀ f, l.flying.head? = some f → ∃ t, exec frame s = .next t ∧
      LaneFrame [p] [0x20002C + 0x1000 * p] s t ∧
      t.rd (VLANE_LB_FRAMES p) = min (s.rd (VLANE_LB_FRAMES p) + 1) 65535 ∧
      t.rd (VLANE_LB_ERRORS p) = min (s.rd (VLANE_LB_ERRORS p) + if payload = f then 0 else 1) 65535) ∧
    (s.txState k = 2 ∨ s.txState k = 3 ∨ s.txState k = 4 → s.leads k = true →
      (let n := s.rd (VLANE_STATE_ATTEMPTS k) + 1
       (n < 3 → (∀ j, j < 100 → (s.lane j).wantTx = false ∧ (s.lane j).wantRx = false ∧ (s.lane j).moltTx = none ∧
          (s.lane j).moltRx = none) → ∃ t, exec (.laneTrainTimeout (.vl k)) s = .next t ∧ at1 t ∧
          t.rd (VLANE_STATE_ATTEMPTS k) = n ∧ (t.lane k).bitLock = false) ∧
       (3 ≤ n → (s.lane k).failCause = 3 → ∃ t, exec (.laneTrainTimeout (.vl k)) s = .next t ∧ t.txState k = 8 ∧
          t.rxState (s.rxOf k) = 8 ∧ t.flag (VLANE_EVENT_TRAIN_FAIL k) = true ∧ t.rd (VLANE_STATE_FAIL_CAUSE k) = 3))) ∧
    (s.txState k = 1 → s.leads k = true → s.flag (VLANE_STATE_ABSENT k) = false → ∃ t, exec (.laneAbsent k) s = .next t ∧
      t.flag (VLANE_STATE_ABSENT k) = true ∧ t.txState k = 1 ∧
      (s.logTx k < 96 → t.aliveTx (s.logTx k) = false ∧ t.aliveRx (s.logTx k) = false)) ∧
    (clocked → s.txState k ≠ 0 → s.txState k ≠ 8 → s.leads k = true → ∃ t, exec (.laneRetrain k) s = .next t ∧ at1 t ∧
      t.rd (VLANE_STATE_ATTEMPTS k) = 0) ∧
    (clocked → s.txState k = 0 ∨ s.txState k = 8 ∨ s.leads k = false → ∃ t, exec (.laneRetrain k) s = .next t ∧
      OnlyRegs [0x200030 + 0x1000 * k.val] s t ∧ t.flag (VLANE_EVENT_CMD_REFUSED k) = true))

/-- Molts and loopback of VLANE_CTRL (R130, R152, R155 to R157, R346). -/
def Obligations.LaneMoltsAndLoopback : Prop :=
  ∀ (k : Fin 100) (mode : BitVec 2) (frames : BitVec 16) (s : State), s.regsOk →
    let x := s.lane k
    let l := s.logTx k
    let m := s.logRx k
    let ev := 0x200030 + 0x1000 * k.val
    let refused := fun (c : Instr) => ∃ t, exec c s = .next t ∧ OnlyRegs [ev] s t ∧ t.flag (VLANE_EVENT_CMD_REFUSED k) = true
    let may := s.txState k = 5 ∧ s.rxState (s.rxOf k) = 5 ∧ s.laneInRun l = false ∧ mode ≠ 3 ∧ s.paused = false ∧
      (mode = 2 → s.flag (VLANE_PEER_FAR_LB k) = true) ∧ x.lb = none
    let mayEnd := s.txState k ≠ 8 ∧ s.rxState (s.rxOf k) ≠ 8 ∧ x.wantTx = false ∧ (s.lane (s.rxOf k)).wantRx = false
    let clocked := s.flag (CLKPWR_GATE_GATED (srcLane k)) = false
    let freeTx := fun (sp : Nat) => ∀ j, j < 100 → (s.lane j).moltTx ≠ some sp
    let freeRx := fun (sp : Nat) => ∀ j, j < 100 → (s.lane j).moltRx ≠ some sp
    let ended := fun (c : Instr) => ∃ t, exec c s = .next t ∧
      (if l = 255 then t.txState k = s.txState k else t.txState k = 5 ∧ t.rxState (s.rxOf k) = 5) ∧
      t.flag (VLANE_EVENT_LB_RUNNING k) = false ∧ t.flag (VLANE_EVENT_LB_DONE k) = true ∧ (t.lane k).lb = none ∧
      (s.rd (VLANE_LB_ERRORS k) ≠ 0 → t.flag (VLANE_EVENT_LB_FAIL k) = true)
    (s.flag (CLKPWR_GATE_GATED (srcLane k)) = true → exec (.laneRetrain k) s = .next s ∧ exec (.moltTx k) s = .next s ∧
      exec (.moltRx k) s = .next s ∧ exec (.lbStart k mode frames) s = .next s ∧ exec (.lbStop k) s = .next s) ∧
    (clocked →
    (l = 255 ∨ s.txState k = 0 ∨ s.txState k = 8 → refused (.moltTx k)) ∧
    (m = 255 ∨ s.rxState k = 0 ∨ s.rxState k = 8 → refused (.moltRx k)) ∧
    (l ≠ 255 → s.txState k ≠ 0 → s.txState k ≠ 5 → s.txState k ≠ 8 → ∃ t, exec (.moltTx k) s = .next t ∧
      LaneFrame [k.val] [] s t ∧ t.lane k = { x with wantTx := true }) ∧
    (m ≠ 255 → s.rxState k ≠ 0 → s.rxState k ≠ 5 → s.rxState k ≠ 8 → ∃ t, exec (.moltRx k) s = .next t ∧
      LaneFrame [k.val] [] s t ∧ t.lane k = { x with wantRx := true }) ∧
    (l ≠ 255 → s.txState k = 5 → x.moltTx = none → s.restarting = true → exec (.moltTx k) s = .next (s.defer (.laneTx k))) ∧
    (m ≠ 255 → s.rxState k = 5 → x.moltRx = none → s.restarting = true → exec (.moltRx k) s = .next (s.defer (.laneRx k))) ∧
    (l < 96 → s.txState k = 5 → x.moltTx = none → s.restarting = false → s.txState (96 + l / 24) = 6 →
      s.logTx (96 + l / 24) = 255 → freeTx (96 + l / 24) → ∃ t,
      exec (.moltTx k) s = .next t ∧ LaneFrame [k.val, 96 + l / 24] [] s t ∧
      (t.lane k).moltTx = some (96 + l / 24) ∧ (t.lane k).reqs = x.reqs ++ [⟨4, x.nextTag, [0, l, 96 + l / 24, k], 96 + l / 24, 1⟩] ∧
      (t.lane (96 + l / 24)).out.isSome) ∧
    (m < 96 → s.rxState k = 5 → x.moltRx = none → s.restarting = false → s.rxState (96 + m / 24) = 6 →
      s.logRx (96 + m / 24) = 255 → freeRx (96 + m / 24) → ∃ t, exec (.moltRx k) s = .next t ∧ LaneFrame [k.val, s.txOf k] [] s t ∧
      (t.lane k).moltRx = some (96 + m / 24) ∧
      (t.lane (s.txOf k)).reqs = (s.lane (s.txOf k)).reqs ++
        [⟨4, (s.lane (s.txOf k)).nextTag, [1, m, 96 + m / 24, k], s.txOf k, 1⟩]) ∧
    (l < 96 → s.txState k = 5 → x.moltTx = none → s.restarting = false →
      s.txState (96 + l / 24) ≠ 6 ∨ ¬ freeTx (96 + l / 24) →
      ∃ t, exec (.moltTx k) s = .next t ∧ t.txState k = 8 ∧ (t.lane k).out = none ∧ (t.lane k).reqs = [] ∧ t.aliveTx l = false ∧
        t.aliveRx l = false) ∧
    (¬ may → refused (.lbStart k mode frames)) ∧
    (may → mode = 0 → ∃ t, exec (.lbStart k mode frames) s = .next t ∧ t.txState k = 7 ∧ t.rxState (s.rxOf k) = 7 ∧
      t.flag (VLANE_EVENT_LB_RUNNING k) = true ∧ t.rd (VLANE_LB_FRAMES k) = 0 ∧ t.rd (VLANE_LB_ERRORS k) = 0 ∧
      ∃ y, (t.lane k).lb = some y ∧ y.mode = 0 ∧ y.frames = frames.toNat ∧ y.done = 0 ∧ y.waiting = false ∧
        y.flying = [] ∧ y.sent = 0 ∧ y.prbs ≠ 0 ∧ y.prbs < 2 ^ 31) ∧
    (may → mode ≠ 0 → ∃ t, exec (.lbStart k mode frames) s = .next t ∧
      LaneFrame [k.val] [] { s with free := s.free + 1 } t ∧
      (∃ y, (t.lane k).lb = some y ∧ y.mode = mode.toNat ∧ y.frames = frames.toNat ∧ y.done = 0 ∧ y.waiting = true ∧
        y.flying = [] ∧ y.sent = 0 ∧ y.prbs ≠ 0 ∧ y.prbs < 2 ^ 31) ∧
      (t.lane k).reqs = x.reqs ++ [⟨2, x.nextTag, [if mode = 2 then 1 else 2], k, 1⟩]) ∧
    (x.lb = none → exec (.lbStop k) s = .next s) ∧
    (∀ y, x.lb = some y → y.waiting = true → ∃ t, exec (.lbStop k) s = .next t ∧ LaneFrame [k.val] [] s t ∧
      (t.lane k).lb = none ∧ (t.lane k).reqs = x.reqs.filter (fun q => q.op ≠ 2) ++ [⟨2, x.nextTag, [0], k, 1⟩]) ∧
    (mayEnd → ∀ y, x.lb = some y → y.waiting = false → ended (.lbStop k))) ∧
    (mayEnd → ∀ y, x.lb = some y → y.waiting = false → y.frames ≠ 0 → y.frames ≤ y.done → ended (.loopbackComplete k))

/-! Capture units -/

/-- A returned sample (R159, R165 to R168): with no entry it counts as unmatched or ahead; with one, a slot answered twice
is unmatched, a sample outside the window is closed, and inside it every pin whose level differs from its expect code
counts as failing and is recorded. A sample of an entry that the unit held when its fence lifted is discarded (R372; the
model's choice to count nothing, log entry 189). -/
def Obligations.ReturnedSamples : Prop :=
  ∀ (u : Fin 9) (lane e slot p v : Nat) (nib : Nat → Nat) (s : State), s.regsOk → lane < 96 → p < 16 →
    let t := s.capSample u lane e slot p v nib
    let pp := s.pPart p
    let ahead := t.rd (CAP_ECHO_AHEAD u) = min (s.rd (CAP_ECHO_AHEAD u) + 1) 255 ∧ OnlyRegs [capBase u + 0xC] s t
    let unmatched := t.rd (CAP_ECHO_UNMATCHED u) = min (s.rd (CAP_ECHO_UNMATCHED u) + 1) 65535 ∧
      OnlyRegs [capBase u + 0xC] s t
    let held := fun (x : EchoEnt) => (s.cap u).ring.find? (fun x => x.engine = e && x.vt = v) = some x
    let fails := fun (x : EchoEnt) (i : Nat) =>
      x.expect (slot * pp + i) ≠ 3 ∧ nib i % 4 ≠ 3 ∧ nib i % 4 ≠ x.expect (slot * pp + i)
    let sampled := fun (x : EchoEnt) => ∀ i, i < pp → x.expect (slot * pp + i) = 3 ∨ nib i % 4 ≠ 3
    let answered := fun (x : EchoEnt) (t : State) => (t.cap u).ring = if (x.answer slot).done then (s.cap u).ring.erase x
      else (s.cap u).ring.map fun z => if z = x then x.answer slot else z
    ((∀ x ∈ (s.cap u).ring, ¬ (x.engine = e ∧ x.vt = v)) →
      ((∀ n ∈ (s.cap u).newest, n.1 ≠ e) → ahead) ∧
      (∀ n, (s.cap u).newest.find? (fun n => n.1 = e) = some n → vtGe n.2 v = false → ahead) ∧
      (∀ n, (s.cap u).newest.find? (fun n => n.1 = e) = some n → vtGe n.2 v = true → unmatched)) ∧
    (∀ x, held x → x.stale = true → t = s) ∧
    (∀ x, held x → x.stale = false → bit x.answered slot = true → unmatched) ∧
    (∀ x, held x → x.stale = false → bit x.answered slot = false → s.winOpen p v = false →
      t.rd (CAP_PART_CLOSED u p) = min (s.rd (CAP_PART_CLOSED u p) + 1) 65535 ∧ answered x t) ∧
    (∀ x, held x → x.stale = false → bit x.answered slot = false → s.winOpen p v = true → pp ≤ 16 → sampled x →
      s.capEn p 0 = false → s.capEn p 1 = false → s.capEn p 2 = false → answered x t ∧
      ∀ i, i < pp → t.rd (CAP_PINCNT_FAILS u (16 * (lane % 12) + i)) =
        min (s.rd (CAP_PINCNT_FAILS u (16 * (lane % 12) + i)) + if fails x i then 1 else 0) (2 ^ 32 - 1)) ∧
    (∀ x g, held x → x.stale = false → bit x.answered slot = false → s.winOpen p v = true → pp ≤ 16 → sampled x → (∃ i, i < pp ∧ fails x i) →
      s.capEn p 0 = true → s.capEn p 1 = false → s.capEn p 2 = false → s.seg u p = some g → s.segFull u p = false →
      (s.cap u).queue.length < 512 → x.vt < 2 ^ 48 → s.groupOf u < 8 → ∃ r, (t.cap u).queue = (s.cap u).queue ++ [r] ∧ r.part = p ∧
        bits r.bits.toNat 0 48 = x.vt ∧ bits r.bits.toNat 48 4 = p ∧ bits r.bits.toNat 55 1 = 0 ∧
        bits r.bits.toNat 56 8 = lane ∧ ∀ i, i < pp → slot * pp + i < 64 →
          (r.bits.getLsbD (64 + slot * pp + i) = true ↔ fails x i))

/-- Evidence and the fail log (R161, R169 to R173): entries whose time has come are gone and leave a gap where something
was expected; runs close after 1 µs; capture DMA writes a fresh segment's zero header first, then its records, and halts
on an error; a full-looking segment reads RD again. Of a segment that unit 8 took over it reads the header first, then where
the next record is a granule's second the first (R187). A gated unit does none of it (R330). -/
def Obligations.CaptureEvidence : Prop :=
  ∀ (u : Fin 9) (p : Fin 16) (s : State), s.regsOk →
    let c := s.cap u
    let clocked := s.flag (CLKPWR_GATE_GATED (srcCap u)) = false
    let runs := s.paused = false ∧ s.rd (CAP_STATUS_STATE u) < 2 ∧ clocked
    let run := runs ∧ s.flag (CAP_STATUS_DMA_HALT u) = false
    let late := fun (x : EchoEnt) => s.reached (vtAdd x.vt (s.rttMax x.part))
    let halts := fun (c : Instr) => ∃ t, exec c s = .next t ∧ t.flag (CAP_STATUS_DMA_HALT u) = true
    (runs → (∀ x ∈ c.ring, x.part < 16) → ∃ t, exec (.echoEntryExpiry u) s = .next t ∧
      (t.cap u).ring = c.ring.filter (fun x => ! late x) ∧
      ∀ x ∈ c.ring, late x = true → (∃ n i, n < x.slots ∧ bit x.answered n = false ∧ i < s.pPart x.part ∧
        x.expect (n * s.pPart x.part + i) ≠ 3) → t.flag (CAP_PART_GAP u x.part) = true) ∧
    (¬ runs → exec (.echoEntryExpiry u) s = .next s ∧ exec (.gapRecordClose u) s = .next s ∧
      exec (.captureDmaWriteComplete u) s = .next s ∧ exec (.segmentHeaderWrite u p) s = .next s ∧
      exec (.segmentHeaderReread u p) s = .next s) ∧
    (runs → ∃ t, exec (.gapRecordClose u) s = .next t ∧ (t.cap u).runs = c.runs.filter (fun r => ! decide (r.since + 1 ≤ s.now)) ∧
      ((∀ r ∈ c.runs, s.capEn r.part 0 = false) → CapFrame u [] s t)) ∧
    (∀ y, c.segDue = some y → run → s.seg u y.part = some y → y.zeroDue = true →
      s.memHeld (s.capAcc u y.part 2) (s.segAddr u y.part 0) 64 = false →
      (let w := s.writeAll (s.capAcc u y.part 2) (s.segAddr u y.part 0) (List.replicate 64 0)
       (w.2 = none → ∃ t, exec (.captureDmaWriteComplete u) s = .next t ∧ t.dram = w.1.dram ∧
        ∃ z, t.seg u y.part = some z ∧ z.zeroDue = false ∧ z.hdrWr = 0 ∧ z.hdrAt = s.now) ∧
       (w.2 ≠ none → halts (.captureDmaWriteComplete u)))) ∧
    (∀ y, c.segDue = some y → run → s.seg u y.part = some y → y.zeroDue = false →
      (let q := y.part
       let n := y.written % s.nrec q
       (y.adopt = 1 → s.memHeld (s.capAcc u q 1) (s.segAddr u q 0) 24 = false →
        (let r := s.readMem (s.capAcc u q 1) (s.segAddr u q 0) 24
         (r.2.2 = none → ∃ t, exec (.captureDmaWriteComplete u) s = .next t ∧ t.dram = r.1.dram ∧
          ∃ z, t.seg u q = some z ∧ z.written = fieldAt r.2.1 0 8 ∧ z.rd = fieldAt r.2.1 16 8 ∧ z.hdrWr = z.written ∧
            z.adopt = if z.written % s.nrec q % 2 = 0 then 0 else 2) ∧
         (r.2.2 ≠ none → halts (.captureDmaWriteComplete u)))) ∧
       (y.adopt = 2 → s.memHeld (s.capAcc u q 1) (s.segAddr u q (64 + 32 * (n - 1))) 32 = false →
        (let r := s.readMem (s.capAcc u q 1) (s.segAddr u q (64 + 32 * (n - 1))) 32
         (r.2.2 = none → ∃ t, exec (.captureDmaWriteComplete u) s = .next t ∧ t.dram = r.1.dram ∧
          ∃ z, t.seg u q = some z ∧ z.adopt = 0 ∧ z.half.toNat = leNat r.2.1 % 2 ^ 256) ∧
         (r.2.2 ≠ none → halts (.captureDmaWriteComplete u)))))) ∧
    (c.segDue = none → run → ∀ r rest, c.queue = r :: rest → ∀ y, s.seg u r.part = some y →
      (let n := y.written % s.nrec r.part
       let bs := if n % 2 = 0 then natLe 32 r.bits.toNat ++ List.replicate 32 0
         else natLe 32 y.half.toNat ++ natLe 32 r.bits.toNat
       let w := s.writeAll (s.capAcc u r.part 2) (s.segAddr u r.part (64 + 32 * (n - n % 2))) bs
       s.memHeld (s.capAcc u r.part 2) (s.segAddr u r.part (64 + 32 * (n - n % 2))) 64 = false →
       (w.2 = none → ∃ t, exec (.captureDmaWriteComplete u) s = .next t ∧ t.dram = w.1.dram ∧ (t.cap u).queue = rest ∧
        ∃ z, t.seg u r.part = some z ∧ z.written = y.written + 1) ∧
       (w.2 ≠ none → halts (.captureDmaWriteComplete u)))) ∧
    (run → ∀ y, s.seg u p = some y → y.zeroDue = false → y.adopt = 0 → (y.hdrAt ≠ s.now ∨ y.hdrAt = 0) →
      s.memHeld (s.capAcc u p 2) (s.segAddr u p 0) 16 = false →
      (let w := s.writeAll (s.capAcc u p 2) (s.segAddr u p 0) (natLe 8 y.written ++ natLe 8 y.dropped)
       (w.2 = none → ∃ t, exec (.segmentHeaderWrite u p) s = .next t ∧ t.dram = w.1.dram ∧
        ∃ z, t.seg u p = some z ∧ z.hdrWr = y.written ∧ z.hdrDropped = y.dropped ∧ z.hdrAt = s.now) ∧
       (w.2 ≠ none → halts (.segmentHeaderWrite u p)))) ∧
    (run → ∀ y, s.seg u p = some y → y.adopt = 0 → s.nrec p ≤ y.queued - y.rd → (y.readAt < s.now ∨ y.readAt = 0) →
      s.memHeld (s.capAcc u p 1) (s.segAddr u p 16) 8 = false →
      (let r := s.readMem (s.capAcc u p 1) (s.segAddr u p 16) 8
       (r.2.2 = none → ∃ t, exec (.segmentHeaderReread u p) s = .next t ∧ t.dram = r.1.dram ∧
        ∃ z, t.seg u p = some z ∧ z.rd = leNat r.2.1 ∧ z.readAt = s.now) ∧
       (r.2.2 ≠ none → halts (.segmentHeaderReread u p)))) ∧
    (¬ clocked → exec (.dmaResume u) s = .next s) ∧
    (clocked → ∃ t, exec (.dmaResume u) s = .next t ∧ OnlyRegs [capBase u] s t ∧ t.flag (CAP_STATUS_DMA_HALT u) = false)

/-- The fail map and the counters (R176 to R179, R182, R184, R185): fills, flushes and write-backs of cached lines; RC_DUMP
copies the partition's counters and RC_CLEAR clears them, or the command is refused. -/
def Obligations.CaptureMap : Prop :=
  ∀ (u : Fin 9) (p : Fin 16) (s : State), s.regsOk →
    let c := s.cap u
    let clocked := s.flag (CLKPWR_GATE_GATED (srcCap u)) = false
    let runs := s.paused = false ∧ s.rd (CAP_STATUS_STATE u) < 2 ∧ clocked
    let flushed := fun (f : MapLine → Bool) (t : State) => CapFrame u [] s t ∧
      (t.cap u).wbs = c.wbs ++ (c.lines.filter fun l => l.dirty.isSome && ! l.filling && f l).map (fun l => { l with since := s.clk.live }) ∧
      ∀ l ∈ (t.cap u).lines, l.filling = false → f l = true → l.dirty = none
    let refused := fun (c : Instr) => ∃ t, exec c s = .next t ∧ OnlyRegs [capBase u] s t ∧
      t.flag (CAP_STATUS_CMD_REFUSED u) = true
    let dump := s.rd (CAP_RC_DUMP_LO_ADDR u) * 64 + s.rd (CAP_RC_DUMP_HI_ADDR u) * 2 ^ 32
    (¬ runs → exec (.mapFillComplete u) s = .next s ∧ exec (.mapLineAgeFlush u) s = .next s ∧
      exec (.mapPartitionFlush u p) s = .next s ∧ exec (.mapWritebackComplete u) s = .next s ∧
      exec (.rcDumpDone u) s = .next s) ∧
    (runs → ∀ l, c.lines.find? (fun l => l.filling) = some l → s.memHeld (s.mapAcc u l.part 4) l.gran 64 = false → (∀ w ∈ c.wbs, w.gran ≠ l.gran) →
      (let r := (s.portTake (s.mapAcc u l.part 4) l.gran 64).readGran (s.mapAcc u l.part 4) (chanOf l.gran) (granOf l.gran)
       (∀ d, r.2 = .data d → (∀ x ∈ c.upds, x.gran ≠ l.gran) → ∃ t, exec (.mapFillComplete u) s = .next t ∧
        (t.cap u).lines = c.lines.map fun x => if x.gran = l.gran
          then { x with data := BitVec.ofNat 512 (leNat d), filling := false } else x) ∧
       (r.2 = .uncorrectable → l.part < 16 → l.gran < 2 ^ 36 → ∃ t, exec (.mapFillComplete u) s = .next t ∧
        t.flag (CAP_PART_MAP_LOST u l.part) = true ∧ t.rd (CAP_PART_LOST_ADDR_LO u l.part) = l.gran % 2 ^ 32) ∧
       (r.2 = .error → (∀ x ∈ c.upds, x.gran ≠ l.gran) → ∃ t, exec (.mapFillComplete u) s = .next t ∧
        (t.cap u).lines = c.lines.filter fun x => x.gran ≠ l.gran))) ∧
    (¬ clocked → exec (.capFlush u) s = .next s ∧ exec (.rcDump u p) s = .next s ∧ exec (.rcClear u p) s = .next s) ∧
    (clocked → ∃ t, exec (.capFlush u) s = .next t ∧ flushed (fun _ => true) t) ∧
    (runs → ∃ t, exec (.mapLineAgeFlush u) s = .next t ∧ flushed (fun l => match l.dirty with
      | some d => decide (d + s.rd (CAP_CFG_FLUSH_AGE_US u) ≤ s.now)
      | none => false) t) ∧
    (runs → ∀ f, s.img.flushFrom.find? (fun x => x.1 = p.val) = some f →
      (∀ x ∈ c.ring, x.part = p.val → vtGe x.vt f.2 = true) → ∃ t, exec (.mapPartitionFlush u p) s = .next t ∧
        flushed (fun l => decide (l.part = p.val)) t) ∧
    (runs → ∀ w rest, c.wbs = w :: rest → s.memHeld (s.mapAcc u w.part 2) w.gran 64 = false →
      (let r := s.writeAll (s.mapAcc u w.part 2) w.gran (natLe 64 w.data.toNat)
       (r.2 = none → ∃ t, exec (.mapWritebackComplete u) s = .next t ∧ t.dram = r.1.dram ∧ (t.cap u).wbs = rest ∧
        (t.cap u).lines = c.lines) ∧
       (∀ a, r.2 ≠ none → w.range = some a → w.part < 16 → (∀ l ∈ c.lines, l.gran ≠ w.gran) →
        ∃ t, exec (.mapWritebackComplete u) s = .next t ∧ (t.cap u).wbs = rest ∧
          t.flag (CAP_PART_MAP_INCOMPLETE u w.part) = true))) ∧
    (clocked → s.serves u p = true → s.rcK p ≠ 0 → s.inRegion p 0 dump (2 * s.rcK p) = true → c.dump = none →
      s.flag (CAP_STATUS_DMA_HALT u) = false → ∃ t, exec (.rcDump u p) s = .next t ∧ CapFrame u [] s t ∧
        t.cap u = { c with dump := some (p, dump) }) ∧
    (clocked → s.serves u p = false ∨ s.rcK p = 0 ∨ s.inRegion p 0 dump (2 * s.rcK p) = false ∨ c.dump ≠ none ∨
      s.flag (CAP_STATUS_DMA_HALT u) = true → refused (.rcDump u p)) ∧
    (runs → ∀ q a, c.dump = some (q, a) → s.flag (CAP_STATUS_DMA_HALT u) = false →
      s.memHeld (s.capAcc u q 2) a (2 * s.rcK q) = false →
      (let w := s.writeAll (s.capAcc u q 2) a ((upFrom 0 (s.rcK q)).flatMap fun i => natLe 2 (s.rcGet u q i))
       (w.2 = none → ∃ t, exec (.rcDumpDone u) s = .next t ∧ t.dram = w.1.dram ∧ (t.cap u).dump = none ∧
        t.flag (CAP_STATUS_DUMP_DONE u) = true) ∧
       (w.2 ≠ none → ∃ t, exec (.rcDumpDone u) s = .next t ∧ t.flag (CAP_STATUS_DMA_HALT u) = true))) ∧
    (clocked → s.serves u p = true → s.rcK p ≠ 0 → ∃ t, exec (.rcClear u p) s = .next t ∧ CapFrame u [] s t ∧
      ∀ q i, i < 65536 → t.rcGet u q i = if q = p.val then 0 else s.rcGet u q i) ∧
    (clocked → s.serves u p = false ∨ s.rcK p = 0 → refused (.rcClear u p))

/-! The memory controllers. `s.physOf k` is the physical channel of logical channel k. -/

/-- Requests (R193 to R197, R209 to R214, R225): a master's request takes its class (log entry 149); one for a channel out of
service gets an error response; one for a held channel waits at its port; one that finds a whole token and room enters the
queue, where a buffered granule is forwarded, a full write goes to the write buffer and a read waits for the array; with no
class holding a token the regulator releases on surplus, one per port, channel and FCLK cycle; nothing overtakes an older
transfer of its queue (log entry 22). -/
def Obligations.MemoryRequests : Prop :=
  ∀ (k : Fin 32) (master : BitVec 10) (port write : Bool) (gran : BitVec 25) (off : BitVec 6)
    (data : List Byte) (cls : Nat) (cl : Fin 8) (s : State), s.regsOk → s.effOk →
    let c := s.physOf k
    let bs := data.take (64 - off.toNat)
    let r : McReq := {
      acc := { master := master.toNat, port := port,
               kind := if ! write then 1 else if bs.length < 64 then 4 else 2, cls := cls }
      chan := k, gran := gran.toNat, write := write, off := off.toNat, data := bs, stamp := s.clk.live }
    let cmd := Instr.mcRequest k master port write gran off data
    let out := s.mcState c = 4 ∨ (s.mc c).dead = true
    let p := pairN cls k
    let takes := s.portClass master.toNat port k gran.toNat
    let enters := s.paused = false ∧ takes = some cls ∧ ¬ out ∧ s.accHeld r.acc k = false ∧ s.bw.held = [] ∧ (s.mc c).rq = [] ∧
      s.olderWaits r = false ∧
      cwf (fun _ => 0) s.bw.tokens = true ∧ 65536 ≤ s.tokens p ∧ 0 < s.bwEff.reserve p ∧ (s.mc c).migTo = none
    let entered := fun (t : State) => t.bw.held = [] ∧ t.tokens p = s.tokens p - r.cost * 65536 ∧ t.dram = s.dram
    let rel := Instr.regulatorRelease k cl master port
    let pid := r.acc.portId
    c < 34 →
    (s.paused = true ∨ takes = none → exec cmd s = .next s) ∧
    (master.toNat < 72 → port = false → takes = (s.engRec master.toNat).map fun _ => (s.eng master.toNat).desc.cls) ∧
    (master.toNat = 0x281 → port = false → takes = some (s.rd BW_CLASSMAP_HOSTDMA_CLASS)) ∧
    (s.paused = false → takes = some cls → out → ∃ t, exec cmd s = .next t ∧
      (t.mc c).done = some (.errorResponse r.acc gran.toNat) ∧ t.dram = s.dram ∧ t.bw.held = s.bw.held) ∧
    (s.paused = false → takes = some cls → ¬ out → s.chanHeld k = true → ∃ t, exec cmd s = .next t ∧
      t.bw.held = s.bw.held ++ [r] ∧ t.mcs = s.mcs ∧ t.dram = s.dram) ∧
    (enters → write = false →
      (∀ e, s.wbFind c gran.toNat = some e → e.mask = 0 → ∃ t, exec cmd s = .next t ∧ entered t ∧ (t.mc c).rq = [] ∧
        (t.mc c).done = some (.data r.acc gran.toNat e.data)) ∧
      (s.wbFind c gran.toNat = none → ∃ t, exec cmd s = .next t ∧ entered t ∧ (t.mc c).rq = [r])) ∧
    (enters → write = true → bs.length = 64 → s.wbFind c gran.toNat = none → (s.mc c).wb.length < 32 →
      ∃ t, exec cmd s = .next t ∧ entered t ∧ (t.mc c).rq = [] ∧ (t.mc c).done = some (.written r.acc gran.toNat) ∧
        (t.mc c).wb = (s.mc c).wb ++ [⟨gran.toNat, bs, s.clk.live, 0⟩]) ∧
    (enters → write = true → bs.length < 64 → s.wbFind c gran.toNat = none → ∃ t, exec cmd s = .next t ∧ entered t ∧
      (t.mc c).rq = [r]) ∧
    (s.paused = true ∨ s.headOf pid cl k = none → exec rel s = .next s) ∧
    (∀ q, s.paused = false → s.headOf pid cl k = some q → cwf (fun _ => 0) s.bw.tokens = true →
      (s.accHeld q.acc k = true ∨ s.queueAdmits k cl = false ∨ s.olderWaits q = true → exec rel s = .next s) ∧
      (s.accHeld q.acc k = false → s.queueAdmits k cl = true → s.olderWaits q = false → 65536 ≤ s.tokens (pairN cl k) →
        ∃ t, exec rel s = .next t ∧ t.bw.held = s.bw.held.erase q ∧
          t.tokens (pairN cl k) = s.tokens (pairN cl k) - q.cost * 65536) ∧
      (s.accHeld q.acc k = false → s.queueAdmits k cl = true → s.olderWaits q = false → (∀ d, d < 8 → s.tokens (pairN d k) < 65536) →
        s.lowerWaits q.acc k = false →
        ((∀ x ∈ s.bw.surplusAt, x ≠ ((pid.1, pid.2, k.val), s.clk.live)) → ∃ t, exec rel s = .next t ∧
          t.bw.held = s.bw.held.erase q ∧ t.tokens (pairN cl k) = s.tokens (pairN cl k)) ∧
        ((∃ x ∈ s.bw.surplusAt, x = ((pid.1, pid.2, k.val), s.clk.live)) → exec rel s = .next s)))

/-- The array and the write buffer (R193, R195, R197, R225, R239): a read that returns clean or corrected data gives it, an
uncorrectable one says so; a buffered granule is forwarded; the buffer drains down to 8 from 24 on, else the granule that
has stayed 4096 FCLK, else, with only writes waiting, the oldest; a row closes with no queued hit, or 128 FCLK after its
last use. -/
def Obligations.ArrayAndWriteBuffer : Prop :=
  ∀ (c : Fin 34) (b : Fin 64) (upset : BitVec 576) (ups : List (Nat × BitVec 576)) (s : State),
    s.regsOk → s.effOk → s.dramWf = true → s.masksWf = true →
    let m := s.mc c
    let fine := s.paused = false ∧ s.mcState c ≠ 4 ∧ m.dead = false ∧ m.cq = [] ∧ m.rq = []
    let drain := Instr.writeBufferDrain c ups
    let wb := ((s.wbUpset c ups).mc c).wb
    let aged := fun (e : WbEnt) => e.stamp + 4096 ≤ s.clk.live
    let drained := fun (e : WbEnt) (t : State) => e.data.length = 64 → s.slotOf c e.gran = none →
      s.flag (MC_ECC_FLIP_CTRL_ARMED c) = false → t.arrBytes c e.gran = e.data ∧ t.arrMask c e.gran = e.mask
    (s.paused = true → exec (.arrayReadComplete c upset) s = .next s ∧ exec drain s = .next s ∧
      exec (.rowCloseTimeout c b) s = .next s) ∧
    (s.paused = false → ∀ r, m.rq = [r] → r.write = false → (∀ h ∈ m.hammered, h / 32768 ≠ bankOf r.gran) →
      s.wbFind c r.gran = none →
      (let st := s.stored c r.gran
       let mask := st.2 ^^^ upset
       (mask = 0 → ∃ t, exec (.arrayReadComplete c upset) s = .next t ∧ (t.mc c).rq = [] ∧
        (t.mc c).done = some (.data r.acc r.gran st.1) ∧ t.dram = s.dram) ∧
       (mask ≠ 0 → ∀ d q, readStored (storedSyms st.1 mask) = .corrected d q →
        ∃ t, exec (.arrayReadComplete c upset) s = .next t ∧ (t.mc c).done = some (.data r.acc r.gran d) ∧
          t.flag (MC_ECC_STAT_CE c) = true ∧ t.rd (MC_ECC_CNT_CORR c) = min (s.rd (MC_ECC_CNT_CORR c) + 1) 65535) ∧
       (mask ≠ 0 → readStored (storedSyms st.1 mask) = .uncorrectable →
        ∃ t, exec (.arrayReadComplete c upset) s = .next t ∧ (t.mc c).done = some (.uncorrectable r.acc r.gran) ∧
          t.flag (MC_ECC_STAT_UE c) = true ∧ t.rd (MC_ECC_CNT_UNCORR c) = min (s.rd (MC_ECC_CNT_UNCORR c) + 1) 255))) ∧
    (s.paused = false → ∀ r, m.rq = [r] → r.write = false → ∀ e, s.wbFind c r.gran = some e → e.mask = 0 →
      ∃ t, exec (.arrayReadComplete c upset) s = .next t ∧ (t.mc c).rq = [] ∧
        (t.mc c).done = some (.data r.acc r.gran e.data) ∧ t.dram = s.dram ∧ t.masks = s.masks) ∧
    (fine → ∀ e rest, wb = e :: rest → rest.length < 23 → (∀ x ∈ wb, ¬ aged x) → ∃ t, exec drain s = .next t ∧
      (t.mc c).wb = rest ∧ drained e t) ∧
    (fine → ∀ i, findIx (fun e : WbEnt => e.stamp + 4096 ≤ s.clk.live) wb = some i → ∀ e, wb[i]? = some e → wb.length < 24 →
      ∃ t, exec drain s = .next t ∧ (t.mc c).wb = wb.eraseIdx i ∧ drained e t) ∧
    (fine → 24 ≤ wb.length → ∃ t, exec drain s = .next t ∧ (t.mc c).wb = wb.drop (wb.length - 8)) ∧
    (s.paused = false →
      (let k := s.bank c b
       let hit := fun (r : Nat) => ∃ x ∈ m.rq, bankOf x.gran = b.val ∧ rowOf x.gran = r
       (k.openRow = none → exec (.rowCloseTimeout c b) s = .next s) ∧
       (∀ r, k.openRow = some r → k.lastUse + 128 ≤ s.clk.live ∨ (k.lastUse < s.clk.live ∧ ¬ hit r) →
        ∃ t, exec (.rowCloseTimeout c b) s = .next t ∧ t.bank c b = { k with openRow := none } ∧ t = { s with mcs := t.mcs }) ∧
       (∀ r, k.openRow = some r → s.clk.live < k.lastUse + 128 → hit r ∨ s.clk.live ≤ k.lastUse →
        exec (.rowCloseTimeout c b) s = .next s)))

/-- Refresh and the activation monitor (R198 to R201, R203, R204). -/
def Obligations.Refresh : Prop :=
  ∀ (c : Fin 34) (b : Fin 64) (s : State), s.regsOk → s.effOk →
    let k := s.bank c b
    let d := min 8 (k.debt + 1)
    let due := Instr.refreshDue c b
    let refreshed := fun (t : State) (d : Int) => (t.bank c b).debt = d ∧ (t.bank c b).ptr = (k.ptr + 1) % 8192 ∧
      (t.bank c b).openRow = none
    (s.planned c = false → exec due s = .next s ∧ exec (.refreshIssue c b) s = .next s ∧
      exec (.norefPrepare c) s = .next s) ∧
    (s.planned c = true → s.inNoref c = false →
      (d < 2 → ∃ t, exec due s = .next t ∧ t.bank c b = { k with debt := d, issued := 0 }) ∧
      (2 ≤ d → ∃ t, exec due s = .next t ∧ refreshed t (d - 1))) ∧
    (s.planned c = true → s.inNoref c = true →
      (d = 8 → ∃ t, exec due s = .next t ∧ refreshed t 7 ∧
        t.rd (MC_REF_STAT_FORCED c) = min (s.rd (MC_REF_STAT_FORCED c) + 1) 4095) ∧
      (0 < d → d < 8 → ∃ t, exec due s = .next t ∧ t.bank c b = { k with debt := d, issued := 0 } ∧
        t.rd (MC_REF_STAT_POSTPONED c) = min (s.rd (MC_REF_STAT_POSTPONED c) + 1) 4095) ∧
      (d ≤ 0 → ∃ t, exec due s = .next t ∧ t.bank c b = { k with debt := d, issued := 0 }) ∧
      exec (.refreshIssue c b) s = .next s) ∧
    (2 ≤ k.issued → exec (.refreshIssue c b) s = .next s) ∧
    (s.planned c = true → s.inNoref c = false → k.issued < 2 → 0 < k.debt →
      (2 ≤ k.debt ∨ ∀ r ∈ (s.mc c).rq, bankOf r.gran ≠ b.val) → ∃ t, exec (.refreshIssue c b) s = .next t ∧
      refreshed t (k.debt - 1) ∧ (t.bank c b).issued = k.issued + 1) ∧
    (s.planned c = true → s.inNoref c = false → s.paused = false → s.norefNear c (s.trefi c) = true → (s.mc c).rq = [] →
      (∀ i, i < 64 → -1 ≤ (s.bank c i).debt ∧ (s.bank c i).debt ≤ 8) → ∃ t, exec (.norefPrepare c) s = .next t ∧
      t.flag (MC_STATE_PREPARED c) = true ∧ ∀ i, i < 64 → (t.bank c i).debt = -1) ∧
    (s.planned c = false ∨ (s.mc c).hammered = [] → exec (.neighbourRefresh c) s = .next s) ∧
    (s.planned c = true → ∀ key rest, (s.mc c).hammered = key :: rest → key < 2 ^ 21 → ∃ t, exec (.neighbourRefresh c) s = .next t ∧
      (t.mc c).hammered = rest ∧ (t.bank c (key / 32768)).openRow = none ∧
      t.rd (MC_RAM_TNR c) = min (s.rd (MC_RAM_TNR c) + 1) 65535 ∧ t.rd (MC_RAM_LAST_PC c) = key / 2 ^ 20 ∧
      t.rd (MC_RAM_LAST_BANK c) = key / 32768 % 32 ∧ t.rd (MC_RAM_LAST_ROW c) = key % 32768)

/-- Layer temperatures, throttle and trip (R205 to R208, R346, R353). With no firmware a round only records its readings;
with firmware a layer's effective temperature is the larger of its reading and its estimate, and drives its states, with a failed reading making it hot until a valid one. At the end of a trip the layers in service leave
self-refresh and are due for retraining (R203, R244). -/
def Obligations.LayerTemperatures : Prop :=
  ∀ (l : List (Option (BitVec 12))) (s : State), s.regsOk → s.effOk →
    let read := fun n => validRead (l.getD n none)
    let eff := fun n => match read n with
      | some r => max r ((s.ests (upFrom 0 17) []).1.getD n 0)
      | none => (s.ests (upFrom 0 17) []).1.getD n 0
    (s.rd ALM_STATUS_STATE = 0 → ∃ t, exec (.layerTempSample l) s = .next t ∧ t.pauses = s.pauses ∧ t.alm.eff = s.alm.eff ∧
      ∀ n, n < 17 → (∀ r, read n = some r → s.stale = false → t.rd (MC_TEMP_READ (2 * n)) = ofInt 12 r ∧
        t.rd (MC_TEMP_READ (2 * n + 1)) = ofInt 12 r) ∧
        (read n = none → t.flag (MC_TEMP_READ_FAIL (2 * n)) = true ∧
          (s.mcState (2 * n) ≠ 4 → t.flag (MC_STATE_HOT (2 * n)) = true))) ∧
    (s.rd ALM_STATUS_STATE = 3 → ∃ t, exec (.layerTempSample l) s = .next t ∧ ∀ n, n < 17 → t.layerT n = s.layerT n + 8) ∧
    (s.rd ALM_STATUS_STATE ≠ 0 → s.rd ALM_STATUS_STATE ≠ 3 → ∃ t, exec (.layerTempSample l) s = .next t ∧
      (∀ n, n < 17 → t.layerT n = eff n) ∧ (∀ n, n < 17 → 840 ≤ eff n → t.pauses.trip = true) ∧
      (∀ n, n < 17 → ((t.mc (2 * n)).hotNow = true ↔ 680 < eff n ∨ ((s.mc (2 * n)).hotNow = true ∧ 656 ≤ eff n))) ∧
      ∀ n, n < 17 → s.mcState (2 * n) ≠ 4 →
        (t.flag (MC_STATE_HOT (2 * n)) = true ↔ read n = none ∨ 680 < eff n ∨
          ((s.mc (2 * n)).hotNow = true ∧ 656 ≤ eff n)) ∧
        (t.flag (MC_STATE_THROTTLE (2 * n)) = true ↔
          if s.flag (MC_STATE_THROTTLE (2 * n)) = true then 776 ≤ eff n else 800 ≤ eff n)) ∧
    (∀ t0, s.alm.coolSince = some t0 → s.pauses.trip = true → t0 + 10000 ≤ s.now → ∃ t, exec .tripExit s = .next t ∧
      t.pauses = { s.pauses with trip := false } ∧
      (s.st.slices = [] → (∀ c, c < 34 → t.flag (MC_STATE_TRIP c) = false) ∧
        (s.pauses.rail = false → s.pauses.deep = false → ∀ c, c < 34 → s.mcState c < 4 → s.spareOut c = false →
          t.flag (MC_STATE_SELFREF c) = false ∧ t.flag (MC_TRN_STAT_DUE c) = true))) ∧
    (s.alm.coolSince = none ∨ s.pauses.trip = false → exec .tripExit s = .next s)

/-- The channel map and the class group (R189 to R191, R218): a refused commit changes nothing in effect; an accepted map
holds the moving channels and switches when they are empty; an accepted class group is in effect at once. -/
def Obligations.ChannelMapAndClasses : Prop :=
  ∀ (map : List (BitVec 6)) (s : State), s.regsOk → s.effOk →
    let new := map.map (·.toNat)
    let b := s.bwPend
    let alive := (upFrom 0 32).filter s.aliveChan
    let legal := ∀ k c, k < 32 → c < 8 → b.reserve (pairN c k) ≤ 64 ∧ 0 < b.cap (pairN c k) ∧ b.cap (pairN c k) ≤ 64 ∧
      b.reserve (pairN c k) ≤ b.cap (pairN c k)
    let refused := fun (cause ch : Nat) => ∃ t, exec .bwCommit s = .next t ∧ OnlyRegs [0x50000C] s t ∧
      t.flag BW_COMMIT_ERR_COMMIT_ERR = true ∧ t.rd BW_COMMIT_ERR_CAUSE = cause ∧ t.rd BW_COMMIT_ERR_CHANNEL = ch
    (map.length = 32 → chmapOk (fun c => s.mcState c = 4) s.mapEff new = false → ∃ t, exec (.chmapCommit map) s = .next t ∧
      t.flag MC_CHMAP_COMMIT_COMMIT_ERR = true ∧ t.eff = s.eff ∧ t.mcs = s.mcs) ∧
    (map.length = 32 → chmapOk (fun c => s.mcState c = 4) s.mapEff new = true → s.chmapDue new = false →
      exec (.chmapCommit map) s = .next s) ∧
    (map.length = 32 → chmapOk (fun c => s.mcState c = 4) s.mapEff new = true → s.chmapDue new = true → s.mapEff.Nodup →
      ∃ t, exec (.chmapCommit map) s = .next t ∧ t.eff = s.eff ∧
      ∀ k, k < 32 → t.rd (MC_CHMAP_PHYS k) = new.getD k 0 ∧
        (new.getD k 0 ≠ s.physOf k → s.physOf k < 34 → (t.mc (s.physOf k)).moving = some (new.getD k 0))) ∧
    ((∃ c, c < 34 ∧ (s.mc c).moving.isSome) →
      (∀ c, c < 34 → ∀ d, (s.mc c).moving = some d → d < 34 ∧ (s.mc c).rq = [] ∧ (s.mc c).wb = [] ∧ (s.mc c).cq = []) →
      (∀ k, k < 32 → s.physOf k < 34) →
      ∃ t, exec .chmapSwitch s = .next t ∧
        (∀ k, k < 32 → t.physOf k = ((s.mc (s.physOf k)).moving).getD (s.physOf k)) ∧
        (∀ k, k < 32 → t.rd (MC_CHMAP_PHYS k) = s.rd (MC_CHMAP_PHYS k)) ∧
        t.rd MC_CHMAP_GEN_GEN = (s.rd MC_CHMAP_GEN_GEN + 1) % 256 ∧ ∀ c, c < 34 → (t.mc c).moving = none) ∧
    ((∀ c, c < 34 → (s.mc c).moving = none) ∨ (∃ c, c < 34 ∧ (s.mc c).moving.isSome ∧ (s.mc c).wb ≠ []) →
      exec .chmapSwitch s = .next s) ∧
    (¬ legal → ∃ k, refused 1 k) ∧
    (∀ k, legal → b.shareOver (s.flag BW_STATUS_ADMIT_COLD) alive = some k → refused 2 k) ∧
    (∀ k, legal → b.shareOver (s.flag BW_STATUS_ADMIT_COLD) alive = none →
      b.reserveOver (s.rd BW_CLASSMAP_ALMANAC_CLASS) s.aliveChan alive = some k → refused 3 k) ∧
    (legal → b.shareOver (s.flag BW_STATUS_ADMIT_COLD) alive = none →
      b.reserveOver (s.rd BW_CLASSMAP_ALMANAC_CLASS) s.aliveChan alive = none → ∃ t, exec .bwCommit s = .next t ∧
      t.flag BW_STATUS_DIVERGED = true ∧ ∀ k c, k < 32 → c < 8 →
        t.bwEff.rsv (pairN c k) = b.rsv (pairN c k) ∧ t.bwEff.share (pairN c k) = b.share (pairN c k) ∧
        (s.flag BW_STATUS_ADMIT_COLD = false → t.rd (BW_EFF_EFFECTIVE (pairN c k)) = b.share (pairN c k)))

/-- Remap table, row repair and the checker test (R230, R233 to R235, R237, R240). -/
def Obligations.RemapAndCheckerTest : Prop :=
  ∀ (c : Fin 34) (host : Bool) (s : State), s.regsOk → s.effOk → s.dramWf = true →
    let ctrl := 0x400140 + 0x1000 * c.val
    let flip := 0x4000C8 + 0x1000 * c.val
    let changed := (upFrom 0 16).filter fun n => s.remapEff c n ≠ s.remapPend c n
    let free := fun (n : Nat) => (s.remapEff c n).isNone && (s.remapPend c n).isNone && ! (s.mc c).badSlots.contains n
    let may := (host && s.flag (MC_REMAP_CTRL_AUTO c)) = false
    (let period := s.rd (MC_ECC_CFG_LB_PERIOD c)
     let since := s.now - (s.mc c).leakAt
     (period = 0 ∨ since < period → exec (.leakyBucketLeak c) s = .next s) ∧
     (period ≠ 0 → period ≤ since → ∃ t, exec (.leakyBucketLeak c) s = .next t ∧
      OnlyRegs [0x400044 + 0x1000 * c.val] { s with mcs := t.mcs } t ∧
      t.rd (MC_ECC_STAT_LB_COUNT c) = s.rd (MC_ECC_STAT_LB_COUNT c) - since / period ∧
      s.now - (t.mc c).leakAt = since % period)) ∧
    (s.flag (MC_REMAP_CTRL_AUTO c) = true → exec (.remapCommit c true) s = .next s) ∧
    (∀ n, may → s.remapDup c = some n → ∃ t, exec (.remapCommit c host) s = .next t ∧ OnlyRegs [ctrl] s t ∧
      t.flag (MC_REMAP_CTRL_COMMIT_ERR c) = true ∧ t.rd (MC_REMAP_CTRL_CAUSE c) = 1 ∧ t.rd (MC_REMAP_CTRL_ENTRY c) = n) ∧
    (may → s.remapDup c = none → (∀ n ∈ changed, s.remapPend c n = none) → ∃ t, exec (.remapCommit c host) s = .next t ∧
      (∀ n, n < 16 → t.remapEff c n = s.remapPend c n) ∧ t.rd (MC_REMAP_CTRL_USED c) =
        ((upFrom 0 16).filter fun n => (s.remapPend c n).isSome).length) ∧
    (∀ n g e, may → s.remapDup c = none → changed = [n] → s.remapEff c n = none → s.remapPend c n = some g →
      s.wbFind c g = some e → e.mask = 0 → e.data.length = 64 → s.flag (MC_ECC_FLIP_CTRL_ARMED c) = false →
      ∃ t, exec (.remapCommit c host) s = .next t ∧ t.slotOf c g = some n ∧ (t.mc c).slots.getD n {} = ⟨e.data, 0⟩ ∧
        t.dram = s.dram) ∧
    (s.restarting = true → exec (.remapAllocate c) s = .next s ∧ exec (.rowRepair c) s = .next s) ∧
    (∀ g rest, s.restarting = false → (s.mc c).wanted = g :: rest → (s.slotOf c g).isSome →
      ∃ t, exec (.remapAllocate c) s = .next t ∧ (t.mc c).wanted = rest ∧ t = { s with mcs := t.mcs }) ∧
    (∀ g rest, s.restarting = false → (s.mc c).wanted = g :: rest → s.slotOf c g = none →
      s.flag (MC_REMAP_CTRL_AUTO c) = false → ∃ t, exec (.remapAllocate c) s = .next t ∧ (t.mc c).wanted = rest ∧
      t.flag (MC_REMAP_STAT_WANTED c) = true ∧ t.eff = s.eff ∧ t.dram = s.dram) ∧
    (∀ g rest, s.restarting = false → (s.mc c).wanted = g :: rest → s.slotOf c g = none →
      s.flag (MC_REMAP_CTRL_AUTO c) = true → 
      (∀ n, n < 16 → (s.remapEff c n).isSome ∨ (s.remapPend c n).isSome ∨ n ∈ (s.mc c).badSlots) →
      ∃ t, exec (.remapAllocate c) s = .next t ∧ (t.mc c).wanted = rest ∧ t.flag (MC_REMAP_STAT_FULL c) = true ∧
      t.eff = s.eff ∧ ((s.sparesGone c (bankOf g)).length < 16 → t.flag (MC_ROWREP_PENDING c) = true ∧
        (t.mc c).repairRows = if rowKey g ∈ (s.mc c).repairRows then (s.mc c).repairRows
          else (s.mc c).repairRows ++ [rowKey g])) ∧
    (∀ g rest, s.restarting = false → (s.mc c).wanted = g :: rest → s.slotOf c g = none → g < 2 ^ 25 →
      s.flag (MC_REMAP_CTRL_AUTO c) = true → ∀ n, (upFrom 0 16).find? free = some n → s.remapDup c = none → changed = [] →
      s.flag (MC_ECC_FLIP_CTRL_ARMED c) = false →
      (let took := fun (d : List Byte) => ∃ t, exec (.remapAllocate c) s = .next t ∧ (t.mc c).wanted = rest ∧
         t.dram = s.dram ∧ t.slotOf c g = some n ∧ (t.mc c).slots.getD n {} = ⟨d, 0⟩ ∧
         (∀ m, m < 16 → m ≠ n → t.remapEff c m = s.remapEff c m) ∧
         t.rd (MC_REMAP_CTRL_USED c) = ((upFrom 0 16).filter fun m => (s.remapEff c m).isSome).length + 1
       (∀ e, s.wbFind c g = some e → e.mask = 0 → e.data.length = 64 → took e.data) ∧
       (s.wbFind c g = none → s.arrMask c g = 0 → took (s.arrBytes c g)) ∧
       (s.wbFind c g = none → s.arrMask c g ≠ 0 →
        readStored (storedSyms (s.arrBytes c g) (s.arrMask c g)) = .uncorrectable →
        ∃ t, exec (.remapAllocate c) s = .next t ∧ (t.mc c).wanted = rest ∧ t.eff = s.eff ∧
          t.flag (MC_REMAP_CTRL_COMMIT_ERR c) = true ∧ t.rd (MC_REMAP_CTRL_CAUSE c) = 2 ∧
          t.rd (MC_REMAP_CTRL_ENTRY c) = n))) ∧
    (s.restarting = false → ∀ key rest, (s.mc c).repairRows = key :: rest → ∀ sp, s.paused = false → s.mcState c ≠ 4 →
      s.rowOpen c 150 = true → (upFrom 0 16).find? (fun n => ! (s.sparesGone c (key / 32768)).contains n) = some sp →
      (∀ n, n < 16 → s.remapEff c n = none ∧ s.remapPend c n = none) → (s.mc c).repaired.length < 1024 →
      ∃ t, exec (.rowRepair c) s = .next t ∧ (t.mc c).repairRows = rest ∧
      (t.mc c).repaired = (s.mc c).repaired ++ [(key, sp)] ∧ t.flag (MC_ROWREP_PENDING c) = ! rest.isEmpty ∧
      t.rd (MC_ROWREP_USED c) = (s.mc c).repaired.length + 1 ∧
      (s.flag (MC_REMAP_CTRL_AUTO c) = false → t.eff = s.eff)) ∧
    (∃ t, exec (.eccFlipArm c) s = .next t ∧ t = { s with csr := t.csr, fresh := t.fresh, mcs := t.mcs } ∧
      (∀ a, a ≠ flip → t.reg a = s.reg a) ∧ t.flag (MC_ECC_FLIP_CTRL_ARMED c) = true ∧
      (t.mc c).flipSel = s.rd (MC_ECC_FLIP_CTRL_PCSEL c) ∧ ∀ n i, n < 18 → i < 32 →
        (t.mc c).flipMask.getLsbD (32 * n + i) = (s.reg (0x400080 + 0x1000 * c.val + 4 * n)).getLsbD i) ∧
    (∃ t, exec (.eccFlipDisarm c) s = .next t ∧ OnlyRegs [flip] s t ∧ t.flag (MC_ECC_FLIP_CTRL_ARMED c) = false)

/-- The code corrects every error confined to one symbol, whatever the granule holds, and names the DQ (R223 to R225). -/
def Obligations.OneSymbolCorrected : Prop :=
  ∀ (g : List Byte) (j : Nat) (e : BitVec 16), g.length = 64 → j < 36 → e ≠ 0 →
    readStored (storedSyms g (e.setWidth 576 <<< (16 * j))) = .corrected g j

/-- Training and shift repair (R241 to R250): a window is the longest clean run of delay steps, with the middle step, rounded
down, its centre; a full training whose attempts find nothing wrong takes its settings into use, in the field after a
command that holds the channel; one that repair cannot mend fails the channel; the requests, their periods and the overdue
message. While the Almanac restarts no training begins (R346). -/
def Obligations.TrainingAndRepair : Prop :=
  ∀ (c : Fin 34) (run : TrainRun) (sweep : Sweep) (pc : Fin 2) (sound : Bool) (map : BitVec 128) (lo len : Nat) (s : State),
    s.regsOk → s.effOk →
    let m := s.mc c
    let stat := 0x400208 + 0x1000 * c.val
    let full := Instr.channelFullTraining c run
    let boot := s.devMode = 1 ∧ s.rd GLOBAL_BOOT_STEP = 5
    let asked := s.devMode ≠ 1 ∧ (m.fullReq = true ∨ s.flag (MC_TRN_STAT_ESCALATED c) = true) ∧ s.fullOpen c = true ∧
      m.fullRun = false ∧ s.flag (MC_TRN_STAT_RUNNING c) = false
    let first : Sweep := ⟨run.rd.headD [], run.wr.headD [], run.ca.headD []⟩
    let w := sweepWins first
    let noneBad := run.opens.headD ⟨[], []⟩ = ⟨[], []⟩ ∧ blind first.ca 14 = [] ∧ blind first.rd 72 = [] ∧ blind first.wr 72 = []
    let clean := noneBad ∧ s.dqFails c w = [] ∧ s.caFails c w = []
    let took := fun (t : State) (kind : Nat) => t.rd (MC_TRN_STAT_LAST_KIND c) = kind ∧
      t.flag (MC_TRN_STAT_DUE c) = false ∧ t.flag (MC_TRN_STAT_ESCALATED c) = false ∧
      t.rd (MC_TRN_AGE_TEMP c) = s.rd (MC_TEMP_EFFECTIVE c) ∧ (t.mc c).trainedAt = s.now ∧ (t.mc c).fullReq = false ∧
      (∃ x ∈ w.ca, (∀ y ∈ w.ca, x.width ≤ y.width) ∧ t.rd (MC_TRN_CA_WIDTH c) = x.width ∧
        t.rd (MC_TRN_CA_CENTER c) = x.centre) ∧
      ∀ n, n < 72 → t.rd (MC_TRN_DQWIN_RD_WIDTH c n) = min 127 (w.rd.getD n default).width ∧
        t.rd (MC_TRN_DQWIN_RD_CENTER c n) = (w.rd.getD n default).centre ∧
        t.rd (MC_TRN_DQWIN_WR_WIDTH c n) = min 127 (w.wr.getD n default).width ∧
        t.rd (MC_TRN_DQWIN_WR_CENTER c n) = (w.wr.getD n default).centre
    let sus := if pc = 0 then s.flag (MC_ECC_DQSUS_VALID0 c) else s.flag (MC_ECC_DQSUS_VALID1 c)
    let j := if pc = 0 then s.rd (MC_ECC_DQSUS_SYM0 c) else s.rd (MC_ECC_DQSUS_SYM1 c)
    let rep := Instr.tsvDqRepair c pc sound sweep
    let open_ := sus = true ∧ s.paused = false ∧ s.restarting = false ∧ m.migTo = none ∧ s.mcState c ≠ 4 ∧
      s.chanOpen c 100 = true
    let holds := s.dqHolds c (36 * pc.val + j) (sweepWins sweep)
    (0 < len → lo + len ≤ 128 → (∀ i, i < 128 → (map.getLsbD i = true ↔ lo ≤ i ∧ i < lo + len)) →
      winOf map = ⟨len, lo + (len - 1) / 2⟩) ∧
    (s.paused = false → s.restarting = false → s.mcState c ≠ 4 → clean → (boot → ∃ t, exec full s = .next t ∧ took t 1) ∧
      (s.devMode ≠ 1 → m.fullRun = true → s.fullOpen c = true → ∃ t, exec full s = .next t ∧ took t 3 ∧
        t.flag (MC_TRN_STAT_RUNNING c) = false ∧ (t.mc c).fullRun = false)) ∧
    (s.paused = false → s.restarting = false → s.mcState c ≠ 4 → asked → m.wb.length ≤ 32 → m.cq = [] → ∃ t, exec full s = .next t ∧
      t.flag (MC_TRN_STAT_RUNNING c) = true ∧ (t.mc c).fullRun = true ∧ (t.mc c).wb = []) ∧
    (s.paused = false → s.restarting = false → s.mcState c ≠ 4 → s.devMode ≠ 1 → m.fullRun = true → s.fullOpen c = false →
      ∃ t, exec full s = .next t ∧ OnlyRegs [stat] { s with mcs := t.mcs } t ∧ t.flag (MC_TRN_STAT_RUNNING c) = false ∧
        t.mc c = { m with fullRun := false }) ∧
    (s.paused = false → s.restarting = false → s.mcState c ≠ 4 → boot → noneBad → s.dqFails c w = [] → s.caFails c w ≠ [] →
      s.flag (MC_TSV_STAT_CA_EXH c) = true → ∃ t, exec full s = .next t ∧ t.flag (MC_TRN_STAT_FAIL c) = true) ∧
    (s.paused = true ∨ s.restarting = true ∨ s.mcState c = 4 → exec full s = .next s) ∧
    (s.rd (MC_TRN_CFG_PERIOD_S c) ≠ 0 → m.trainedAt + s.rd (MC_TRN_CFG_PERIOD_S c) * 1000000 ≤ s.now →
      ∃ t, exec (.retrainPeriodDue c) s = .next t ∧ t.flag (MC_TRN_STAT_DUE c) = true ∧
      t = { s with csr := t.csr, fresh := t.fresh, mcs := t.mcs } ∧ ∀ a, a ≠ stat → t.reg a = s.reg a) ∧
    (s.rd (MC_TRN_CFG_PERIOD_S c) = 0 → exec (.retrainPeriodDue c) s = .next s) ∧
    (∃ t, exec (.trainReq c) s = .next t ∧ t.flag (MC_TRN_STAT_DUE c) = true ∧
      (t.mc c).reqAgain = (s.flag (MC_TRN_STAT_RUNNING c) || m.reqAgain) ∧
      t = { s with csr := t.csr, fresh := t.fresh, mcs := t.mcs } ∧ ∀ a, a ≠ stat → t.reg a = s.reg a) ∧
    (∃ t, exec (.trainFull c) s = .next t ∧ t = { s with mcs := t.mcs } ∧ t.mc c = { m with fullReq := true } ∧
      ∀ i : Nat, i ≠ c.val → t.mc i = s.mc i) ∧
    (s.rd (MC_TRN_CFG_OVERDUE_S c) ≠ 0 → s.flag (MC_TRN_STAT_DUE c) = true → m.overdueMsg = none →
      m.dueSince + s.rd (MC_TRN_CFG_OVERDUE_S c) * 1000000 ≤ s.now → ∃ t, exec (.trainOverdue c) s = .next t ∧
      t.flag (MC_TRN_STAT_OVERDUE c) = true ∧ (t.mc c).overdueMsg = some s.now) ∧
    (¬ open_ → exec rep s = .next s) ∧
    (open_ → sound = true → holds = true → ∃ t, exec rep s = .next t ∧
      t.flag (if pc = 0 then MC_ECC_DQSUS_VALID0 c else MC_ECC_DQSUS_VALID1 c) = false ∧
      t.rd (MC_TSV_STAT_REPAIRS c) = min (s.rd (MC_TSV_STAT_REPAIRS c) + 1) 65535) ∧
    (open_ → (sound = false ∨ holds = false) → s.dqReps c pc = [] → (pc.val, j) ∉ m.deadDq → s.devMode ≠ 1 → ∃ t, exec rep s = .next t ∧
      t.rd (if pc = 0 then MC_TSV_DQ_REP0_PC0 c else MC_TSV_DQ_REP0_PC1 c) = j ∧
      t.flag (if pc = 0 then MC_ECC_DQSUS_VALID0 c else MC_ECC_DQSUS_VALID1 c) = false ∧
      t.rd (MC_TSV_STAT_REPAIRS c) = min (s.rd (MC_TSV_STAT_REPAIRS c) + 1) 65535)

/-- Substitution, migration and retirement of a layer (R251 to R258): the spare layer takes a copy granule by granule,
poisoning what cannot be read, and then the logical channels; with no spare the channel retires. A spare layer that fails
while it takes a copy ends it: the channels of the failing layer retire, what is left of the spare layer is in self-refresh
(R203). -/
def Obligations.LayersAndMigration : Prop :=
  ∀ (l : BitVec 5) (n : Fin 17) (c : Fin 34) (even odd dead : Bool) (w0 w1 : Sweep) (upset : BitVec 576) (s : State),
    s.regsOk → s.effOk → s.dramWf = true → s.masksWf = true →
    let i := l.toNat
    let free := s.flag MC_LAYER_STAT_SPARE_FREE = true
    let cs := (if even then [2 * n.val] else []) ++ (if odd then [2 * n.val + 1] else [])
    let starts := fun (t : State) (n : Nat) => t.flag MC_LAYER_STAT_SPARE_FREE = false ∧
      t.flag MC_LAYER_STAT_MIGRATING = true ∧ ∀ h, h < 2 → t.mcState (2 * n + h) = 2 ∧
        (t.mc (2 * n + h)).migTo = some (32 + h) ∧ t.flag (MC_MIG_PTR_ACTIVE (2 * n + h)) = true ∧
        t.rd (MC_MIG_PTR_POINTER (2 * n + h)) = 0 ∧ t.rd (MC_MIG_LOST_COUNT (2 * n + h)) = 0
    let sub := Instr.layerSubstitution n even odd dead w0 w1
    let readies := fun (h : Nat) => s.flag (MC_TRN_STAT_RUNNING (32 + h)) = true ∧ (s.mc (32 + h)).fullRun = false ∧
      (s.mc (32 + h)).reqAgain = false
    let g := s.rd (MC_MIG_PTR_POINTER c)
    let copy := Instr.migrationGranuleCopy c upset
    let ended := fun (t : State) (n : Nat) => t.rd MC_LAYER_STAT_SUBST_FROM = n ∧ t.flag MC_LAYER_STAT_DONE = true ∧
      t.flag MC_LAYER_STAT_MIGRATING = false ∧ ∀ h, h < 2 → t.mcState (2 * n + h) = 4 ∧ t.mcState (32 + h) = 0 ∧
        (t.mc (2 * n + h)).migTo = none
    (s.flag MC_LAYER_STAT_SPARE_FREE = false ∨ s.migrating = true ∨ 16 ≤ i ∨ s.mcState (2 * i) ≠ 0 ∨
        s.mcState (2 * i + 1) ≠ 0 → ∃ t, exec (.layerSubst l) s = .next t ∧ OnlyRegs [0x430034] s t ∧
      t.flag MC_LAYER_STAT_REFUSED = true) ∧
    (free → s.migrating = false → i < 16 → s.mcState (2 * i) = 0 → s.mcState (2 * i + 1) = 0 →
      (s.restarting = true → exec (.layerSubst l) s = .next (s.defer (.subst i))) ∧
      (s.restarting = false → ∃ t, exec (.layerSubst l) s = .next t ∧ starts t i ∧
        ∀ h, h < 2 → t.flag (MC_TRN_STAT_RUNNING (32 + h)) = true ∧ ∀ n, n < 16 → t.remapEff (32 + h) n = none)) ∧
    (cs = [] → s.paused = true ∨ s.migrating = false → exec sub s = .next s) ∧
    (cs = [] → s.paused = false → s.migrating = true → readies 0 → readies 1 → ∃ t, exec sub s = .next t ∧
      ∀ h, h < 2 → t.flag (MC_TRN_STAT_RUNNING (32 + h)) = false ∧
        (s.incHolds (32 + h) (if h = 0 then w0 else w1) = true → t.rd (MC_TRN_STAT_LAST_KIND (32 + h)) = 2) ∧
        (s.incHolds (32 + h) (if h = 0 then w0 else w1) = false → t.flag (MC_TRN_STAT_ESCALATED (32 + h)) = true)) ∧
    (cs ≠ [] → s.restarting = true → ∃ t, exec sub s = .next t ∧ (Later.layer n cs) ∈ t.alm.later) ∧
    (cs ≠ [] → s.restarting = false → n.val < 16 →
      (free → s.migrating = false → (∃ x ∈ cs, s.mcState x ≠ 2 ∧ s.mcState x ≠ 4) → ∃ t, exec sub s = .next t ∧
        starts t n ∧ (dead = true → ∀ x ∈ cs, (t.mc x).dead = true)) ∧
      (¬ free → (∀ x, x < 34 → (s.mc x).migTo = none) → (∃ x ∈ cs, s.mcState x ≠ 2 ∧ s.mcState x ≠ 4) → ∃ t, exec sub s = .next t ∧
        ∀ x ∈ cs, t.mcState x = 4)) ∧
    (cs ≠ [] → s.restarting = false → n.val = 16 → free → ∃ t, exec sub s = .next t ∧
      t.flag MC_LAYER_STAT_SPARE_BAD = true ∧ t.flag MC_LAYER_STAT_SPARE_FREE = false ∧
      ∀ x ∈ cs, t.rd (FAULT_UNIT_STATE (256 + x)) = 2) ∧
    (cs ≠ [] → s.restarting = false → n.val = 16 → ¬ free → s.migrating = true → ∃ t, exec sub s = .next t ∧
      t.flag MC_LAYER_STAT_SPARE_BAD = true ∧ t.flag MC_LAYER_STAT_MIGRATING = false ∧
      (∀ x, x < 32 → (s.mc x).migTo.isSome → (t.mc x).migTo = none ∧ t.mcState x = 4) ∧
      ∀ x, x = 32 ∨ x = 33 → if x ∈ cs then t.mcState x = 4 else t.flag (MC_STATE_SELFREF x) = true) ∧
    ((s.mc c).migTo = none ∨ s.paused = true → exec copy s = .next s) ∧
    (∀ d, (s.mc c).migTo = some d → s.flag (MC_TRN_STAT_RUNNING d) = true → exec copy s = .next s) ∧
    (∀ d, (s.mc c).migTo = some d → d = 32 ∨ d = 33 → c.val < 32 → s.paused = false → s.flag (MC_TRN_STAT_RUNNING d) = false →
      s.memHeld (s.almAcc 1) (cubeAddr (s.logName c) g) 64 = false → s.flag (MC_ECC_FLIP_CTRL_ARMED d) = false → (s.mc c).migEnd = false →
      (s.mc c).lostRun = none → g + 1 < 2 ^ 25 →
      (∀ e, (s.mc c).dead = false → s.wbFind c g = some e → e.mask = 0 → e.data.length = 64 → ∃ t, exec copy s = .next t ∧
        t.arrBytes d g = e.data ∧ t.arrMask d g = 0 ∧ t.rd (MC_MIG_PTR_POINTER c) = g + 1 ∧
        t.rd (MC_MIG_PTR_POINTER d) = g + 1) ∧
      ((s.mc c).dead = true → ∃ t, exec copy s = .next t ∧ t.arrMask d g = poisonMask ∧
        t.rd (MC_MIG_LOST_COUNT c) = min (s.rd (MC_MIG_LOST_COUNT c) + 1) (2 ^ 32 - 1) ∧
        (s.rd (MC_MIG_LOST_COUNT c) = 0 → t.rd (MC_MIG_LOSTFIRST_GRANULE c) = g) ∧
        t.rd (MC_MIG_PTR_POINTER c) = g + 1)) ∧
    (s.migSources = [] ∨ s.paused = true ∨ (∃ x ∈ s.migSources, (s.mc x).migEnd = false) →
      exec .migrationComplete s = .next s) ∧
    (∀ a, s.migSources = [a, a + 1] → a % 2 = 0 → s.paused = false → (∀ x ∈ [a, a + 1], (s.mc x).migEnd = true) →
      (s.logsOf a = [] → s.logsOf (a + 1) = [] → ∃ t, exec .migrationComplete s = .next t ∧ ended t (a / 2)) ∧
      (let k0 := s.rd (MC_STATE_LOGICAL a)
       let k1 := s.rd (MC_STATE_LOGICAL (a + 1))
       let new := ((s.put (MC_CHMAP_PHYS k0) 32).put (MC_CHMAP_PHYS k1) 33).mapPend
       k0 < 32 → k1 < 32 → s.physOf k0 = a → s.physOf k1 = a + 1 → s.mapEff.Nodup →
       chmapOk (fun c => s.mcState c = 4) s.mapEff new = true → (∀ x, x < 34 → (s.mc x).moving = none) →
       (∀ x ∈ [a, a + 1], (s.mc x).rq = [] ∧ (s.mc x).wb = [] ∧ (s.mc x).cq = []) →
       ∃ t, exec .migrationComplete s = .next t ∧ ended t (a / 2) ∧ t.physOf k0 = 32 ∧ t.physOf k1 = 33 ∧
         t.rd MC_CHMAP_GEN_GEN = (s.rd MC_CHMAP_GEN_GEN + 1) % 256))

/-! The host link. -/

/-- Link frames and replay (R261, R262, R267 to R270, R274, R278): an expected data frame is accepted, acknowledges, and its
payload (`low` of the logical lanes 0 to 3, `high` of 4 to 7) joins the byte stream, from which IDLE packets vanish and complete packets go to the packet layer, in order; one
of a type not allowed is discarded; one whose CRC fails asks for the frame with its first byte again, and what lies before
it there is skipped; frames are acknowledged up to the one before the first packet not complete. A bad lane or a disagreement
discards the frame and asks for a replay; a replay resends from the frame named, and one replayed eight times storms; an
FSEQ that was never acknowledged restarts the link with FRESH. -/
def Obligations.LinkFrames : Prop :=
  ∀ (typ : BitVec 4) (fseq ack : BitVec 12) (bad noComma : BitVec 9) (agree receiver : Bool) (low high : List Byte) (s : State),
    s.regsOk →
    let h := s.hl
    let up := s.linkUp = true
    let frame := Instr.linkFrameRx typ fseq ack bad noComma agree low high
    let payload := slice low 0 512 ++ slice high 0 512
    let good := up ∧ bad = 0 ∧ noComma = 0 ∧ agree = true ∧ h.wants = []
    let hit := fun (n : Nat) => bad.getLsbD n || noComma.getLsbD n
    let hurt := ∃ n, n < 9 ∧ (hit n = true ∧ s.hLogRx n < s.rd HLINK_STATUS_WIDTH)
    let counts := fun (n : Nat) => if s.hRx n = 5 ∨ s.hRx n = 6 then
      (if noComma.getLsbD n = true ∧ (s.hlane n).noComma = 3 then 1 else 0) + (if hit n = true then 1 else 0) else 0
    let kept := match findIx (fun x : TxLinkFrame => x.fseq = ack.toNat) h.buf with
      | some i => h.buf.drop (i + 1)
      | none => h.buf
    let accepted := good ∧ typ = 1 ∧ fseq.toNat = h.rxNext
    let rx := fun (t : State) => t.hl.buf = kept ∧ t.hl.rxNext = (fseq.toNat + 1) % 4096 ∧ t.hl.await = false
    -- the stream with the frame's payload, and the packet at its front
    let x := h.rx.join fseq.toNat (slice payload 0 (128 * max 4 (s.rd HLINK_STATUS_WIDTH)))
    let sound := (x.frames.map fun f => f.2.2).sum = x.bytes.length
    let head := 16 ≤ x.bytes.length ∧ ∃ b ∈ x.bytes.take 16, b ≠ 0
    let n := 16 * (fieldAt x.bytes 2 2 + 2)
    let complete := head ∧ n ≤ x.bytes.length
    let crcOk := crc32 (x.bytes.take (n - 16)) = fieldAt x.bytes (n - 16) 4
    let idles := fun (l : List Byte) => l.length % 16 = 0 ∧ (l.all fun b => b = 0) = true
    let typ0 := fieldAt x.bytes 0 1
    let asked := fun (t : State) => t.hl.await = true ∧
      t.rd HLINK_REPLAY_REQUESTED = min (s.rd HLINK_REPLAY_REQUESTED + 1) 65535
    let resent := fun (t : State) (i : Nat) => t.rd HLINK_REPLAY_SENT = min (s.rd HLINK_REPLAY_SENT + 1) 65535 ∧
      ((∀ x ∈ h.buf.drop i, x.tries < 7) → (∀ x ∈ h.buf.take i, x.tries < 8) →
        t.hl.buf = h.buf.take i ++ (h.buf.drop i).map fun x => { x with tries := x.tries + 1 }) ∧
      ((∃ x ∈ h.buf.drop i, 7 ≤ x.tries) → t.flag HLINK_EVENT_REPLAY_STORM = true ∧ t.rd HLINK_STATUS_STATE = 1)
    (¬ up → exec (.replayTimeout receiver) s = .next s ∧ exec (.replay fseq) s = .next s ∧
      (s.paused = true → exec frame s = .next s)) ∧
    (accepted → sound → idles x.bytes → ∃ t, exec frame s = .next t ∧ t = { s with hl := t.hl } ∧ rx t ∧
      t.hl.ackOut = fseq.toNat ∧ t.hl.rx.bytes = [] ∧ t.hl.rx.got = h.rx.got) ∧
    (accepted → sound → complete → crcOk → typeKnown typ0 = true → idles (x.bytes.drop n) →
      ∃ t, exec frame s = .next t ∧ t = { s with hl := t.hl } ∧ rx t ∧ t.hl.ackOut = fseq.toNat ∧ t.hl.rx.bytes = [] ∧
      t.hl.rx.got = h.rx.got ++ [(typ0, pktOf (x.bytes.take n))]) ∧
    (accepted → sound → complete → crcOk → typeKnown typ0 = false → idles (x.bytes.drop n) →
      ∃ t, exec frame s = .next t ∧ rx t ∧ t.hl.rx.bytes = [] ∧ t.hl.rx.got = h.rx.got ∧
      t.flag HLINK_EVENT_PROTOCOL = true ∧ t.rd HLINK_DROP_PROTOCOL = min (s.rd HLINK_DROP_PROTOCOL + 1) 255) ∧
    (∀ f, x.frames.head? = some f → accepted → complete → ¬ crcOk → ∃ t, exec frame s = .next t ∧ asked t ∧
      t.hl.rxNext = f.1 ∧ t.hl.rx.bytes = [] ∧ t.hl.rx.skip = f.2.1 - f.2.2 ∧ t.hl.rx.got = h.rx.got ∧
      t.rd HLINK_DROP_CRC = min (s.rd HLINK_DROP_CRC + 1) 255) ∧
    (∀ f, x.frames.head? = some f → accepted → x.bytes.length < 16 ∨ (head ∧ x.bytes.length < n) →
      ∃ t, exec frame s = .next t ∧ t = { s with hl := t.hl } ∧ rx t ∧ t.hl.rx = x ∧ t.hl.ackOut = (f.1 + 4095) % 4096) ∧
    (good → typ.toNat < 3 → (typ ≠ 1 ∨ fseq.toNat ≠ h.rxNext) → ∃ t, exec frame s = .next t ∧ t = { s with hl := t.hl } ∧
      t.hl.buf = kept ∧ t.hl.rxNext = h.rxNext ∧ t.hl.rx = h.rx) ∧
    (up → (hurt ∨ agree = false) → s.rd HLINK_CFG_ERR_LIMIT = 0 → ∃ t, exec frame s = .next t ∧
      (typ = 1 → asked t ∧ t.hl.rxNext = h.rxNext) ∧ t.hl.buf = h.buf ∧ ∀ n, n < 9 → t.rd (HLINK_LANE_ERR n) =
        min (s.rd (HLINK_LANE_ERR n) + counts n) 255) ∧
    (up → h.await = true → ∃ t, exec (.replayTimeout true) s = .next t ∧ asked t ∧ t.hl.rxNext = h.rxNext) ∧
    (up → h.await = false → exec (.replayTimeout true) s = .next s) ∧
    (up → h.buf ≠ [] → ∃ t, exec (.replayTimeout false) s = .next t ∧ resent t 0) ∧
    (up → h.buf = [] → exec (.replayTimeout false) s = .next s) ∧
    (∀ i, up → findIx (fun x : TxLinkFrame => x.fseq = fseq.toNat) h.buf = some i →
      ∃ t, exec (.replay fseq) s = .next t ∧ resent t i) ∧
    (up → (∀ x ∈ h.buf, x.fseq ≠ fseq.toNat) → (fseq.toNat = h.txNext ∨ h.acknowledged fseq.toNat = true) →
      exec (.replay fseq) s = .next s) ∧
    (up → (∀ x ∈ h.buf, x.fseq ≠ fseq.toNat) → fseq.toNat ≠ h.txNext → h.acknowledged fseq.toNat = false →
      ∃ t, exec (.replay fseq) s = .next t ∧ t.flag HLINK_EVENT_PROTOCOL = true ∧ t.hl.fresh = true ∧
      t.rd HLINK_STATUS_STATE = 1)

/-- The host's packets (R270, R278 to R286, R290, R295): the packet layer takes each packet the byte stream has delivered, once
and in order; the checks in their order; a DRAM access that passes reads or writes
the bytes named and answers; one that meets an uncorrectable granule halts host DMA; a CSR read answers the words. -/
def Obligations.HostRequests : Prop :=
  ∀ (p : Pkt) (s : State), s.regsOk → s.effOk →
    let h : Hlink := { s.hl with rx := { s.hl.rx with got := s.hl.rx.got.tail } }
    let n := p.len.toNat + 2
    let a := p.addr.toNat
    let k := p.count.toNat
    -- the packet is the next one delivered, of the TYPE given
    let up := fun (ty : Nat) => s.linkUp = true ∧ s.hl.rx.got.head? = some (ty, p)
    let here := fun (ty : Nat) => up ty ∧ p.cube.toNat = s.rd HLINK_STATUS_CUBE_ID ∧ s.modes.resetDue ≠ some true
    let req := fun (ty : Nat) => here ty ∧ p.vc = 0 ∧ n ≤ h.free0 ∧ h.tagOpen p.tag.toNat = false ∧ h.waiting = []
    let post := here 3 ∧ p.vc = 1 ∧ n ≤ h.free1 ∧ h.waiting = []
    let dram := fun (kind : Nat) => s.paused = false ∧ p.csr = false ∧ s.modes.memReady = true ∧ a < 2 ^ 36 ∧
      s.flag HLINK_DMA_HALTED = false ∧ k ≠ 0 ∧ s.memHeld (s.hostDmaAcc kind) a k = false
    let s1 := ({ s with hl := { h with free0 := h.free0 - n } }).wake 641
    let s2 := ({ s with hl := { h with free1 := h.free1 - n } }).wake 641
    let answers := fun (c : Instr) (status addr : Nat) (data : List Byte) => ∃ t, exec c s = .next t ∧
      t.hl.rsp = h.rsp ++ [⟨p.tag.toNat, status, p.csr, addr, if status = 0 then k else 0, data⟩] ∧ t.hl.owe0 = h.owe0 + n ∧
      t.hl.free0 = h.free0 - n
    let halted := fun (t : State) (x : XferErr) => t.flag HLINK_DMA_HALTED = true ∧
      t.rd HLINK_DMA_CAUSE = (if x.uncorrectable then 4 else 5) ∧ t.rd HLINK_DMA_ADDR_LO_ADDR = x.addr % 2 ^ 32
    (∀ x ∈ [(1, Instr.linkRead p), (2, .linkWrite p), (3, .linkWritePosted p), (6, .linkVtset p), (7, .linkCredit p)],
      (¬ up x.1 → exec x.2 s = .next s) ∧
      (up x.1 → (p.vc ≠ if x.1 = 3 then 1 else 0) → ∃ t, exec x.2 s = .next t ∧
      OnlyRegs [0x300010, 0x300024] { s with hl := h } t ∧ t.flag HLINK_EVENT_PROTOCOL = true ∧
      t.rd HLINK_DROP_PROTOCOL = min (s.rd HLINK_DROP_PROTOCOL + 1) 255)) ∧
    (up 1 → p.vc = 0 → p.cube.toNat ≠ s.rd HLINK_STATUS_CUBE_ID → n ≤ h.free0 → ∃ t, exec (.linkRead p) s = .next t ∧
      t.rd HLINK_DROP_CUBE_ID = min (s.rd HLINK_DROP_CUBE_ID + 1) 255 ∧ t.flag HLINK_EVENT_ID_MISMATCH = true ∧
      t.hl.rsp = h.rsp ∧ t.hl.waiting = h.waiting) ∧
    (here 1 → p.vc = 0 → h.free0 < n → ∃ t, exec (.linkRead p) s = .next t ∧
      OnlyRegs [0x300010, 0x300024] { s with hl := h } t ∧
      t.rd HLINK_DROP_CREDIT = min (s.rd HLINK_DROP_CREDIT + 1) 255 ∧ t.flag HLINK_EVENT_PROTOCOL = true) ∧
    (req 1 → p.csr = false → ∀ st, s.dramRefusal ⟨.read, p, false⟩ = some st → st ≠ 3 → answers (.linkRead p) st a []) ∧
    (req 1 → dram 1 → dramOk p false = true →
      (let r := s1.readMem (s1.hostDmaAcc 1) a k
       (r.2.2 = none → answers (.linkRead p) 0 a r.2.1) ∧
       (∀ x, r.2.2 = some x → answers (.linkRead p) (if x.uncorrectable then 4 else 5) x.addr [] ∧
        ∃ t, exec (.linkRead p) s = .next t ∧ halted t x))) ∧
    (req 2 → dram 2 → dramOk p true = true → inSysRegion (offOf a) = false →
      (let r := s1.writeAll (s1.hostDmaAcc 2) a (slice p.data 0 k)
       r.2 = none → answers (.linkWrite p) 0 a [] ∧ ∃ t, exec (.linkWrite p) s = .next t ∧ t.dram = r.1.dram)) ∧
    (req 2 → p.csr = false → s.modes.memReady = true → dramOk p true = true → a < 2 ^ 36 → k ≠ 0 →
      inSysRegion (offOf a) = true → answers (.linkWrite p) 3 a [] ∧ ∃ t, exec (.linkWrite p) s = .next t ∧
        t.dram = s.dram ∧ t.rd HLINK_SYSREG_REFUSED_COUNT = min (s.rd HLINK_SYSREG_REFUSED_COUNT + 1) 65535) ∧
    (post → dram 2 → dramOk p true = true → inSysRegion (offOf a) = false →
      (let r := s2.writeAll (s2.hostDmaAcc 2) a (slice p.data 0 k)
       r.2 = none → ∃ t, exec (.linkWritePosted p) s = .next t ∧ t.dram = r.1.dram ∧ t.hl.rsp = h.rsp ∧
         t.hl.owe1 = h.owe1 + n)) ∧
    (post → p.csr = false → ∀ st, s.dramRefusal ⟨.posted, p, false⟩ = some st → st ≠ 0 →
      ∃ t, exec (.linkWritePosted p) s = .next t ∧ t.flag HLINK_EVENT_POSTED_ERR = true ∧ t.dram = s.dram ∧
        t.hl.rsp = h.rsp) ∧
    (req 1 → p.csr = true → csrOk p false = false → answers (.linkRead p) 1 a []) ∧
    (∀ st b, req 2 → p.csr = true → csrOk p true = true →
      s.csrFirstBad true false a (wordsOf (k / 4) p.data) = some (st, b) → st ≠ 8 → answers (.linkWrite p) st b [] ∧
        ∃ t, exec (.linkWrite p) s = .next t ∧ t = { s with hl := t.hl }) ∧
    (req 1 → p.csr = true → csrOk p false = true → s.csrFirstBad false false a (List.replicate (k / 4) 0) = none →
      (let r := ({ s with hl := { h with free0 := h.free0 - n } } : State).csrReadAll a (k / 4)
       answers (.linkRead p) 0 a r.2)) ∧
    (req 6 → (p.len ≠ 0 ∨ p.count ≠ 0) → answers (.linkVtset p) 1 a []) ∧
    (req 6 → p.len = 0 → p.count = 0 → a % 65536 ≠ 0 → answers (.linkVtset p) 7 a [] ∧
      ∃ t, exec (.linkVtset p) s = .next t ∧ t.flag VT_COMMIT_ERR_VTSET = true ∧ t.rd VT_COMMIT_ERR_CAUSE = 3) ∧
    (req 6 → p.len = 0 → p.count = 0 → a % 65536 = 0 → s.rd VT_STATUS_STATE = 0 → answers (.linkVtset p) 0 a [] ∧
      ∃ t, exec (.linkVtset p) s = .next t ∧ t.vt = { s.vt with armed := some a } ∧ t.flag VT_STATUS_VTSET_ARMED = true) ∧
    (up 7 → p.vc = 0 → ∃ t, exec (.linkCredit p) s = .next t ∧ t = { s with hl := { h with
      cred2 := h.cred2 + a / 2 ^ 24 % 2 ^ 12
      cred3 := if s.rd HLINK_PEER_CRED_VC3 = 0 then h.cred3 else h.cred3 + a / 2 ^ 36 % 2 ^ 12 } })

/-- What the cube sends (R268, R277, R282, R284, R285, R287, R289): the units it owes, the oldest RESPONSE and the oldest
EVENT, each only with credit and room in the replay buffer, as data link frames under the next FSEQs, filled up with IDLE
packets (R274). A host that advertises no VC3 credit gets no EVENT (R285). -/
def Obligations.HostSends : Prop :=
  ∀ (s : State), s.regsOk →
    let h := s.hl
    let up := s.linkUp = true
    let id := s.rd HLINK_STATUS_CUBE_ID
    let idle := ∃ t, exec .responseSend s = .next t ∧ t = { s with hl := t.hl } ∧
      t.hl.out = some ⟨0, h.txNext, h.ackOut, []⟩ ∧ t.hl = { h with out := t.hl.out, lanes := t.hl.lanes }
    let sent := fun (t : State) (bs : List Byte) => ∃ fs : List TxLinkFrame, t.hl.buf = h.buf ++ fs ∧
      fs.length = s.framesFor bs.length ∧
      (fs.flatMap fun f => f.bytes) = slice bs 0 (s.frameBytes * fs.length) ∧
      (∀ i f, fs[i]? = some f → f.fseq = (h.txNext + i) % 4096) ∧ t.hl.txNext = (h.txNext + fs.length) % 4096
    let quiet := h.waiting = [] ∧ h.owe0 = 0 ∧ h.owe1 = 0 ∧ s.modes.resetDue ≠ some true
    (¬ up → exec .responseSend s = .next s ∧ exec .eventSend s = .next s) ∧
    (h.evq = [] → exec .eventSend s = .next s) ∧
    (up → quiet → h.rsp = [] → idle) ∧
    (∀ r rest, up → quiet → h.rsp = r :: rest → h.txNext < 4096 →
      (let len := ceilDiv r.data.length 16
       (h.cred2 < len + 2 ∨ s.bufRoom (16 * len + 32) = false → idle) ∧
       (len + 2 ≤ h.cred2 → s.bufRoom (16 * len + 32) = true → ∃ t, exec .responseSend s = .next t ∧
        t = { s with hl := t.hl } ∧ t.hl.rsp = rest ∧ t.hl.cred2 = h.cred2 - (len + 2) ∧
        sent t (packet 4 r.tag len r.csr id 2 r.addr r.status 0 r.count r.data)))) ∧
    (up → h.waiting = [] → s.modes.resetDue ≠ some true → h.rsp = [] → h.owe0 + h.owe1 ≠ 0 → h.owe0 ≤ 4095 → h.owe1 ≤ 4095 → h.txNext < 4096 →
      s.bufRoom 32 = true → ∃ t, exec .responseSend s = .next t ∧ t = { s with hl := t.hl } ∧ t.hl.owe0 = 0 ∧
      t.hl.owe1 = 0 ∧ t.hl.free0 = h.free0 + h.owe0 ∧ t.hl.free1 = h.free1 + h.owe1 ∧
      sent t (packet 7 0 0 false id 0 (h.owe0 + h.owe1 * 2 ^ 12) 0 0 0 [])) ∧
    (∀ e rest, up → h.evq = e :: rest → h.txNext < 4096 →
      (s.rd HLINK_PEER_CRED_VC3 = 0 ∨ h.cred3 < 4 ∨ s.bufRoom 64 = false → exec .eventSend s = .next s) ∧
      (s.rd HLINK_PEER_CRED_VC3 ≠ 0 → 4 ≤ h.cred3 → s.bufRoom 64 = true → rest.length < 256 → ∃ t, exec .eventSend s = .next t ∧
        t = { s with hl := t.hl, csr := t.csr, fresh := t.fresh } ∧ t.hl.evq = rest ∧ t.hl.evLost = false ∧ t.hl.cred3 = h.cred3 - 4 ∧
        t.rd HLINK_EVQ_DEPTH = rest.length ∧
        sent t (packet 5 (e.seq % 256) 2 false id 3 e.addr 0 (2 * b2n h.evLost) 0 e.payload)))

/-- Host lanes (R264 to R266, R271 to R273, R283, R293, R294): bring-up of a lane and of the link, molts to the spare, the
change of width when no spare is left, retraining with and without FRESH. Model choices: a lane that stays without valid
frames takes the link down with it (log 195), a pair that the peer fails leaves the link at width 4 (log 196). -/
def Obligations.HostLanes : Prop :=
  ∀ (ack : BitVec 12) (n : Fin 9) (l : Fin 8) (logical new old tag : BitVec 8) (tx : Bool) (cubeId : BitVec 3) (payload : BitVec 1024)
    (s : State), s.regsOk →
    let run := s.paused = false
    let b := payload.setWidth 128
    let leaves := fun (k : Nat) => s.hl.molt.any fun m => m.2.2.2 && m.2.2.1 = k
    let retrained := fun (t : State) => t.rd HLINK_STATUS_STATE = 1 ∧ t.rd HLINK_STATUS_WIDTH = 0 ∧ t.hl.molt = none ∧
      ∀ k, k < 9 → s.hLeads k = true → s.hTx k ≠ 8 → leaves k = false → t.hTx k = 1
    let molts := fun (t : State) (l k : Nat) => t.hLogTx 8 = l ∧ t.hTx 8 = 5 ∧ t.hLogTx k = 255 ∧
      ∃ m, t.hl.molt = some m ∧ m.2 = (l, k, true) ∧ m.1.args = [0, l, 8, k] ∧ m.1.op = 4
    let carries := fun (k l : Nat) => k < 8 ∧ s.hLogTx k = l ∧ ∀ j, j < k → s.hLogTx j ≠ l
    let spare := s.linkUp = true ∧ s.hTx 8 = 6 ∧ s.hLogTx 8 = 255
    let can := spare ∧ s.hl.molt = none ∧ s.restarting = false
    let w := s.hWidth
    let on := fun (l : Nat) => (upFrom 0 9).find? fun k => s.hLogTx k = l
    let key := fun (l : Nat) => ((on l).bind fun k => (s.hlane k).block).map fun (b : BitVec 128) => b.toNat / 2 ^ 32
    let ready := fun (l : Nat) => (on l).any fun k => s.hTx k = 5 && s.hRx (s.hRxOf k) = 5
    let freshHost := ((on 0).bind fun k => (s.hlane k).block).any fun b => blockByte b 4 % 2 = 1
    -- bring-up
    (run → s.linkUp = false → s.hl.wants = [] → w ≠ 0 → (∀ l, l < w → ready l = true ∧ (key l).isSome ∧ key l = key 0) →
      ∃ t, exec (.linkFrameRx 0 0 ack 0 0 true [] []) s = .next t ∧ t.rd HLINK_STATUS_STATE = 2 ∧ t.rd HLINK_STATUS_WIDTH = w ∧
      t.rd HLINK_STATUS_ATTEMPTS = 0 ∧ t.flag HLINK_EVENT_UP = true ∧ t.hl.lastWidth = w ∧ t.hl.widthEvt = false ∧
      (s.hl.fresh = true ∨ freshHost = true → t.flag HLINK_EVENT_FRESH = true ∧ t.hl.fresh = false ∧ t.hl.rxNext = 0 ∧
        t.hl.ackOut = 4095 ∧ t.hl.txNext = 0 ∧ t.hl.buf = [] ∧ t.hl.rsp = [] ∧ t.hl.rx = {} ∧ t.hl.free0 = 4096 ∧
        t.hl.free1 = 4096) ∧
      (s.hl.fresh = false → freshHost = false → t.hl.await = true ∧ t.hl.rsp = s.hl.rsp ∧
        (s.hl.lastWidth = w → t.hl.rxNext = s.hl.rxNext ∧ t.hl.txNext = s.hl.txNext) ∧
        (s.hl.lastWidth ≠ w → t.hl.rxNext = (s.hl.ackOut + 1) % 4096))) ∧
    (run → s.hTx n = 1 → s.hLeads n = true → s.hRx (s.hRxOf n) ≠ 8 → ∃ t, exec (.receiverDetect (.hl n) true) s = .next t ∧ t.hTx n = 2 ∧
      t.hRx (s.hRxOf n) = 2) ∧
    (∀ p, s.hTrainOf n = some p → run → s.hTx p = 2 → ∃ t, exec (.laneBitLock (.hl n)) s = .next t ∧ t.hTx p = 3 ∧ (t.hlane p).bitLock = true) ∧
    (∀ p, s.hTrainOf n = some p → run → s.hTx p = 3 → (s.hlane p).symLock = true → 7 ≤ (s.hlane p).tbs →
      15 ≤ (s.hlane p).tbSent → cubeId.toNat = s.rd HLINK_STATUS_CUBE_ID → logical.toNat = s.hLogTx p → ∃ t, exec (.trainingSetRx (.hl n) true true cubeId logical) s = .next t ∧ t.hTx p = 4) ∧
    (∀ p, s.hTrainOf n = some p → run → s.hTx p = 4 → hBlockBad b (s.hLogTx p) (s.hRxOf p) = false →
      ((s.hlane p).block ≠ some b ∨ (s.hlane p).blocks < 3) →
      ∃ t, exec (.trainingFrameRx (.hl n) true payload) s = .next t ∧ t.hTx p = 4 ∧ (t.hlane p).block = some b ∧
        (t.hlane p).blocks = (s.hlane p).blocks + 1) ∧
    (∀ p, s.hTrainOf n = some p → run → s.hTx p = 4 → hBlockBad b (s.hLogTx p) (s.hRxOf p) = false →
      (s.hlane p).block = some b → 3 ≤ (s.hlane p).blocks →
      ∃ t, exec (.trainingFrameRx (.hl n) true payload) s = .next t ∧ t.hTx p = if s.hLogTx p = 255 then 6 else 5) ∧
    (run → s.hTx n = 2 ∨ s.hTx n = 3 ∨ s.hTx n = 4 → s.hLeads n = true → (s.hlane n).attempts < 2 →
      ∃ t, exec (.laneTrainTimeout (.hl n)) s = .next t ∧ t.hTx n = 1 ∧ (t.hlane n).attempts = (s.hlane n).attempts + 1) ∧
    (run → s.hTx n = 2 ∨ s.hTx n = 3 ∨ s.hTx n = 4 → s.hLeads n = true → 2 ≤ (s.hlane n).attempts →
      (s.restarting = true → ∃ t, exec (.laneTrainTimeout (.hl n)) s = .next t ∧ t.hTx n = 1 ∧ (t.hlane n).attempts = 0) ∧
      (s.restarting = false → (s.hlane n).failCause = 3 → ∃ t, exec (.laneTrainTimeout (.hl n)) s = .next t ∧
        t.hTx n = 8 ∧ t.hRx (s.hRxOf n) = 8)) ∧
    (run → s.hRx n = 5 ∨ s.hRx n = 6 →
      (s.hLogRx n < s.rd HLINK_STATUS_WIDTH → ∃ t, exec (.laneNoValidFrame (.hl n)) s = .next t ∧ retrained t) ∧
      (∀ p, s.hTrainOf n = some p → s.rd HLINK_STATUS_WIDTH ≤ s.hLogRx n → s.hTx p ≠ 8 → ∃ t,
        exec (.laneNoValidFrame (.hl n)) s = .next t ∧ t.hTx p = 1 ∧ (t.hlane p).bitLock = false ∧
        t.rd HLINK_STATUS_STATE = s.rd HLINK_STATUS_STATE)) ∧
    (∀ r m o d, s.hl.molt = some (r, m, o, d) → run → r.on = n.val →
      (r.sends < 64 → ∃ t, exec (.ctrlRequestResend (.hl n)) s = .next t ∧
        t.hl.molt = some ({ r with sends := r.sends + 1 }, m, o, d)) ∧
      (64 ≤ r.sends → ∃ t, exec (.laneCtrlTimeout (.hl n)) s = .next t ∧ retrained t)) ∧
    -- molts
    (∀ k, can → carries k l → ∃ t, exec (.hlinkMoltTx l) s = .next t ∧ molts t l k) ∧
    (∀ k, can → new = 8 → old.toNat = k → logical.toNat < 8 → carries k logical.toNat →
      ∃ t, exec (.hlinkMoltRequest logical new old) s = .next t ∧ molts t logical.toNat k) ∧
    (∀ k, s.linkUp = true → s.hRx 8 = 6 → s.hLogRx 8 = 255 → s.hl.molt = none → s.restarting = false → k < 8 → s.hLogRx k = l →
      (∀ j, j < k → s.hLogRx j ≠ l) → ∃ t, exec (.hlinkMoltRx l) s = .next t ∧ t = { s with hl := t.hl } ∧
      ∃ m, t.hl.molt = some m ∧ m.2 = (l.val, k, false) ∧ m.1.args = [1, l.val, 8, k] ∧ m.1.op = 4) ∧
    (∀ k, spare → carries k l → (s.hl.molt = none → s.restarting = true →
        exec (.hlinkMoltTx l) s = .next (s.defer (.hostTx l))) ∧
      (s.hl.molt ≠ none → ∃ t, exec (.hlinkMoltTx l) s = .next t ∧ t = { s with hl := t.hl } ∧
        t.hl = { s.hl with wants := t.hl.wants } ∧ t.hl.wants.getLast? = some (true, l.val, false))) ∧
    (s.linkUp = false ∨ s.hTx 8 ≠ 6 → exec (.hlinkMoltTx l) s = .next s) ∧
    (s.linkUp = false ∨ s.hRx 8 ≠ 6 → exec (.hlinkMoltRx l) s = .next s) ∧
    (∀ m, s.hl.molt = some m → s.hl.wants = [] → s.linkUp = true → tag.toNat = m.1.tag → m.2.2.1 < 8 → m.2.1 < 256 →
      ∃ t, exec (.hlinkMoltAck tag 0) s = .next t ∧ t.hl.molt = none ∧ t.flag HLINK_EVENT_MOLT = true ∧
        if m.2.2.2 = true then t.hTx m.2.2.1 = 8
        else t.hLogRx 8 = m.2.1 ∧ t.hRx 8 = 5 ∧ t.hRx m.2.2.1 = 8 ∧ t.hLogRx m.2.2.1 = 255) ∧
    (s.linkUp = true → (if tx then s.hLogTx n else s.hLogRx n) ≠ 255 → s.hSpareGone tx = true →
      ∃ t, exec (.hlinkWidthChange tx n) s = .next t ∧ (if tx then t.hTx n else t.hRx n) = 8 ∧
        t.flag HLINK_EVENT_WIDTH_CHANGE = true ∧ t.rd HLINK_STATUS_STATE ≠ 2 ∧ t.rd HLINK_STATUS_WIDTH = 0) ∧
    -- retraining
    (s.linkUp = false → run → ∃ t, exec .hlinkBringupTimeout s = .next t ∧ t.rd HLINK_STATUS_STATE = 0 ∧
      t.rd HLINK_STATUS_ATTEMPTS = min (s.rd HLINK_STATUS_ATTEMPTS + 1) 15) ∧
    (s.linkUp = true ∨ s.paused = true → exec .hlinkBringupTimeout s = .next s) ∧
    (run → ∃ t, exec .hlinkRetrain s = .next t ∧ retrained t ∧ t.hl.fresh = s.hl.fresh ∧ t.hl.rsp = s.hl.rsp ∧
      (s.linkUp = true → t.flag HLINK_EVENT_DOWN = true)) ∧
    (run → ∃ t, exec .hlinkFresh s = .next t ∧ retrained t ∧ t.hl.fresh = true) ∧
    (s.paused = true → exec .hlinkRetrain s = .next s ∧ exec .hlinkFresh s = .next s) ∧
    (∃ t, exec .hlinkDmaResume s = .next t ∧ OnlyRegs [0x300014] s t ∧ t.flag HLINK_DMA_HALTED = false)

/-! Fuses. -/

/-- Fuses (R296, R301, R302, R308, R310 to R317, R402): each bit has two copies and reads as their OR; what a sense leaves in the shadows and the status, where start-up goes on;
what the sequencer takes or refuses, and the bits a command blows. -/
def Obligations.Fuses : Prop :=
  ∀ (weak tight : List (BitVec 7 × Word)) (lockWeak lockTight : BitVec 8) (f hold enable : Bool) (most : Fin 5)
    (good : BitVec 7) (blown : Bool) (unread faint : Word) (c : FuseCmd) (s : State), s.regsOk → s.effOk →
    let sense := Instr.fuseSenseComplete weak tight lockWeak lockTight
    let due := s.devMode = 0 ∧ s.rd GLOBAL_BOOT_STEP = 0 ∧ s.flag FUSE_STATUS_SENSED = false ∧ s.pins.pwrok = true ∧
      s.pins.resetN = true
    let port := f = true ∧ s.factoryPort = true
    let idle := port ∧ s.fuses.cmd = none
    let reg := FUSE_PGM_STAT_CODE.addr
    let done := fun (t : State) => t.fuses.cmd = none ∧ t.flag FUSE_STATUS_PGM_BUSY = false ∧ t.flag FUSE_PGM_STAT_DONE = true ∧
      t.rd FUSE_PGM_STAT_CODE = 0
    let failed := fun (t : State) => t.fuses.cmd = none ∧ t.flag FUSE_STATUS_PGM_BUSY = false ∧
      t.flag FUSE_PGM_STAT_ERR = true ∧ t.rd FUSE_PGM_STAT_CODE = 12
    let arrays := fun (t : State) (w : Nat) (n m : Word) => t.reg (0x700300 + 4 * w) = n ∧ t.reg (0x700500 + 4 * w) = m
    let ends := fun (g : Option (BitVec 7)) => Instr.fuseCommandComplete most g blown unread faint
    let limit := s.rd FUSE_LIMITS_ARB_VERSION
    -- both copies of the array after bits have been blown
    let blew := fun (t : State) (new : Nat → Word) => ∀ w, w < 128 →
      t.fuses.words.getD w 0 = (s.fuses.words.getD w 0 ||| new w) ∧ t.fuses.twins.getD w 0 = (s.fuses.twins.getD w 0 ||| new w)
    -- sensing
    (¬ due → exec sense s = .next s ∧ exec .fuseSenseTimeout s = .next s) ∧
    (due → s.fuses.held = false → ∃ t, exec sense s = .next t ∧ t.fuses = s.fuses ∧ t.flag FUSE_STATUS_SENSED = true ∧
      t.rd FUSE_LOCKS_READ = Nat.land (Nat.lor s.fuses.locks s.fuses.lockTwins) (255 - lockWeak.toNat) ∧
      t.rd FUSE_STATUS_SEAL_FAIL = failedBlocks t.shadow (blockBlank t.shadow 0 && ! bit (t.rd FUSE_LOCKS_READ) 0) ∧
      (t.flag FUSE_STATUS_T_FAIL = true ↔ Nat.land (t.rd FUSE_STATUS_SEAL_FAIL) 0x70 ≠ 0) ∧
      (t.flag FUSE_STATUS_T_FAIL = true → t.rd GLOBAL_BOOT_STEP = 0 ∧ t.flag CLKPWR_NMI_T_FAIL = true ∧
        t.flag CLKPWR_NMI_ALERT = true) ∧
      (t.flag FUSE_STATUS_T_FAIL = false → t.rd GLOBAL_BOOT_STEP = 1) ∧
      ∀ w : Nat, w < 128 → (let n := (s.fuses.words.getD w 0 ||| s.fuses.twins.getD w 0) &&& ~~~(maskOf weak w)
        arrays t w n (n &&& ~~~(maskOf tight w)) ∧ t.reg (0x700100 + 4 * w) = n ∧ t.shadow w = n)) ∧
    (due → s.fuses.held = true → ∃ t, exec sense s = .next t ∧ t.fuses = { s.fuses with held := false } ∧
      t.flag FUSE_STATUS_SENSED = true ∧ t.flag FUSE_STATUS_OVERRIDE = true ∧
      ∀ w, w < 128 → t.shadow w = s.reg (0x700100 + 4 * w)) ∧
    (due → s.flag FUSE_STATUS_T_FAIL = false → ∃ t, exec .fuseSenseTimeout s = .next t ∧ t.rd GLOBAL_BOOT_STEP = 0 ∧
      t.flag FUSE_STATUS_P_FAIL = true ∧ t.flag FUSE_STATUS_T_FAIL = true ∧ t.rd FUSE_LOCKS_IN_EFFECT = 255 ∧
      t.flag CLKPWR_NMI_T_FAIL = true) ∧
    -- the sequencer takes or refuses a command
    (∀ x ∈ [(Instr.fuseProgram f, 1), (Instr.fuseStrengthen f, 2), (Instr.fuseAdvance f, 3)],
      (let k := s.fuseRegs x.2
       let code := if x.2 = 1 then s.programRefused k else if x.2 = 3 then s.advanceRefused k else 0
       (¬ port → exec x.1 s = .next s) ∧
       (port → s.fuses.cmd ≠ none → ∃ t, exec x.1 s = .next t ∧ OnlyRegs [reg] s t ∧ t.flag FUSE_PGM_STAT_BUSY_SEEN = true) ∧
       (idle → s.fuseConditions = false → ∃ t, exec x.1 s = .next t ∧ OnlyRegs [reg] s t ∧ t.rd FUSE_PGM_STAT_CODE = 2 ∧
        t.flag FUSE_PGM_STAT_ERR = true) ∧
       (idle → s.fuseConditions = true → code ≠ 0 → ∃ t, exec x.1 s = .next t ∧ OnlyRegs [reg] s t ∧
        t.rd FUSE_PGM_STAT_CODE = code ∧ t.flag FUSE_PGM_STAT_ERR = true) ∧
       (idle → s.fuseConditions = true → code = 0 → ∃ t, exec x.1 s = .next t ∧
        t = { s with csr := t.csr, fresh := t.fresh, fuses := { s.fuses with cmd := some k } } ∧ t.flag FUSE_STATUS_PGM_BUSY = true))) ∧
    -- and ends it
    (s.fuses.cmd = none → exec (ends none) s = .next s) ∧
    (s.fuses.cmd = some c → c.op = 1 → c.lockRow = false → c.word < 128 → ∃ t, exec (ends none) s = .next t ∧ done t ∧
      t.rd FUSE_PGM_STAT_PULSES = most.val ∧ t.fuses.locks = s.fuses.locks ∧ t.fuses.lockTwins = s.fuses.lockTwins ∧
      blew t fun w => if w = c.word then BitVec.ofNat 32 c.data &&& ~~~(s.fuseNow w) else 0) ∧
    (s.fuses.cmd = some c → c.op = 1 → c.lockRow = false → c.word < 128 → good.toNat < (s.fuseBits c).length →
      ∃ t, exec (ends (some good)) s = .next t ∧ failed t ∧
      ∀ x ∈ (s.fuseBits c).take good.toNat, bit (t.fuses.words.getD x.1 0).toNat x.2 = true ∧
        bit (t.fuses.twins.getD x.1 0).toNat x.2 = true) ∧
    (s.fuses.cmd = some c → c.op = 1 → c.lockRow = true → c.word < 8 → ∃ t, exec (ends none) s = .next t ∧ done t ∧
      t.fuses = { s.fuses with cmd := none, locks := putBit s.fuses.locks c.word true, lockTwins := putBit s.fuses.lockTwins c.word true }) ∧
    (∀ g ∈ [none, some good], s.fuses.cmd = some c → c.op = 2 → c.lockRow = false → c.word < 128 → ∃ t, exec (ends g) s = .next t ∧
      t.fuses = { s.fuses with cmd := none } ∧
      (let n := s.reg (0x700300 + 4 * c.word) &&& ~~~unread
       arrays t c.word n (n &&& ~~~faint)) ∧
      if s.reg (0x700300 + 4 * c.word) &&& (faint ||| unread) = 0 then done t else failed t) ∧
    (s.fuses.cmd = some c → c.op = 3 → c.setting = 0 → limit ≤ c.data % 128 → c.data % 128 ≤ 64 →
      ∃ t, exec (ends none) s = .next t ∧ done t ∧ t.rd FUSE_LIMITS_ARB_VERSION = arbVersion (arbSlots t.shadow) ∧
      (∀ b, b < 64 → bit (t.shadow (b / 32)).toNat (b % 32) =
        (bit (s.shadow (b / 32)).toNat (b % 32) || decide (limit ≤ b ∧ b < c.data % 128))) ∧
      ∀ b, b < 64 → (let new := decide (limit ≤ b ∧ b < c.data % 128) && ! bit (s.fuseNow (b / 32)).toNat (b % 32)
        bit (t.fuses.words.getD (b / 32) 0).toNat (b % 32) = (bit (s.fuses.words.getD (b / 32) 0).toNat (b % 32) || new) ∧
        bit (t.fuses.twins.getD (b / 32) 0).toNat (b % 32) = (bit (s.fuses.twins.getD (b / 32) 0).toNat (b % 32) || new))) ∧
    (∀ i, s.freeIdSlot = some i → s.fuses.cmd = some c → c.op = 3 → c.setting = 1 → ∃ t, exec (ends none) s = .next t ∧ done t ∧
      (s.shadow 2 &&& (0xFF <<< (8 * i)) = 0 → idValid (idSlot t.shadow i) = true ∧ bits (idSlot t.shadow i) 1 3 = c.data % 8)) ∧
    -- the override
    (¬ port → exec (.fuseOvrWrite hold enable f) s = .next s) ∧
    (port → ∃ t, exec (.fuseOvrWrite hold enable f) s = .next t ∧ OnlyRegs [0x700020] s t ∧
      t.flag FUSE_OVR_ENABLE = (enable && ! bit (s.rd FUSE_LOCKS_IN_EFFECT) 0) ∧
      (t.flag FUSE_OVR_ENABLE = true → t.flag FUSE_OVR_HOLD = hold) ∧ (hold = false → t.flag FUSE_OVR_HOLD = false))

/-! The Almanac: firmware, sensors, the sideband. -/

/-- The Almanac's firmware (R340 to R346): opening a load, the window, the check that runs it, the overlay; an update in
service, its restart and its two ends, the advance of the anti-rollback version. -/
def Obligations.Firmware : Prop :=
  ∀ (data : List Byte) (u : FwUpd) (v since : Nat) (s : State), s.regsOk → s.effOk →
    let a := s.alm
    let st := s.rd ALM_STATUS_STATE
    let len := s.rd ALM_FW_LEN_LEN
    let held := s.modes.kept
    let fetched := s.readMem (s.almAcc 1) s.fwSrc len
    let m := fetched.1
    let img := fetched.2.1
    let slot := 1 - m.rd ALM_STATUS_SLOT
    let sized := 512 ≤ len ∧ len ≤ 1048576
    let usable := hostUsable s.fwSrc len = true
    let go := fun (j : FwJob) => sized ∧ usable ∧ s.paused = false ∧ s.restarting = false ∧
      ∀ x ∈ s.jobXfers j, s.memHeld x.1 x.2.1 x.2.2 = false
    let ovl := FwJob.overlay s.fwSrc len
    let upd := FwJob.update s.fwSrc len false
    let idle := a.upd = none ∧ a.job = none
    let failed := fun (c : Instr) (code : Nat) => ∃ t, exec c s = .next t ∧ FwFailed code s t
    let done := fun (t : State) => t.flag ALM_FW_STAT_DONE = true ∧ t.rd ALM_FW_STAT_CODE = 0
    let inForce := fun (t : State) (h : List Byte) => t.alm.hdr = h ∧ t.rd ALM_STATUS_VERSION = fwVersion h ∧
      t.rd ALM_FW_ID_LO_ID = fwBuild h % 2 ^ 32 ∧ t.rd ALM_FW_ID_HI_ID = fwBuild h / 2 ^ 32
    let advances := fun (t : State) (h : List Byte) => t.alm.advance =
      if bit (fieldAt h 0x0A 2) 0 && decide (s.rd FUSE_LIMITS_ARB_VERSION < fwVersion h) then some (fwVersion h) else none
    let room := a.fwIn.length < 512 ∨ a.fwIn.length + 64 ≤ 512 + fwRes a.fwIn
    let waits := a.upd = some u ∧ u.restarted = none
    let restarted := a.upd = some u ∧ u.restarted = some since ∧ a.later = []
    -- load
    (st ≠ 0 ∨ s.rd GLOBAL_BOOT_STEP ≠ 4 → failed .almOpen 12) ∧
    (st = 0 → s.rd GLOBAL_BOOT_STEP = 4 → ∃ t, exec .almOpen s = .next t ∧
      t = { s with csr := t.csr, fresh := t.fresh, alm := { a with fwOpen := true, fwIn := [] } } ∧ t.rd ALM_FW_OFFSET_BYTES = 0 ∧ done t) ∧
    (a.fwOpen = false ∨ data.length ≠ 64 ∨ ¬ room → ∃ t, exec (.almFwWinWrite data) s = .next t ∧
      OnlyRegs [0x900008] s t ∧ t.rd ALM_FW_STAT_CODE = 2) ∧
    (a.fwOpen = true → data.length = 64 → room → ∃ t, exec (.almFwWinWrite data) s = .next t ∧
      t = { s with csr := t.csr, fresh := t.fresh, alm := { a with fwIn := a.fwIn ++ data } } ∧
      t.rd ALM_FW_OFFSET_BYTES = (a.fwIn.length + 64) % 2 ^ 18) ∧
    (st ≠ 0 → failed .bootFw 12) ∧ (st = 0 → a.fwOpen = false → failed .bootFw 2) ∧
    (st = 0 → a.fwOpen = true → s.fwCheck a.fwIn ≠ 0 → ∃ t, exec .bootFw s = .next t ∧
      FwRefused (s.fwCheck a.fwIn) s t ∧ t.alm.fwOpen = false ∧ t.alm.fwIn = []) ∧
    (st = 0 → a.fwOpen = true → s.fwCheck a.fwIn = 0 → (∀ x ∈ held.regs, 0x400000 ≤ x.1 ∧ x.1 < 0x422000) →
      (∀ c ∈ held.chans, c < 34) → (∀ n, held.subst = some n → n < 17) → ∃ t, exec .bootFw s = .next t ∧
      t.rd ALM_STATUS_STATE = 1 ∧ t.rd GLOBAL_BOOT_STEP = 5 ∧ inForce t (slice a.fwIn 0 512) ∧ done t ∧ t.alm.fwOpen = false) ∧
    -- overlay
    (st ≠ 1 ∨ s.modes.memReady = false → failed .almOverlay 12) ∧
    (st = 1 → s.modes.memReady = true → ¬ idle → failed .almOverlay 11) ∧
    (st = 1 → s.modes.memReady = true → idle → ¬ sized → ∃ t, exec .almOverlay s = .next t ∧ FwRefused 5 s t) ∧
    (st = 1 → s.modes.memReady = true → idle → sized → ¬ usable → ∃ t, exec .almOverlay s = .next t ∧ FwRefused 14 s t) ∧
    (st = 1 → s.modes.memReady = true → idle → go ovl → fetched.2.2 = none → slice img 0 0x1C0 ≠ slice a.hdr 0 0x1C0 →
      ∃ t, exec .almOverlay s = .next t ∧ FwRefused 10 m t) ∧
    (st = 1 → s.modes.memReady = true → idle → go ovl → fetched.2.2 = none → slice img 0 0x1C0 = slice a.hdr 0 0x1C0 →
      len = fwTotal a.hdr → (fwOvl a.hdr = 0 ∨ (m.overlayCopy (m.rd ALM_STATUS_SLOT) img).2 = 0) →
      ∃ t, exec .almOverlay s = .next t ∧ t.rd ALM_STATUS_STATE = 2 ∧ done t ∧ t.alm.hdr = a.hdr ∧ advances t a.hdr ∧
        (s.rd GLOBAL_BOOT_STEP = 6 → t.rd GLOBAL_BOOT_STEP = 7)) ∧
    -- update
    (st ≠ 2 → failed .almUpdate 12) ∧ (st = 2 → ¬ idle → failed .almUpdate 11) ∧
    (st = 2 → idle → go upd → fetched.2.2 = none → m.fwCheck img ≠ 0 →
      ∃ t, exec .almUpdate s = .next t ∧ FwRefused (m.fwCheck img) m t) ∧
    (st = 2 → idle → go upd → fetched.2.2 = none → m.fwCheck img = 0 → len = fwTotal img →
      ovlDigestOk img (slice img (512 + fwRes img) (fwOvl img)) = true → (m.storeWrite slot 0 img).2 = true →
      ∃ t, exec .almUpdate s = .next t ∧ t.alm.upd = some ⟨slice img 0 512, slot, s.now, false, none⟩ ∧
        t.rd ALM_FW_STAT_CODE = 0 ∧ t.dram = (m.storeWrite slot 0 img).1.dram ∧ t.alm.hdr = a.hdr) ∧
    (s.paused = true → st = 2 → idle → sized → usable →
      exec .almUpdate s = .next { s with alm := { a with job := some upd } }) ∧
    (a.upd = none → exec .fwUpdateRestart s = .next s ∧ exec .fwUpdateReady s = .next s ∧ exec .fwReverted s = .next s) ∧
    (waits → u.since + 100000 < s.now → ∃ t, exec .fwUpdateRestart s = .next t ∧
      FwFailed 11 { s with alm := { a with upd := none } } t) ∧
    (waits → s.now ≤ u.since + 100000 → s.fwQuiet = false → exec .fwUpdateRestart s = .next s) ∧
    (waits → s.now ≤ u.since + 100000 → s.fwQuiet = true → ∃ t, exec .fwUpdateRestart s = .next t ∧
      t = { s with csr := t.csr, fresh := t.fresh, alm := { a with upd := some { u with restarted := some s.now } } } ∧
      t.rd ALM_STATUS_STATE = 3 ∧ t.flag ALM_CAL_CTRL_STALE = true) ∧
    (restarted → s.now ≤ since + 100000 → ∃ t, exec .fwUpdateReady s = .next t ∧ t.rd ALM_STATUS_STATE = 2 ∧
      t.flag ALM_CAL_CTRL_STALE = false ∧ inForce t u.hdr ∧ t.alm.former = a.hdr ∧ t.alm.upd = none ∧
      t.rd ALM_STATUS_SLOT = u.slot % 2 ∧ done t ∧ advances t u.hdr) ∧
    (restarted → since + 100000 ≤ s.now → ∃ t, exec .fwReverted s = .next t ∧ t.rd ALM_STATUS_STATE = 2 ∧
      t.flag ALM_CAL_CTRL_STALE = false ∧ t.alm.hdr = a.hdr ∧ t.alm.upd = none ∧ t.rd ALM_FW_STAT_CODE = 13 ∧
      t.flag ALM_FW_STAT_ERR = true) ∧
    (a.advance = none ∨ st ≠ 2 ∨ s.fuses.cmd ≠ none → exec .fwAntirollbackAdvance s = .next s) ∧
    (a.advance = some v → st = 2 → s.fuses.cmd = none → s.fuseConditions = true →
      (let c := FuseCmd.mk 3 false 0 0 v true
       s.advanceRefused c = 0 → ∃ t, exec .fwAntirollbackAdvance s = .next t ∧ t = { s with
        csr := t.csr, fresh := t.fresh, alm := { a with advance := none }, fuses := { s.fuses with cmd := some c } } ∧
        t.flag FUSE_STATUS_PGM_BUSY = true))

/-- Sensors and the log's copy (R208, R347 to R352, R356): every sample completes, none before the fuses are sensed, with site
values from the selected pair under the coefficients in force, the monitors' readings, the trip at 105.0 °C; a calibration is asked for, and ends with
its coefficients in force or as a failure; the copy of a log entry into the DRAM ring. How a coefficient corrects a
reading is the model's choice (log 86). -/
def Obligations.SensorsAndLog : Prop :=
  ∀ (elems : List (BitVec 16 × BitVec 16 × BitVec 16)) (rails phases : List (BitVec 16)) (vin power : BitVec 16)
    (siteDiff voltDiff : Nat) (coef vcoef : List (BitVec 32)) (pairs : List (Fin 3)) (deltas : List (BitVec 12)) (x : Slice)
    (e : LogEnt) (s : State), s.regsOk →
    let sample := Instr.siteSample elems rails phases vin power
    let cal := Instr.calibrationComplete siteDiff voltDiff coef vcoef pairs deltas
    let fresh := s.stale = false
    -- an element in 2^-21 °C, a monitor in 2^-15 * 0.1 mV
    let el := fun (n : Nat) (raw : BitVec 16) =>
      raw.toInt * (s.rd (ALM_CAL_COEF_SLOPE n) : Int) + sextInt 16 (s.rd (ALM_CAL_COEF_OFFSET n)) * 2 ^ 15
    let mv := fun (r : Nat) (raw : BitVec 16) =>
      (raw.toNat : Int) * (s.rd (ALM_CAL_VCOEF_SLOPE r) : Int) * 10 + sextInt 16 (s.rd (ALM_CAL_VCOEF_OFFSET r)) * 2 ^ 15
    let hot := 840 * 2 ^ 18
    let cool := ∀ n, n < 32 → ∀ y, elems[n]? = some y →
      el (3 * n) y.1 < hot - 2 ^ 18 ∧ el (3 * n + 1) y.2.1 < hot - 2 ^ 18 ∧ el (3 * n + 2) y.2.2 < hot - 2 ^ 18
    let runs := s.st.slices.find? (fun x => x.kind = 8) = some x ∧ s.paused = false
    let ended := fun (t : State) => t.st.slices = s.st.slices.filter (fun y => y ≠ x) ∧
      t.flag ALM_CAL_CTRL_BUSY = false ∧ (t.flag ALM_CAL_CTRL_STALE = true ↔ s.rd ALM_STATUS_STATE = 3)
    let copies := s.modes.memReady = true ∧ s.paused = false ∧ s.rd ALM_STATUS_STATE ≠ 0 ∧ s.restarting = false
    let base := logAddr e.seq / 64 * 64
    let next := s.alm.log.find? (fun e => s.alm.copied ≤ e.seq) = some e
    let w := s.writeAll (s.almAcc 2) base (s.logGranule e)
    -- samples
    (s.sensed = false → exec sample s = .next s) ∧ (∃ t, exec sample s = .next t ∧ t.dram = s.dram) ∧
    (s.sensed = true → cool → ∃ t, exec sample s = .next t ∧ t.pauses = s.pauses ∧ t.st = s.st ∧
      (∀ n, n < 32 → ∀ y, elems[n]? = some y → s.flag (ALM_SITE_DISAGREE n) = false → s.rd (ALM_SITE_PAIR n) = 0 →
        (el (3 * n) y.1 - el (3 * n + 1) y.2.1).natAbs ≤ 2 * 2 ^ 21 → (el (3 * n) y.1 + el (3 * n + 1) y.2.1) % 2 ^ 19 = 0 →
        (let v := (el (3 * n) y.1 + el (3 * n + 1) y.2.1) / 2 ^ 19
         (t.alm.sites.toList.getD n {}).temp = v ∧ (fresh → t.rd (ALM_SITE_TEMP n) = ofInt 12 v))) ∧
      (0 ≤ mv 5 vin → mv 5 vin % (10 * 2 ^ 15) = 0 → mv 5 vin / (10 * 2 ^ 15) < 2 ^ 16 →
        (t.alm.vinNow : Int) = mv 5 vin / (10 * 2 ^ 15)) ∧
      (fresh → t.alm.power = power.toNat ∧ t.alm.vin = t.alm.vinNow ∧
        (∀ p, p < 28 → ∀ v, phases[p]? = some v → t.rd (CLKPWR_PHASE_MA p) = v.toNat) ∧
        ∀ r, r < 5 → ∀ v, rails[r]? = some v → 0 ≤ mv r v → mv r v % (10 * 2 ^ 15) = 0 → mv r v / (10 * 2 ^ 15) < 2 ^ 16 →
          (t.rd (CLKPWR_RAIL_MV r) : Int) = mv r v / (10 * 2 ^ 15)) ∧
      (s.stale = true → t.alm.vin = s.alm.vin ∧ t.alm.power = s.alm.power ∧
        (∀ r, r < 5 → t.rd (CLKPWR_RAIL_MV r) = s.rd (CLKPWR_RAIL_MV r)) ∧
        (∀ p, p < 28 → t.rd (CLKPWR_PHASE_MA p) = s.rd (CLKPWR_PHASE_MA p)) ∧
        ∀ n, n < 32 → t.rd (ALM_SITE_TEMP n) = s.rd (ALM_SITE_TEMP n))) ∧
    (∀ n, n < 32 → ∀ y, s.sensed = true → elems[n]? = some y → hot ≤ el (3 * n) y.1 → hot ≤ el (3 * n + 1) y.2.1 → hot ≤ el (3 * n + 2) y.2.2 →
      s.st.slices = [] → s.pauses.trip = false → ∃ t, exec sample s = .next t ∧ t.pauses.trip = true ∧
      t.flag CLKPWR_NMI_THERMAL_TRIP = true ∧ t.flag CLKPWR_NMI_ALERT = true) ∧
    -- calibration
    (s.flag ALM_CAL_CTRL_BUSY = true → exec .almCalReq s = .next s) ∧
    (s.flag ALM_CAL_CTRL_BUSY = false → ∃ t, exec .almCalReq s = .next t ∧ t.alm.calReq = true ∧
      t = { s with alm := { s.alm with calReq := true } }) ∧
    (runs → siteDiff ≤ 4 → voltDiff ≤ 5 → ∃ t, exec cal s = .next t ∧ ended t ∧ t.rd ST_LAST_OUTCOME = 0 ∧
      t.flag ALM_CAL_CTRL_DONE = true ∧ t.rd ALM_CAL_CTRL_RUNS = (s.rd ALM_CAL_CTRL_RUNS + 1) % 256 ∧
      (∀ n, n < 96 → ∀ v, coef[n]? = some v → t.reg (0x900100 + 4 * n) = v) ∧
      (∀ n, n < 6 → ∀ v, vcoef[n]? = some v → t.reg (0x900280 + 4 * n) = v) ∧
      (∀ n, n < 32 → ∀ v, pairs[n]? = some v → t.rd (ALM_SITE_PAIR n) = v.val) ∧
      ∀ k, k < 17 → ∀ d, deltas[k]? = some d → t.delta k =
        if s.alm.calSuspect = false ∧ (d.toInt - s.factoryDelta k).natAbs ≤ 24 then d.toInt else s.delta k) ∧
    (runs → 4 < siteDiff ∨ 5 < voltDiff → ∃ t, exec cal s = .next t ∧ ended t ∧ t.rd ST_LAST_OUTCOME = 1 ∧
      t.flag ALM_CAL_CTRL_CAL_BAD = true ∧ t.rd (ST_CNT_FAILED 8) = min (s.rd (ST_CNT_FAILED 8) + 1) 255 ∧
      ∀ n, n < 96 → t.reg (0x900100 + 4 * n) = s.reg (0x900100 + 4 * n)) ∧
    (s.st.slices.find? (fun x => x.kind = 8) = none ∨ s.paused = true → exec cal s = .next s) ∧
    -- the log's copy
    (¬ copies → exec .logCopy s = .next s) ∧
    (next → copies → s.memHeld (s.almAcc 2) base 64 = false → s.alm.gap = none → w.2 = none →
      ∃ t, exec .logCopy s = .next t ∧ t.alm.copied = e.seq + 1 ∧ t.dram = w.1.dram ∧
        t = { w.1 with alm := { w.1.alm with copied := e.seq + 1, lastCopied := some e } }) ∧
    (next → copies → s.memHeld (s.almAcc 2) base 64 = true → ∃ t, exec .logCopy s = .next t ∧ t.alm = s.alm ∧
      t.dram = s.dram) ∧
    (e.seq % 2 = 0 → s.logGranule e = e.bytes ++ List.replicate 32 0) ∧
    (∀ p, e.seq % 2 = 1 → s.alm.lastCopied = some p → p.seq + 1 = e.seq → s.logGranule e = p.bytes ++ e.bytes)

/-- The sideband's registers and codes (R358 to R360): nothing before the fuses are sensed; address assignment, event enables,
the answers to the GET codes (their values are log 199's); the pointer, the bytes a write puts behind it one by one and a
read takes from it, the last byte of SB_RESP, and the doorbell that submits SB_REQ or answers it at once. -/
def Obligations.SidebandRegisters : Prop :=
  ∀ (a st : BitVec 7) (on : Bool) (p b : Byte) (data : List Byte) (code : I3cCcc) (s : State), s.regsOk →
    let sb := s.alm.sb
    let addr := ALM_SB_DYN_ADDR.addr
    let i3c := s.flag ALM_SB_I3C
    let op := fieldAt sb.req 0 1
    let known := op ∈ [1, 2, 3, 4, 5, 6, 0x10, 0x11, 0x12]
    let served := s.rd ALM_STATUS_STATE ≠ 0 ∨ op ≤ 5
    let fits := fieldAt sb.req 2 1 ≤ 60 ∧ fieldAt sb.req 3 1 = 0
    let free := s.sensed = true ∧ sb.busy = false ∧ s.restarting = false
    let barred := op ∈ [0x10, 0x11, 0x12] ∧ s.flag FUSE_LIMITS_SB_FW_UPDATE = false
    let at_ := fun (p : Nat) => { s with alm := { s.alm with sb := { sb with ptr := p } } }
    let drives := fun (c : I3cCcc) (n : Nat) => ∃ t, exec (.i3cCcc c) s = .next t ∧
      t = { s with free := t.free, alm := { s.alm with sb := { sb with out := t.alm.sb.out } } } ∧ t.alm.sb.out.length = n
    let answered := fun (status : Nat) => ∃ t, exec .sbDoorbell s = .next t ∧ t.alm.sb.busy = false ∧
      t.alm.sb.ready = true ∧ t.alm.sb.cur = sb.req ∧
      t.alm.sb.resp.take 4 = natLe 1 (op ||| 0x80) ++ natLe 1 (fieldAt sb.req 1 1) ++ natLe 1 status ++ [0] ∧
      t = { s with csr := t.csr, fresh := t.fresh, alm := t.alm }
    let named := fun (c : I3cCcc) => ∃ t, exec (.i3cCcc c) s = .next t ∧ OnlyRegs [addr] s t ∧
      t.rd ALM_SB_DYN_ADDR = a.toNat ∧ t.flag ALM_SB_I3C = true
    (s.sensed = false → (∀ c ∈ [Instr.i3cCcc code, .sbPointerWrite p data, .sbRespLastRead, .sbDoorbell],
      exec c s = .next s)) ∧
    (∀ c ∈ [I3cCcc.enec false, .disec false], exec (.i3cCcc c) s = .next s) ∧
    (s.sensed = true → ∀ x ∈ [(I3cCcc.getpid, 6), (.getbcr, 1), (.getdcr, 1), (.getstatus, 2), (.getmwl, 2), (.getmrl, 3)],
      drives x.1 x.2) ∧
    (s.sensed = true → (∃ t, exec (.i3cCcc .getbcr) s = .next t ∧ t.alm.sb.out = [0x06]) ∧
      ∃ t, exec (.i3cCcc .getmrl) s = .next t ∧ t.alm.sb.out.drop 2 = [1]) ∧
    (i3c = true → exec (.i3cCcc (.entdaa a)) s = .next s ∧ exec (.i3cCcc (.setdasa st a)) s = .next s) ∧
    (s.sensed = true → i3c = false → named (.entdaa a) ∧ (st.toNat = s.rd ALM_SB_STATIC_ADDR → named (.setdasa st a)) ∧
      (st.toNat ≠ s.rd ALM_SB_STATIC_ADDR → exec (.i3cCcc (.setdasa st a)) s = .next s)) ∧
    (s.sensed = true → ∃ t, exec (.i3cCcc .rstdaa) s = .next t ∧ OnlyRegs [addr] s t ∧ t.rd ALM_SB_DYN_ADDR = 0 ∧
      t.flag ALM_SB_I3C = false) ∧
    (s.sensed = true → exec (.i3cCcc (if on then .enec true else .disec true)) s =
      .next { s with alm := { s.alm with sb := { sb with ibiOn := on } } }) ∧
    -- a read from the pointer on: SB_ID, SB_REQ, SB_RESP; the pointer moves; SB_RESP's last byte
    (s.sensed = true → sb.ptr < 256 → sb.ptr ≠ 0x8F → ∃ t, exec .sbRespLastRead s = .next t ∧
      (let i := sb.ptr
       let x := t.alm.sb.out.headD 0
       t = { s with alm := { s.alm with sb := { sb with out := [x], ptr := (i + 1) % 256 } } } ∧
       (i < 4 → x = (natLe 4 (s.reg 0).toNat).getD i 0) ∧ (0x10 ≤ i → i < 0x50 → x = sb.req.getD (i - 0x10) 0) ∧
       (0x50 ≤ i → i < 0x90 → x = sb.resp.getD (i - 0x50) 0) ∧
       (i = 4 → x.toNat % 4 = b2n sb.busy + 2 * b2n sb.ready) ∧
       (4 < i → i < 0x10 ∨ 0x90 ≤ i → x = 0))) ∧
    (s.sensed = true → sb.ptr = 0x8F → s.modes.resetDue ≠ some false → exec .sbRespLastRead s = .next { s with
      alm := { s.alm with sb := { sb with out := [sb.resp.getD 63 0], ptr := 0x90, ready := false } } }) ∧
    (s.sensed = true → sb.ptr = 0x8F → s.modes.resetDue = some false → s.fuses.cmd = none → ∃ t,
      exec .sbRespLastRead s = .next t ∧ t.devMode = 0 ∧ t.engs = State.reset.engs ∧
      t.flag GLOBAL_RESET_CAUSE_SIDEBAND = true ∧ t.flag GLOBAL_RESET_CAUSE_WARM = true) ∧
    -- a write moves the pointer and writes byte by byte
    (s.sensed = true → exec (.sbPointerWrite p []) s = .next (at_ p.toNat)) ∧
    (s.sensed = true → p = 8 → b = 1 → ∃ u, exec .sbDoorbell (at_ 8) = .next u ∧
      exec (.sbPointerWrite p (b :: data)) s = exec (.sbPointerWrite (p + 1) data) u) ∧
    (s.sensed = true → 0x10 ≤ p.toNat → p.toNat < 0x50 → exec (.sbPointerWrite p (b :: data)) s =
      exec (.sbPointerWrite (p + 1) data) { s with alm := { s.alm with sb := { sb with req := sb.req.set (p.toNat - 0x10) b } } }) ∧
    (s.sensed = true → (p ≠ 8 ∧ (p.toNat < 0x10 ∨ 0x50 ≤ p.toNat)) ∨ (p = 8 ∧ b ≠ 1) →
      exec (.sbPointerWrite p (b :: data)) s = exec (.sbPointerWrite (p + 1) data) s) ∧
    -- the doorbell
    (sb.busy = true → exec .sbDoorbell s = .next s) ∧
    (free → known → served → ¬ barred → fits → ∃ t, exec .sbDoorbell s = .next t ∧ t = { s with csr := t.csr, fresh := t.fresh, alm := t.alm } ∧
      t.alm.sb = { sb with cur := sb.req, busy := true }) ∧
    (s.sensed = true → sb.busy = false → s.restarting = true → answered 5) ∧ (free → ¬ known → answered 1) ∧
    (free → known → ¬ served → answered 6) ∧ (free → known → served → barred → answered 3) ∧
    (free → known → served → ¬ barred → ¬ fits → answered 2)

/-- The sideband's requests (R361, R363): each serves the opcode submitted, with its privilege and length checked (log 105); every one
completes, with the bytes R361's table gives and with what it does. -/
def Obligations.SidebandRequests : Prop :=
  ∀ (e : LogEnt) (len next : Nat) (s : State), s.regsOk →
    let a := s.alm
    let arg := leNat s.sbArg
    let on := fun (op n : Nat) => a.sb.busy = true ∧ s.sbOp = op ∧ s.restarting = false ∧ s.sbLen = n
    let answers := fun (c : Instr) (status : Nat) (data : List Byte) => ∃ t, exec c s = .next t ∧ Responded status data s t
    let may := s.flag FUSE_LIMITS_SB_FW_UPDATE = true
    let idle := a.upd = none ∧ a.job = none
    let off := fieldAt s.sbArg 0 4
    let bs := s.sbArg.drop 4
    let staged := s.writeAll (s.almAcc 2) (0x17F200000 + off) bs
    let held := s.memHeld (s.almAcc 2) (0x17F200000 + off) bs.length
    let takes := a.sb.fw = some (len, next) ∧ 4 ≤ s.sbLen ∧ bs.length % 8 = 0 ∧ bs.length ≤ 56 ∧ off = next ∧
      off + bs.length ≤ len
    let open_ := s.modes.memReady = true ∧ s.paused = false
    let newest := s.rd ALM_LOG_NEXT
    let site := fun (n : Nat) => sextInt 12 (s.rd (ALM_SITE_TEMP n))
    let job := FwJob.update 0x17F200000 len true
    let ended := { s with alm := { a with sb := { a.sb with fw := none } } }
    (∀ x ∈ [(Instr.readSensors, 1, 0), (.readSites, 2, 1), (.readLog, 3, 4), (.readStatus, 4, 0), (.reqReset, 5, 1),
        (.reqDeep, 6, 1), (.fwBegin, 0x10, 4), (.fwData, 0x11, s.sbLen), (.fwEnd, 0x12, 0)],
      (a.sb.busy = false ∨ s.sbOp ≠ x.2.1 → exec x.1 s = .next s) ∧
      (a.sb.busy = true → s.sbOp = x.2.1 → s.restarting = true → answers x.1 5 []) ∧
      (a.sb.busy = true → s.sbOp = x.2.1 → s.restarting = false → x.2.1 < 0x10 ∨ may → s.sbLen ≠ x.2.2 → answers x.1 2 []) ∧
      (a.sb.busy = true → s.sbOp = x.2.1 → s.restarting = false → 0x10 ≤ x.2.1 → ¬ may → answers x.1 3 [])) ∧
    -- sensors, sites, log, status
    (on 1 0 → ∃ t, exec .readSensors s = .next t ∧
      (let d := (t.alm.sb.resp.drop 4).take 45
       Responded 0 d s t ∧ d.length = 45 ∧
       (∀ n, n < 17 → fieldAt d (2 * n) 2 =
         if a.rounds = true then ofInt 16 (sextInt 12 (s.rd (MC_TEMP_EFFECTIVE (2 * n)))) else 0x8000) ∧
       (∀ n, n < 32 → (∀ k, k < 32 → site k ≤ site n) → fieldAt d 34 2 = ofInt 16 (site n)) ∧
       fieldAt d 36 2 = a.vin % 2 ^ 16 ∧ fieldAt d 38 2 = a.power % 2 ^ 16 ∧
       (∀ n, n < 17 → bit (fieldAt d 40 3) n = s.flag (ALM_LAYER_SUSPECT n)) ∧
       bit (fieldAt d 43 1) 0 = s.flag ALM_CAL_CTRL_STALE ∧ bit (fieldAt d 43 1) 1 = s.flag ALM_CAL_CTRL_CAL_BAD ∧
       (bit (fieldAt d 43 1) 2 = true ↔ ∃ c, c < 34 ∧ s.flag (MC_STATE_THROTTLE c) = true) ∧
       bit (fieldAt d 43 1) 3 = s.pauses.trip ∧ bit (fieldAt d 43 1) 4 = s.flag CLKPWR_STATUS_HCK_LOST ∧
       bit (fieldAt d 43 1) 5 = s.flag FUSE_STATUS_T_FAIL ∧ bit (fieldAt d 43 1) 6 = s.flag FUSE_STATUS_P_FAIL ∧
       fieldAt d 44 1 = s.devMode)) ∧
    (on 2 1 → arg ≠ 0 → arg ≠ 16 → answers .readSites 2 []) ∧
    (on 2 1 → arg = 0 ∨ arg = 16 → ∃ t, exec .readSites s = .next t ∧
      (let d := (t.alm.sb.resp.drop 4).take 32
       Responded 0 d s t ∧ d.length = 32 ∧ ∀ i, i < 16 → fieldAt d (2 * i) 2 = ofInt 16 (site (arg + i)))) ∧
    (on 3 4 → newest ≤ arg → answers .readLog 6 []) ∧
    (on 3 4 → arg < newest → a.log.find? (fun e => e.seq = arg) = some e → answers .readLog 0 (e.bytes ++ natLe 4 newest)) ∧
    (on 3 4 → arg < newest → (∀ x ∈ a.log, x.seq ≠ arg) → s.modes.memReady = false → a.log.head? = some e →
      answers .readLog 0 (e.bytes ++ natLe 4 newest)) ∧
    (on 4 0 → ∃ t, exec .readStatus s = .next t ∧
      (let d := (t.alm.sb.resp.drop 4).take 23
       Responded 0 d s t ∧ d.length = 23 ∧ fieldAt d 0 4 = (s.reg 0x700000).toNat ∧
       fieldAt d 4 4 = (s.reg CLKPWR_NMI_ALERT.addr).toNat ∧ fieldAt d 8 4 = (s.reg CLKPWR_STATUS_PRIMARY.addr).toNat ∧
       fieldAt d 12 1 = s.almState ∧ fieldAt d 13 1 = s.rd ALM_STATUS_VERSION ∧
       fieldAt d 14 4 = s.rd ALM_FW_ID_LO_ID ∧ fieldAt d 18 4 = s.rd ALM_FW_ID_HI_ID ∧
       fieldAt d 22 1 = s.rd ALM_FW_STAT_CODE)) ∧
    -- requests for a reset and for Deep-Sleep
    (on 5 1 → arg ≠ 0x5E → answers .reqReset 2 []) ∧
    (on 5 1 → arg = 0x5E → ∃ t, exec .reqReset s = .next t ∧ ∃ u, Responded 0 [] s u ∧
      t = { u with modes := { u.modes with resetDue := some false } }) ∧
    (on 6 1 → 1 < arg → answers .reqDeep 2 []) ∧
    (on 6 1 → (arg = 0 ∧ s.deepCheck ≠ 0) ∨ (arg = 1 ∧ s.devMode ≠ 7) → answers .reqDeep 4 []) ∧
    (on 6 1 → (arg = 0 ∧ s.deepCheck = 0) ∨ (arg = 1 ∧ s.devMode = 7) → ∃ t, exec .reqDeep s = .next t ∧
      exec (if arg = 0 then .deepEnter else .deepExit) (answered 0 [] s) = .next t) ∧
    -- firmware
    (on 0x10 4 → may → arg < 512 ∨ 1048576 < arg → answers .fwBegin 2 []) ∧
    (on 0x10 4 → may → 512 ≤ arg → arg ≤ 1048576 → ¬ idle → answers .fwBegin 5 []) ∧
    (on 0x10 4 → may → 512 ≤ arg → arg ≤ 1048576 → idle → ∃ t, exec .fwBegin s = .next t ∧
      Responded 0 [] { s with alm := { a with sb := { a.sb with fw := some (arg, 0) } } } t) ∧
    (on 0x11 s.sbLen → may → takes → idle → open_ → held = false → staged.2 = none →
      ∃ t, exec .fwData s = .next t ∧ t.dram = staged.1.dram ∧ Responded 0 [] { staged.1 with alm :=
        { staged.1.alm with sb := { staged.1.alm.sb with fw := some (len, next + bs.length) } } } t) ∧
    (on 0x11 s.sbLen → may → takes → idle → open_ → held = true →
      ∃ t, exec .fwData s = .next t ∧ t.alm = s.alm ∧ t.dram = s.dram) ∧
    (on 0x11 s.sbLen → may → takes → ¬ idle → answers .fwData 5 []) ∧
    (on 0x11 s.sbLen → may → a.sb.fw = none ∨ (a.sb.fw = some (len, next) ∧ (off ≠ next ∨ len < off + bs.length ∨
      bs.length % 8 ≠ 0)) → answers .fwData 2 []) ∧
    (on 0x12 0 → may → a.sb.fw = none ∨ (a.sb.fw = some (len, next) ∧ next ≠ len) → answers .fwEnd 2 []) ∧
    (on 0x12 0 → may → a.sb.fw = some (len, len) → ¬ idle → answers .fwEnd 5 []) ∧
    (on 0x12 0 → may → a.sb.fw = some (len, len) → idle → s.rd ALM_STATUS_STATE ≠ 2 →
      ∃ t, exec .fwEnd s = .next t ∧ FwFailed 12 (answered 0 [] ended) t) ∧
    (on 0x12 0 → may → a.sb.fw = some (len, len) → idle → s.rd ALM_STATUS_STATE = 2 → s.paused = true →
      ∃ t, exec .fwEnd s = .next t ∧ Responded 0 [] { ended with alm := { ended.alm with job := some job } } t) ∧
    (on 0x12 0 → may → a.sb.fw = some (len, len) → idle → s.rd ALM_STATUS_STATE = 2 → s.paused = false →
      (∀ x ∈ s.jobXfers job, s.memHeld x.1 x.2.1 x.2.2 = false) → ∃ t, exec .fwEnd s = .next t ∧
      t = (answered 0 [] ended).updateFrom 0x17F200000 len true)

/-! Faults. -/

/-- The fault collector (R366, R368, R369, R371 to R376, R378): a message taken is counted and noted, the first fills the
first-error record, also one taken before the host's clear in its FCLK cycle; its reaction fences, retires or stops; a
policy fence ends in a recovery or, after three, a retirement; FAULT_CTRL fences, lifts and retires, or refuses; ACK. -/
def Obligations.FaultCollector : Prop :=
  ∀ (unit : BitVec 10) (f : Fence) (m : Msg) (h : HeldMsg) (rest : List HeldMsg) (src : Nat) (p : Fin 16) (react : Nat) (s : State),
    s.regsOk →
    let n := unit.toNat
    let i := n % 128
    let fs := s.faults
    let refused := fun (c : Instr) => ∃ t, exec c s = .next t ∧ OnlyRegs [0x600000] s t ∧
      t.flag FAULT_STATUS_CMD_REFUSED = true
    let live := fenceable n = true ∧ s.rd (FAULT_UNIT_STATE n) ≠ 2
    let running := s.paused = false
    let lone := fun (src : Nat) => ∀ l ∈ fs.latches, l.src ≠ src
    let free := s.paused = false ∧ fs.takenAt ≠ some s.clk.fclk
    let counted := fun (m : Msg) (vt : Nat) (t : State) =>
      t.rd (FAULT_KIND_COUNT m.kind) = min (s.rd (FAULT_KIND_COUNT m.kind) + 1) 65535 ∧
      t.rd FAULT_COUNT_TOTAL = min (s.rd FAULT_COUNT_TOTAL + 1) 65535 ∧
      t.flag (FAULT_UNIT_SEEN m.src) = true ∧ t.rd (FAULT_UNIT_LAST_KIND m.src) = m.kind ∧
      (s.flag FAULT_FE_STATUS_VALID = true → t.rd FAULT_FE_STATUS_KIND = s.rd FAULT_FE_STATUS_KIND ∧
        t.rd FAULT_COUNT_LATER = min (s.rd FAULT_COUNT_LATER + 1) 65535) ∧
      (s.flag FAULT_FE_STATUS_VALID = false → t.flag FAULT_FE_STATUS_VALID = true ∧ t.rd FAULT_FE_STATUS_KIND = m.kind ∧
        t.rd FAULT_FE_STATUS_SOURCE = m.src ∧ t.rd FAULT_FE_STATUS_SEVERITY = kindSeverity m.kind ∧
        t.rd FAULT_FE_ADDR_LO_ADDR = m.addr % 2 ^ 32 ∧ t.rd FAULT_FE_MASTER_DETAIL = m.detail % 2 ^ 16 ∧
        t.rd FAULT_FE_VT_LO_VT = vt % 2 ^ 32)
    let small := fun (m : Msg) => m.kind < 256 ∧ m.src < 1024 ∧ s.rd (FAULT_KIND_REACTION m.kind) = 0 ∧ lone m.src
    let quiet := s.fenceOf n = some f ∧ f.host = false ∧ running ∧ (∀ m ∈ fs.queue, m.src ≠ f.unit) ∧
      f.since + s.rd FAULT_CFG_QUIET_US ≤ s.now ∧ fenceable n = true
    let cubeKinds : List Nat := [0x10, 0x11, 0x30, 0x33, 0x34, 0x35, 0x3E]
    -- the message that is taken, from unit n, with its reaction
    let w : Word := BitVec.ofNat 32 (2 ^ FAULT_FE_STATUS_VALID.lo)
    let taken := fun (m : Msg) (r : Nat) => free ∧ fs.intake = [] ∧ fs.nextSrc = some m.src ∧
      fs.queue.find? (fun x => x.src = m.src) = some m ∧ m.kind < 256 ∧ m.src < 1024 ∧
      s.rd (FAULT_KIND_REACTION m.kind) = r ∧ lone m.src
    let mine := m.src = n
    let stopped := fun (t : State) (q : Nat) => t.flag (FAULT_PART_POLICY_STOP q) = true ∧ t.rd (FAULT_PART_HEALTH q) = 2 ∧
      t.pmode q = s.pmode q
    let lifted := fun (t : State) => t.rd (FAULT_UNIT_STATE n) = 0 ∧ t.fenceOf n = none ∧
      (n / 128 = 2 → t.mcState i = if f.prev = 1 ∧ (∃ k ∈ upFrom 0 32, s.physOf k = i) then 0 else f.prev % 8)
    -- a message is taken
    (¬ free → exec .faultMessageTake s = .next s) ∧
    (free → fs.intake = [] → fs.nextSrc = none →
      exec .faultMessageTake s = .next { s with faults := { fs with takenAt := some s.clk.fclk } }) ∧
    (free → fs.intake = [] → fs.nextSrc = some src → fs.queue.find? (fun m => m.src = src) = some m → small m →
      ∃ t, exec .faultMessageTake s = .next t ∧ counted m s.vt.vt t ∧ t.faults.queue = fs.queue.erase m ∧
        t.faults.last = src ∧ t.faults.takenAt = some s.clk.fclk) ∧
    (free → fs.intake = h :: rest → small h.msg → ∃ t, exec .faultMessageTake s = .next t ∧ counted h.msg h.vt t ∧
      t.faults.intake = rest ∧ t.faults.queue = fs.queue) ∧
    -- reactions: fence, retire, stop
    (taken m 1 → mine → live → s.fenceOf n = none → ∃ t, exec .faultMessageTake s = .next t ∧
      t.rd (FAULT_UNIT_STATE n) = 1 ∧ (∃ f, t.fenceOf n = some f ∧ f.host = false ∧ f.since = s.now) ∧
      (n / 128 = 0 → t.engState n = 5 ∧ t.aliveEng n = false) ∧ (n / 128 = 1 → t.rd (CAP_STATUS_STATE i) = 2) ∧
      (n / 128 = 2 → t.mcState i = 3)) ∧
    (taken m 1 → mine → live → s.fenceOf n = some f → f.host = false → ∃ t, exec .faultMessageTake s = .next t ∧
      t.fenceOf n = some { f with since := s.now } ∧ t.engs = s.engs ∧ t.caps = s.caps ∧ t.mcs = s.mcs) ∧
    (taken m 1 → mine → s.fenceOf n = some f → f.host = true ∨ ¬ live → ∃ t, exec .faultMessageTake s = .next t ∧
      (f.host = true → t.fenceOf n = some f) ∧ t.rd (FAULT_UNIT_STATE n) = s.rd (FAULT_UNIT_STATE n)) ∧
    (taken m 2 → mine → live → n < 256 → ∃ t, exec .faultMessageTake s = .next t ∧ t.rd (FAULT_UNIT_STATE n) = 2 ∧
      t.fenceOf n = none ∧ (n / 128 = 0 → t.engState n = 6 ∧ t.aliveEng n = false) ∧
      (n / 128 = 1 → t.rd (CAP_STATUS_STATE i) = 3)) ∧
    (react = 1 ∨ react = 2 → taken m react → mine → ¬ live → ∃ t, exec .faultMessageTake s = .next t ∧ t.engs = s.engs ∧
      t.caps = s.caps ∧ t.mcs = s.mcs ∧ t.faults.fences.length = fs.fences.length ∧
      t.rd (FAULT_UNIT_STATE n) = s.rd (FAULT_UNIT_STATE n)) ∧
    (taken m 3 → m.part = some p.val ∨ (m.part = none ∧ m.also = [] ∧ n < 72 ∧ mine ∧ m.kind ∉ cubeKinds ∧
      s.engPart n = some p.val) → m.kind ≠ 0x38 → m.kind ≠ 0x39 → ∃ t, exec .faultMessageTake s = .next t ∧ stopped t p.val) ∧
    (taken m 3 → m.part = none → m.also = [] → 4 ≤ m.src / 128 → ∃ t, exec .faultMessageTake s = .next t ∧
      ∀ q ∈ s.partsList, stopped t q) ∧
    -- the host's clear of VALID in the FCLK cycle of a message that came before it
    (s.sensed = true → s.csrStatus true false 0x600010 w = 0 →
      s.flag FAULT_FE_STATUS_VALID = true → s.fresh = [] → (fs.late = some (s.clk.fclk, h, react) → react < 4 →
        h.msg.kind < 256 → 0 < s.rd FAULT_COUNT_LATER → ∃ t, exec (.registerWrite 0x180004 w false) s = .next t ∧
        t.flag FAULT_FE_STATUS_VALID = true ∧ t.rd FAULT_FE_STATUS_KIND = h.msg.kind ∧ t.rd FAULT_FE_STATUS_REACTION = react ∧
        t.rd FAULT_COUNT_LATER = s.rd FAULT_COUNT_LATER - 1 ∧ t.faults.late = none)) ∧
    (s.sensed = true → s.csrStatus true false 0x600010 w = 0 →
      s.fresh = [] → (∀ x, fs.late = some x → x.1 ≠ s.clk.fclk) → ∃ t, exec (.registerWrite 0x180004 w false) s = .next t ∧
        t.flag FAULT_FE_STATUS_VALID = false ∧ t.rd FAULT_FE_STATUS_KIND = s.rd FAULT_FE_STATUS_KIND) ∧
    -- quiet periods
    (s.fenceOf n = none → exec (.quietPeriodExpiry unit) s = .next s) ∧
    (s.fenceOf n = some f → f.host = true ∨ ¬ running ∨ s.now < f.since + s.rd FAULT_CFG_QUIET_US →
      exec (.quietPeriodExpiry unit) s = .next s) ∧
    (quiet → s.recent n < 3 → ∃ t, exec (.quietPeriodExpiry unit) s = .next t ∧ lifted t ∧
      t.rd (FAULT_UNIT_RECOVERY_COUNT n) = min (s.rd (FAULT_UNIT_RECOVERY_COUNT n) + 1) 255) ∧
    (quiet → 3 ≤ s.recent n → live → n < 256 → ∃ t, exec (.quietPeriodExpiry unit) s = .next t ∧
      t.rd (FAULT_UNIT_STATE n) = 2) ∧
    -- FAULT_CTRL
    (fenceable n = false → refused (.faultFence unit) ∧ refused (.faultRetire unit)) ∧
    (s.fenceOf n = none → refused (.faultUnfence unit)) ∧
    (fenceable n = true → s.rd (FAULT_UNIT_STATE n) = 2 →
      exec (.faultFence unit) s = .next s ∧ exec (.faultRetire unit) s = .next s) ∧
    (live → s.fenceOf n = none → ∃ t, exec (.faultFence unit) s = .next t ∧ t.rd (FAULT_UNIT_STATE n) = 1 ∧
      (∃ f, t.fenceOf n = some f ∧ f.host = true ∧ f.since = s.now) ∧
      t.rd FAULT_STATUS_FENCED_NOW = min 255 (fs.fences.length + 1) ∧
      (n / 128 = 0 → t.engState n = 5 ∧ t.aliveEng n = false) ∧ (n / 128 = 1 → t.rd (CAP_STATUS_STATE i) = 2) ∧
      (n / 128 = 2 → t.mcState i = 3)) ∧
    (s.fenceOf n = some f → f.host = true → fenceable n = true → ∃ t, exec (.faultUnfence unit) s = .next t ∧ lifted t ∧
      t.rd (FAULT_UNIT_RECOVERY_COUNT n) = s.rd (FAULT_UNIT_RECOVERY_COUNT n)) ∧
    (live → n < 256 → ∃ t, exec (.faultRetire unit) s = .next t ∧ t.rd (FAULT_UNIT_STATE n) = 2 ∧ t.fenceOf n = none ∧
      (n / 128 = 0 → t.engState n = 6 ∧ t.aliveEng n = false) ∧ (n / 128 = 1 → t.rd (CAP_STATUS_STATE i) = 3)) ∧
    -- ACK
    (s.allAlive p = false → refused (.faultAck p)) ∧
    (s.allAlive p = true → s.rd (FAULT_PART_HEALTH p) = 1 → ∃ t, exec (.faultAck p) s = .next t ∧
      OnlyRegs [(FAULT_PART_HEALTH p).addr] s t ∧ t.rd (FAULT_PART_HEALTH p) = 0) ∧
    (s.allAlive p = true → s.rd (FAULT_PART_HEALTH p) ≠ 1 → exec (.faultAck p) s = .next s)

/-! Self-test. -/

/-- Self-test slices (R379 to R386, R388, R403): a slice starts in its turn on an idle, open target, in READY and after all
else of its frame boundary; what its end leaves; budget expiry, which waits while the data plane is paused, and ABANDON; the
start-up set and the entry into READY. A loopback that ends early leaves its slice incomplete (log 192). -/
def Obligations.SelfTestSlices : Prop :=
  ∀ (kind : Fin 8) (target : BitVec 10) (part : BitVec 5) (res : SliceResult) (x : Slice) (t0 g : Nat) (b : Fin 64)
    (r : Fin 16) (a : BitVec 36) (o : Opens) (w : Sweep) (s : State), s.regsOk →
    let k := kind.val + 1
    let n := target.toNat
    let c := n % 128
    let p := part.toNat
    let up := s.paused = false ∧ s.rd ALM_STATUS_STATE = 2
    let self := fun (x : Slice) => decide (x.kind = k) && decide (x.target = n) && decide (x.part = p)
    let normal := s.st.setRuns = none ∧ s.devMode = 2 ∧ s.boundaryDone = true ∧ s.flag ST_CTRL_HOLD = false ∧ s.eligible k n p = true ∧
      s.inTurn k n p = true
    let first := s.st.setRuns ≠ none ∧ s.flag ST_CTRL_HOLD = false ∧ (k = 1 ∨ k = 2 ∨ k = 6 ∨ k = 8) ∧ s.sliceFree k n = true ∧ s.slicePart k n p = true ∧
      s.sliceIdle k n 0 = true ∧ (k, n, p) ∉ s.st.setDone ∧
      (k = 1 → ∀ x ∈ s.st.slices, x.kind = 1 → x.target / 9 ≠ n / 9)
    let start := Instr.sliceStart kind target part
    let done := fun (r : SliceResult) => Instr.sliceComplete kind target part r
    let runs := s.st.slices.find? self = some x ∧ s.paused = false
    let gone := fun (t : State) (outcome : Nat) => t.st.slices = s.st.slices.filter (fun y => y ≠ x) ∧
      t.rd ST_LAST_OUTCOME = outcome ∧ t.rd ST_LAST_KIND = k ∧ t.rd ST_LAST_TARGET = n
    let fails := fun (t : State) => t.rd (ST_CNT_FAILED k) = min (s.rd (ST_CNT_FAILED k) + 1) 255
    let expires := fun (x : Slice) => self x && ! x.startup && decide (x.since + x.budget ≤ s.now)
    let loops := fun (l : Option Loop) => runs ∧ k = 6 ∧ (s.lane c).lb = l
    let whole := 1024 ≤ s.rd (VLANE_LB_FRAMES c)
    let finished := fun (t : State) => t.flag ST_STATUS_STARTUP_DONE = true ∧ t.st.setRuns = none ∧
      (t.flag ST_STATUS_STARTUP_FAIL = true ↔ s.st.failedKinds % 128 ≠ 0) ∧
      t.rd ST_STARTUP_KINDS_FAILED = s.st.failedKinds % 256
    -- starting
    (up → normal ∨ first → ∃ t, exec start s = .next t ∧
      t.st.slices = s.st.slices ++ [⟨k, n, p, s.now, s.rd (ST_KIND_BUDGET_US k), s.st.setRuns.isSome, 0⟩] ∧
      t.rd ST_STATUS_RUNNING = s.st.slices.length + 1 ∧ t.rd (ST_CNT_RUNS k) = min (s.rd (ST_CNT_RUNS k) + 1) 65535 ∧
      (k ≤ 5 → t = { s with csr := t.csr, fresh := t.fresh, st := t.st }) ∧ (k = 7 → t.flag (MC_TRN_STAT_RUNNING c) = true) ∧
      (k = 8 → t.flag ALM_CAL_CTRL_BUSY = true ∧ t.flag ALM_CAL_CTRL_STALE = true)) ∧
    (¬ up ∨ ¬ (normal ∨ first) → exec start s = .next s) ∧
    -- ending
    (s.st.slices.find? self = none ∨ s.paused = true → exec (done res) s = .next s) ∧
    (runs → k = 1 ∨ k = 2 ∨ k = 3 ∨ k = 5 → ∃ t, exec (done .clean) s = .next t ∧ gone t 0) ∧
    (runs → k = 1 ∨ k = 2 → res ≠ .clean → ∃ t, exec (done res) s = .next t ∧ gone t 1 ∧ fails t) ∧
    (runs → k = 3 → c < 34 → ∃ t, exec (done (.badRow b r a)) s = .next t ∧ gone t 1 ∧ fails t ∧
      (t.mc c).badRows = (s.mc c).badRows ++ [b.val * 16 + r.val]) ∧
    (runs → k = 3 → c < 34 → ∃ t, exec (done (.badSlot r)) s = .next t ∧ gone t 1 ∧ fails t ∧
      (t.mc c).badSlots = (s.mc c).badSlots ++ [r.val]) ∧
    (runs → k = 4 → s.now < x.since + (x.budget - 5) → exec (done (.verified g)) s = .next s) ∧
    (runs → k = 4 → p < 32 → x.since + (x.budget - 5) ≤ s.now → (let r := s.readVerify p g false
      ∃ t, exec (done (.verified g)) s = .next t ∧ gone t (if r.2 then 3 else 0) ∧ t.dram = r.1.dram ∧
        ((∀ i, i < g → s.verifies p ((s.rd (ST_RVPTR_POINTER p) + i) % 2 ^ 25) = false) →
          t.rd (ST_RVPTR_POINTER p) = (s.rd (ST_RVPTR_POINTER p) + g) % 2 ^ 25))) ∧
    (runs → k = 5 → c < 34 → ∃ t, exec (done (.tested o w)) s = .next t ∧ t.rd ST_LAST_OUTCOME = 1 ∧ fails t) ∧
    (runs → k = 7 → ∃ t, exec (done (.retrained w)) s = .next t ∧
      t.rd ST_LAST_OUTCOME = if s.incHolds c w = true then 0 else 1) ∧
    (runs → k = 3 → x.part = 9 → n < 512 → c = 32 ∨ c = 33 → s.flag MC_LAYER_STAT_SPARE_FREE = true → s.restarting = false →
      ∃ t, exec (done (.bad a)) s = .next t ∧ gone t 1 ∧ fails t ∧ t.flag MC_LAYER_STAT_SPARE_BAD = true ∧
        t.flag MC_LAYER_STAT_SPARE_FREE = false) ∧
    -- a loopback
    (∀ l, (s.lane c).lb = some l → runs → k = 6 → l.waiting = true ∨ ¬ whole → exec (done res) s = .next s) ∧
    (loops none → ¬ whole → ∃ t, exec (done res) s = .next t ∧ gone t 2 ∧
      t.rd (ST_CNT_INCOMPLETE k) = min (s.rd (ST_CNT_INCOMPLETE k) + 1) 255) ∧
    (loops none → whole → s.rd (VLANE_LB_ERRORS c) = 0 → s.logTx c = 0xFF ∨ x.stage ≠ 0 ∨ s.flag (VLANE_PEER_FAR_LB c) = false →
      ∃ t, exec (done res) s = .next t ∧ gone t 0) ∧
    (loops none → whole → s.rd (VLANE_LB_ERRORS c) ≠ 0 → c < 100 → ∃ t, exec (done res) s = .next t ∧ gone t 1 ∧ fails t ∧
      (s.logTx c = 0xFF → t.txState c = 8 ∧ t.rxState c = 8)) ∧
    -- the budget's end
    (s.paused = true → exec (.sliceBudgetExpiry kind target part) s = .next s) ∧
    (s.paused = false → ∃ t, exec (.sliceBudgetExpiry kind target part) s = .next t ∧
      t.st.slices = s.st.slices.filter (fun x => ! expires x) ∧
      (∀ x, s.st.slices.filter expires = [x] → t.rd ST_LAST_OUTCOME = (if k = 4 then 0 else 2) ∧ t.rd ST_LAST_KIND = k ∧
        (k ≠ 4 → t.rd (ST_CNT_INCOMPLETE k) = min (s.rd (ST_CNT_INCOMPLETE k) + 1) 255))) ∧
    (∃ t, exec .abandon s = .next t ∧ t.st.slices = [] ∧ (s.st.slices = [] → t = s)) ∧
    -- the start-up set
    (s.devMode = 1 → s.rd GLOBAL_BOOT_STEP = 7 → s.flag ST_STATUS_STARTUP_DONE = false → s.st.setRuns = none →
      exec .startupSelftest s = .next { s with st := { s.st with setRuns := some s.now, setDone := [], failedKinds := 0 } }) ∧
    (s.devMode ≠ 1 ∨ s.rd GLOBAL_BOOT_STEP ≠ 7 ∨ s.flag ST_STATUS_STARTUP_DONE = true ∨ s.st.setRuns ≠ none →
      exec .startupSelftest s = .next s) ∧
    (s.st.setRuns = none ∨ s.setOver = false ∨ ¬ up → exec (.startupSetComplete []) s = .next s) ∧
    (s.st.setRuns = some t0 → s.setOver = true → up → ∃ t, exec (.startupSetComplete []) s = .next t ∧ finished t ∧
      (s.modes.coldDram = false → s.masks = [] → t.dram = s.dram ∧ t.filled = s.filled) ∧
      (s.modes.coldDram = true → ∀ l off, l < 32 → s.mcState (s.physOf l) ≠ 4 → off < 2 ^ 31 →
        inSysRegion off = false → cget (dramDflt t.filled) t.dram (s.physOf l * 2 ^ 31 + off) = 0xA5) ∧
      t.devMode = 2 ∧ t.rd GLOBAL_BOOT_STEP = 8 ∧ t.rd GLOBAL_BOOT_READY_MS = min 65535 (s.now / 1000) ∧
      t.rd ST_STARTUP_DURATION_MS = min 65535 ((s.now - t0) / 1000))

/-! The test port. -/

/-- The test port (R291, R292, R389, R427): each instruction's code, what its data register captures, who drives the pins; BYPASS
in place of the factory instructions without factory access; the accesses that CSR_ACCESS and LAYER_SEL make. -/
def Obligations.TestPort : Prop :=
  ∀ (sample preload : List Bool) (reg : BitVec 22) (w : Word) (layer : Fin 17) (half : Fin 2) (g : BitVec 25)
    (d : BitVec 512) (m : BitVec 576) (acc : CsrAcc) (raw : RawAcc) (e : Eng) (s : State), s.regsOk → s.dramWf = true →
    s.masksWf = true →
    let tap := s.tap
    let set := fun (ir dr : Nat) (drive : Drive) =>
      { s with tap := { tap with ir := ir, dr := dr, drive := drive, layer := none, wrap := none, waits := none } }
    let a := 4 * reg.toNat
    let ch := 2 * layer.val + half.val
    let ready := s.factoryPort = true
    let chosen := { set 0x11 0 .core with tap := { (set 0x11 0 .core).tap with layer := some layer.val } }
    let busy := ∃ x ∈ s.st.slices, x.target = e.val
    let idle := s.engState e = 0 ∨ s.engState e = 6 ∨ s.engState e = 7
    (s.tdoDrives = true ↔ tap.ctl = .shiftDr ∨ tap.ctl = .shiftIr) ∧
    exec .trstNReset s = .next { s with tap := { ir := 0x01, dr := 0x116646B3 } } ∧
    exec .tapBypass s = .next (set 0xFF 0 .core) ∧
    exec .tapIdcode s = .next (set 0x01 0x116646B3 .core) ∧
    (∃ t, exec (.samplePreload sample preload) s = .next t ∧ t = { set 0x02 0 .core with tap := t.tap } ∧
      t.tap.sampled = sample ∧ t.tap.cells = preload ∧ t.tap.ir = 0x02 ∧ t.tap.drive = .core) ∧
    exec .tapExtest s = .next (set 0x03 0 .cells) ∧ exec .tapClamp s = .next (set 0x04 0 .cells) ∧
    exec .tapHighz s = .next (set 0x05 0 .highZ) ∧ exec .extestPulse s = .next (set 0x06 0 .pulse) ∧
    exec .extestTrain s = .next (set 0x07 0 .train) ∧
    -- factory instructions
    (¬ ready → exec (.csrAccess reg acc) s = .next (set 0xFF 0 .core) ∧
      exec (.layerSel layer raw) s = .next (set 0xFF 0 .core) ∧ exec (.wrapSel e) s = .next (set 0xFF 0 .core)) ∧
    (ready → (set 0x10 0 .core).csrFirstBad false true a [0] = none → (let r := (set 0x10 0 .core).csrReadAll a 1
      ∃ t, exec (.csrAccess reg (.read 1)) s = .next t ∧ t = { r.1 with tap := t.tap } ∧ t.tap.ir = 0x10 ∧
        t.tap.dr = leNat r.2)) ∧
    (ready → (set 0x10 0 .core).csrFirstBad true true a [w] = none →
      exec (.csrAccess reg (.write [w])) s = .next ((set 0x10 0 .core).csrWriteAll true a [w])) ∧
    (ready → (set 0x10 0 .core).csrFirstBad true true a [w] ≠ none →
      exec (.csrAccess reg (.write [w])) s = .next (set 0x10 0 .core)) ∧
    (ready → exec (.layerSel layer .select) s = .next chosen) ∧
    (ready → ∃ t, exec (.layerSel layer (.read half g)) s = .next t ∧ t = { chosen with tap := t.tap } ∧
      t.tap.layer = some layer.val ∧ t.tap.ir = 0x11 ∧
      t.tap.dr = leNat (s.arrBytes ch g.toNat) + (s.arrMask ch g.toNat).toNat * 2 ^ 512) ∧
    (ready → ∃ t, exec (.layerSel layer (.write half g d m)) s = .next t ∧ t = { chosen with dram := t.dram, masks := t.masks } ∧
      t.arrBytes ch g.toNat = natLe 64 d.toNat ∧ t.arrMask ch g.toNat = m ∧
      ∀ c k, c < 34 → k < 2 ^ 25 → (c ≠ ch ∨ k ≠ g.toNat) → t.arrBytes c k = s.arrBytes c k ∧ t.arrMask c k = s.arrMask c k) ∧
    (ready → busy → exec (.wrapSel e) s = .next { s with tap := { tap with waits := some e.val } }) ∧
    (¬ (ready ∧ busy) → ¬ idle → exec (.wrapSel e) s = .next (set 0xFF 0 .core)) ∧
    (ready → ¬ busy → idle → exec (.wrapSel e) s = .next { set 0x12 0 .core with
      tap := { (set 0x12 0 .core).tap with wrap := some e.val } })
end

