-- ==== Sys2Proof/Laws/Bits.lean ====
section
/-! SUPPORT. Laws of the bit fields: what a field reads after a field is written. -/
namespace Sys2Proof.Machine

theorem putBits_eq (v lo w x : Nat) :
    putBits v lo w x = v / 2 ^ (lo + w) * 2 ^ (lo + w) + (x % 2 ^ w) * 2 ^ lo + v % 2 ^ lo := by
  have h1 : v = v / 2 ^ lo * 2 ^ lo + v % 2 ^ lo := (Nat.div_add_mod' v (2 ^ lo)).symm
  have h2 : v / 2 ^ lo = v / 2 ^ lo / 2 ^ w * 2 ^ w + v / 2 ^ lo % 2 ^ w := (Nat.div_add_mod' _ _).symm
  have h3 : v / 2 ^ lo / 2 ^ w = v / 2 ^ (lo + w) := by rw [Nat.div_div_eq_div_mul, pow_add]
  have h4 : v = v / 2 ^ (lo + w) * 2 ^ (lo + w) + v / 2 ^ lo % 2 ^ w * 2 ^ lo + v % 2 ^ lo := by
    conv_lhs => rw [h1, h2, h3]
    rw [pow_add]; ring
  unfold putBits bits
  rw [Nat.shiftRight_eq_div_pow]
  omega

theorem testBit_bits (v lo w i : Nat) : (bits v lo w).testBit i = (decide (i < w) && v.testBit (lo + i)) := by
  simp [bits, Nat.testBit_mod_two_pow, Nat.testBit_shiftRight]

theorem testBit_putBits (v lo w x i : Nat) :
    (putBits v lo w x).testBit i = if lo ≤ i ∧ i < lo + w then x.testBit (i - lo) else v.testBit i := by
  have hlo : v % 2 ^ lo < 2 ^ lo := Nat.mod_lt _ (by positivity)
  have hx : x % 2 ^ w < 2 ^ w := Nat.mod_lt _ (by positivity)
  rw [putBits_eq]
  have e : v / 2 ^ (lo + w) * 2 ^ (lo + w) + (x % 2 ^ w) * 2 ^ lo + v % 2 ^ lo
      = 2 ^ lo * (2 ^ w * (v / 2 ^ (lo + w)) + x % 2 ^ w) + v % 2 ^ lo := by rw [pow_add]; ring
  rw [e, Nat.testBit_two_pow_mul_add _ hlo]
  by_cases h : i < lo
  · simp [h, Nat.testBit_mod_two_pow, show ¬ lo ≤ i by omega]
  · rw [if_neg h, Nat.testBit_two_pow_mul_add _ hx]
    by_cases h2 : i - lo < w
    · simp [h2, Nat.testBit_mod_two_pow, show lo ≤ i by omega, show i < lo + w by omega]
    · rw [if_neg h2, if_neg (by omega), Nat.testBit_div_two_pow]
      congr 1; omega

/-- A field reads what was put into it. -/
theorem bits_putBits (v lo w x : Nat) : bits (putBits v lo w x) lo w = x % 2 ^ w := by
  apply Nat.eq_of_testBit_eq; intro i
  rw [testBit_bits, testBit_putBits, Nat.testBit_mod_two_pow]
  by_cases h : i < w <;> simp [h]

/-- A field beside the one that was written keeps its value. -/
theorem bits_putBits_ne (v lo w x lo' w' : Nat) (h : lo' + w' ≤ lo ∨ lo + w ≤ lo') :
    bits (putBits v lo w x) lo' w' = bits v lo' w' := by
  apply Nat.eq_of_testBit_eq; intro i
  rw [testBit_bits, testBit_bits, testBit_putBits]
  by_cases hi : i < w'
  · rw [if_neg (by omega)]
  · simp [hi]

theorem bits_mod (v n lo w : Nat) (h : lo + w ≤ n) : bits (v % 2 ^ n) lo w = bits v lo w := by
  apply Nat.eq_of_testBit_eq; intro i
  rw [testBit_bits, testBit_bits, Nat.testBit_mod_two_pow]
  by_cases hi : i < w
  · simp [hi, show lo + i < n by omega]
  · simp [hi]

theorem bits_lt (v lo w : Nat) : bits v lo w < 2 ^ w := Nat.mod_lt _ (by positivity)

theorem bits_one (v b : Nat) : bits v b 1 = b2n (v.testBit b) := by
  apply Nat.eq_of_testBit_eq; intro i
  rw [testBit_bits]
  cases i with
  | zero => cases v.testBit b <;> simp [b2n]
  | succ i => cases v.testBit b <;> simp [b2n, Nat.testBit_succ]

theorem natLe_length (n v : Nat) : (natLe n v).length = n := by
  induction n generalizing v with
  | zero => rfl
  | succ n ih => simp [natLe, ih]

theorem slice_length (bs : List Byte) (off n : Nat) : (slice bs off n).length = n := by
  unfold slice
  simp only [List.length_append, List.length_replicate, List.length_take, List.length_drop]
  omega

/-- Little-endian bytes read back as their value (R4). -/
theorem leNat_natLe (n v : Nat) : leNat (natLe n v) = v % 256 ^ n := by
  induction n generalizing v with
  | zero => simp [natLe, leNat, Nat.mod_one]
  | succ n ih =>
    simp only [natLe, leNat, ih, BitVec.toNat_ofNat]
    have : v % 256 ^ (n + 1) = v % 256 + 256 * (v / 256 % 256 ^ n) := by
      rw [show 256 ^ (n + 1) = 256 * 256 ^ n by ring, Nat.mod_mul]
    omega

/-- VT has reached itself, and what lies less than half of its range behind it (R49). -/
theorem vtGe_vtAdd (v d : Nat) (hv : v < 2 ^ 48) (h : d < 2 ^ 47) : vtGe (vtAdd v d) v = true := by
  have e : ((v + d) % 2 ^ 48 + 2 ^ 48 - v % 2 ^ 48) % 2 ^ 48 = d := by omega
  have : vtGe (vtAdd v d) v = decide (((v + d) % 2 ^ 48 + 2 ^ 48 - v % 2 ^ 48) % 2 ^ 48 < 2 ^ 47) := rfl
  rw [this, e]
  simpa using h

end Sys2Proof.Machine
end

