-- ==== Sys2Proof/Laws/Cells.lean ====
section
/-! SUPPORT. Laws of the sparse memories: a read after a write, and that a write keeps the canonical form. -/
namespace Sys2Proof.Machine
variable {α : Type}

theorem cget_lt (d : Nat → α) [DecidableEq α] {m : List (Nat × α)} {lo b : Nat} (h : cwfFrom d lo m = true)
    (hb : b < lo) : cget d m b = d b := by
  cases m with
  | nil => rfl
  | cons c r =>
    obtain ⟨k, v⟩ := c
    simp only [cwfFrom, Bool.and_eq_true, decide_eq_true_eq] at h
    have h1 : b ≠ k := by omega
    have h2 : b < k := by omega
    simp [cget, h1, h2]

theorem cwfFrom_mono [DecidableEq α] {d : Nat → α} {m : List (Nat × α)} {lo lo' : Nat} (h : cwfFrom d lo m = true)
    (hl : lo' ≤ lo) : cwfFrom d lo' m = true := by
  cases m with
  | nil => rfl
  | cons c r =>
    obtain ⟨k, v⟩ := c
    simp only [cwfFrom, Bool.and_eq_true, decide_eq_true_eq] at h ⊢
    exact ⟨⟨by omega, h.1.2⟩, h.2⟩

/-- A read after a write to a canonical memory: the value written at its address, the old one elsewhere. -/
theorem cget_cput_from [DecidableEq α] {d : Nat → α} {m : List (Nat × α)} {lo : Nat} (h : cwfFrom d lo m = true)
    (a : Nat) (v : α) (b : Nat) : cget d (cput d m a v) b = if b = a then v else cget d m b := by
  induction m generalizing lo with
  | nil =>
    simp only [cput]
    by_cases hv : v = d a <;> by_cases hb : b = a <;> simp [cget, hv, hb]
  | cons c r ih =>
    obtain ⟨k, w⟩ := c
    simp only [cwfFrom, Bool.and_eq_true, decide_eq_true_eq] at h
    simp only [cput]
    by_cases hak : a = k
    · subst hak
      simp only [if_true]
      by_cases hv : v = d a
      · simp only [hv, if_true]
        by_cases hb : b = a
        · subst hb
          simp [cget_lt d h.2 (Nat.lt_succ_self _)]
        · simp only [hb, if_false, cget]
          split
          · exact cget_lt d h.2 (by omega)
          · rfl
      · simp only [hv, if_false, cget]
        by_cases hb : b = a <;> simp [hb]
    · simp only [hak, if_false]
      by_cases hlt : a < k
      · simp only [hlt, if_true]
        by_cases hv : v = d a
        · simp only [hv, if_true]
          by_cases hb : b = a
          · subst hb; simp [cget, hak, hlt]
          · simp [hb]
        · simp only [hv, if_false]
          by_cases hb : b = a
          · subst hb; simp [cget]
          · by_cases hba : b < a
            · have : b < k := by omega
              have hbk : b ≠ k := by omega
              simp [cget, hb, hba, hbk, this]
            · simp [cget, hb, hba]
      · simp only [hlt, if_false, cget]
        by_cases hbk : b = k
        · have : b ≠ a := fun h => hak (h ▸ hbk)
          simp only [hbk, if_true]
          rw [if_neg (fun h => hak h.symm)]
        · simp only [hbk, if_false]
          by_cases hbl : b < k
          · have : b ≠ a := by omega
            simp [hbl, this]
          · simp only [hbl, if_false]
            exact ih h.2

theorem cwfFrom_cput [DecidableEq α] {d : Nat → α} {m : List (Nat × α)} {lo : Nat} (h : cwfFrom d lo m = true)
    (a : Nat) (v : α) (ha : lo ≤ a) : cwfFrom d lo (cput d m a v) = true := by
  induction m generalizing lo with
  | nil =>
    simp only [cput]
    by_cases hv : v = d a <;> simp [cwfFrom, hv, ha]
  | cons c r ih =>
    obtain ⟨k, w⟩ := c
    simp only [cwfFrom, Bool.and_eq_true, decide_eq_true_eq] at h
    simp only [cput]
    by_cases hak : a = k
    · subst hak
      by_cases hv : v = d a
      · simpa [hv] using cwfFrom_mono h.2 (by omega)
      · simp [hv, cwfFrom, h.2, ha]
    · simp only [hak, if_false]
      by_cases hlt : a < k
      · by_cases hv : v = d a
        · simp [hlt, hv, cwfFrom, h.1.1, h.1.2, h.2]
        · have : a + 1 ≤ k := hlt
          simp [hlt, hv, cwfFrom, ha, this, h.1.2, h.2]
      · simp only [hlt, if_false, cwfFrom, Bool.and_eq_true, decide_eq_true_eq]
        exact ⟨h.1, ih h.2 (by omega)⟩

/-- A write keeps the canonical form. -/
theorem cwf_cput [DecidableEq α] {d : Nat → α} {m : List (Nat × α)} (h : cwf d m = true) (a : Nat) (v : α) :
    cwf d (cput d m a v) = true := cwfFrom_cput h a v (Nat.zero_le _)

theorem cget_cput [DecidableEq α] {d : Nat → α} {m : List (Nat × α)} (h : cwf d m = true) (a : Nat) (v : α)
    (b : Nat) : cget d (cput d m a v) b = if b = a then v else cget d m b := cget_cput_from h a v b

/-- A run of writes keeps the canonical form. -/
theorem cwf_cputAll [DecidableEq α] {d : Nat → α} (vs : List α) {m : List (Nat × α)} (h : cwf d m = true) (a : Nat) :
    cwf d (cputAll d m a vs) = true := by
  induction vs generalizing m a with
  | nil => exact h
  | cons v r ih => exact ih (cwf_cput h a v) (a + 1)

/-- A run of writes leaves every address outside it alone. -/
theorem cget_cputAll_outside [DecidableEq α] {d : Nat → α} (vs : List α) {m : List (Nat × α)} (h : cwf d m = true)
    (a b : Nat) (hb : b < a ∨ a + vs.length ≤ b) : cget d (cputAll d m a vs) b = cget d m b := by
  induction vs generalizing m a with
  | nil => rfl
  | cons v r ih =>
    simp only [List.length_cons] at hb
    simp only [cputAll]
    rw [ih (cwf_cput h a v) (a + 1) (by omega), cget_cput h, if_neg (by omega)]

/-- A run of writes is read back at every address of it. -/
theorem cget_cputAll_inside [DecidableEq α] {d : Nat → α} (vs : List α) {m : List (Nat × α)} (h : cwf d m = true)
    (a i : Nat) (hi : i < vs.length) : cget d (cputAll d m a vs) (a + i) = vs[i] := by
  induction vs generalizing m a i with
  | nil => simp at hi
  | cons v r ih =>
    simp only [cputAll]
    cases i with
    | zero =>
      rw [cget_cputAll_outside r (cwf_cput h a v) _ _ (by omega), cget_cput h]
      simp
    | succ i =>
      have := ih (cwf_cput h a v) (a + 1) i (by simpa using hi)
      rw [show a + (i + 1) = a + 1 + i by omega, this]
      simp

end Sys2Proof.Machine
end

