-- ==== Sys2Proof/Laws/State.lean ====
section
/-! SUPPORT. Laws of the named updates of State: which fields an update leaves alone, and what a register or a field
reads after one was written. -/
namespace Sys2Proof.Machine
open Csr

/-! An update leaves every field it does not name. -/

@[simp] theorem State.pending_setReg (s : State) (a : Nat) (w : Word) : (s.setReg a w).pending = s.pending := rfl
@[simp] theorem State.eff_setReg (s : State) (a : Nat) (w : Word) : (s.setReg a w).eff = s.eff := rfl
@[simp] theorem State.clk_setReg (s : State) (a : Nat) (w : Word) : (s.setReg a w).clk = s.clk := rfl
@[simp] theorem State.pauses_setReg (s : State) (a : Nat) (w : Word) : (s.setReg a w).pauses = s.pauses := rfl
@[simp] theorem State.vt_setReg (s : State) (a : Nat) (w : Word) : (s.setReg a w).vt = s.vt := rfl
@[simp] theorem State.img_setReg (s : State) (a : Nat) (w : Word) : (s.setReg a w).img = s.img := rfl
@[simp] theorem State.dram_setReg (s : State) (a : Nat) (w : Word) : (s.setReg a w).dram = s.dram := rfl
@[simp] theorem State.masks_setReg (s : State) (a : Nat) (w : Word) : (s.setReg a w).masks = s.masks := rfl
@[simp] theorem State.filled_setReg (s : State) (a : Nat) (w : Word) : (s.setReg a w).filled = s.filled := rfl
@[simp] theorem State.engs_setReg (s : State) (a : Nat) (w : Word) : (s.setReg a w).engs = s.engs := rfl
@[simp] theorem State.mcs_setReg (s : State) (a : Nat) (w : Word) : (s.setReg a w).mcs = s.mcs := rfl
@[simp] theorem State.caps_setReg (s : State) (a : Nat) (w : Word) : (s.setReg a w).caps = s.caps := rfl
@[simp] theorem State.lanes_setReg (s : State) (a : Nat) (w : Word) : (s.setReg a w).lanes = s.lanes := rfl
@[simp] theorem State.bw_setReg (s : State) (a : Nat) (w : Word) : (s.setReg a w).bw = s.bw := rfl
@[simp] theorem State.pins_setReg (s : State) (a : Nat) (w : Word) : (s.setReg a w).pins = s.pins := rfl
@[simp] theorem State.gates_setReg (s : State) (a : Nat) (w : Word) : (s.setReg a w).gates = s.gates := rfl
@[simp] theorem State.clocks_setReg (s : State) (a : Nat) (w : Word) : (s.setReg a w).clocks = s.clocks := rfl
@[simp] theorem State.st_setReg (s : State) (a : Nat) (w : Word) : (s.setReg a w).st = s.st := rfl
@[simp] theorem State.modes_setReg (s : State) (a : Nat) (w : Word) : (s.setReg a w).modes = s.modes := rfl
@[simp] theorem State.faults_setReg (s : State) (a : Nat) (w : Word) : (s.setReg a w).faults = s.faults := rfl
@[simp] theorem State.alm_setReg (s : State) (a : Nat) (w : Word) : (s.setReg a w).alm = s.alm := rfl
@[simp] theorem State.fuses_setReg (s : State) (a : Nat) (w : Word) : (s.setReg a w).fuses = s.fuses := rfl
@[simp] theorem State.hl_setReg (s : State) (a : Nat) (w : Word) : (s.setReg a w).hl = s.hl := rfl
@[simp] theorem State.tap_setReg (s : State) (a : Nat) (w : Word) : (s.setReg a w).tap = s.tap := rfl
@[simp] theorem State.free_setReg (s : State) (a : Nat) (w : Word) : (s.setReg a w).free = s.free := rfl
@[simp] theorem State.fresh_setReg (s : State) (a : Nat) (w : Word) : (s.setReg a w).fresh = s.fresh := rfl
@[simp] theorem State.pending_noteEvent (s : State) (g : Fld) (v : Nat → Nat) : (s.noteEvent g v).pending = s.pending := rfl
@[simp] theorem State.csr_noteEvent (s : State) (g : Fld) (v : Nat → Nat) : (s.noteEvent g v).csr = s.csr := rfl
@[simp] theorem State.eff_noteEvent (s : State) (g : Fld) (v : Nat → Nat) : (s.noteEvent g v).eff = s.eff := rfl
@[simp] theorem State.clk_noteEvent (s : State) (g : Fld) (v : Nat → Nat) : (s.noteEvent g v).clk = s.clk := rfl
@[simp] theorem State.pauses_noteEvent (s : State) (g : Fld) (v : Nat → Nat) : (s.noteEvent g v).pauses = s.pauses := rfl
@[simp] theorem State.vt_noteEvent (s : State) (g : Fld) (v : Nat → Nat) : (s.noteEvent g v).vt = s.vt := rfl
@[simp] theorem State.img_noteEvent (s : State) (g : Fld) (v : Nat → Nat) : (s.noteEvent g v).img = s.img := rfl
@[simp] theorem State.dram_noteEvent (s : State) (g : Fld) (v : Nat → Nat) : (s.noteEvent g v).dram = s.dram := rfl
@[simp] theorem State.masks_noteEvent (s : State) (g : Fld) (v : Nat → Nat) : (s.noteEvent g v).masks = s.masks := rfl
@[simp] theorem State.filled_noteEvent (s : State) (g : Fld) (v : Nat → Nat) : (s.noteEvent g v).filled = s.filled := rfl
@[simp] theorem State.engs_noteEvent (s : State) (g : Fld) (v : Nat → Nat) : (s.noteEvent g v).engs = s.engs := rfl
@[simp] theorem State.mcs_noteEvent (s : State) (g : Fld) (v : Nat → Nat) : (s.noteEvent g v).mcs = s.mcs := rfl
@[simp] theorem State.caps_noteEvent (s : State) (g : Fld) (v : Nat → Nat) : (s.noteEvent g v).caps = s.caps := rfl
@[simp] theorem State.lanes_noteEvent (s : State) (g : Fld) (v : Nat → Nat) : (s.noteEvent g v).lanes = s.lanes := rfl
@[simp] theorem State.bw_noteEvent (s : State) (g : Fld) (v : Nat → Nat) : (s.noteEvent g v).bw = s.bw := rfl
@[simp] theorem State.pins_noteEvent (s : State) (g : Fld) (v : Nat → Nat) : (s.noteEvent g v).pins = s.pins := rfl
@[simp] theorem State.gates_noteEvent (s : State) (g : Fld) (v : Nat → Nat) : (s.noteEvent g v).gates = s.gates := rfl
@[simp] theorem State.clocks_noteEvent (s : State) (g : Fld) (v : Nat → Nat) : (s.noteEvent g v).clocks = s.clocks := rfl
@[simp] theorem State.st_noteEvent (s : State) (g : Fld) (v : Nat → Nat) : (s.noteEvent g v).st = s.st := rfl
@[simp] theorem State.modes_noteEvent (s : State) (g : Fld) (v : Nat → Nat) : (s.noteEvent g v).modes = s.modes := rfl
@[simp] theorem State.faults_noteEvent (s : State) (g : Fld) (v : Nat → Nat) : (s.noteEvent g v).faults = s.faults := rfl
@[simp] theorem State.alm_noteEvent (s : State) (g : Fld) (v : Nat → Nat) : (s.noteEvent g v).alm = s.alm := rfl
@[simp] theorem State.fuses_noteEvent (s : State) (g : Fld) (v : Nat → Nat) : (s.noteEvent g v).fuses = s.fuses := rfl
@[simp] theorem State.hl_noteEvent (s : State) (g : Fld) (v : Nat → Nat) : (s.noteEvent g v).hl = s.hl := rfl
@[simp] theorem State.tap_noteEvent (s : State) (g : Fld) (v : Nat → Nat) : (s.noteEvent g v).tap = s.tap := rfl
@[simp] theorem State.free_noteEvent (s : State) (g : Fld) (v : Nat → Nat) : (s.noteEvent g v).free = s.free := rfl
@[simp] theorem State.reg_noteEvent (s : State) (g : Fld) (v : Nat → Nat) (a : Nat) : (s.noteEvent g v).reg a = s.reg a := by
  rw [State.reg, State.csr_noteEvent, State.reg]
@[simp] theorem State.rd_noteEvent (s : State) (g : Fld) (v : Nat → Nat) (f : Fld) : (s.noteEvent g v).rd f = s.rd f := by
  rw [State.rd, State.reg_noteEvent, State.rd]
@[simp] theorem State.pending_inc (s : State) (g : Fld) : (s.inc g).pending = s.pending := rfl
@[simp] theorem State.pending_on (s : State) (g : Fld) : (s.on g).pending = s.pending := rfl
@[simp] theorem State.eff_inc (s : State) (g : Fld) : (s.inc g).eff = s.eff := rfl
@[simp] theorem State.eff_on (s : State) (g : Fld) : (s.on g).eff = s.eff := rfl
@[simp] theorem State.clk_inc (s : State) (g : Fld) : (s.inc g).clk = s.clk := rfl
@[simp] theorem State.clk_on (s : State) (g : Fld) : (s.on g).clk = s.clk := rfl
@[simp] theorem State.pauses_inc (s : State) (g : Fld) : (s.inc g).pauses = s.pauses := rfl
@[simp] theorem State.pauses_on (s : State) (g : Fld) : (s.on g).pauses = s.pauses := rfl
@[simp] theorem State.vt_inc (s : State) (g : Fld) : (s.inc g).vt = s.vt := rfl
@[simp] theorem State.vt_on (s : State) (g : Fld) : (s.on g).vt = s.vt := rfl
@[simp] theorem State.img_inc (s : State) (g : Fld) : (s.inc g).img = s.img := rfl
@[simp] theorem State.img_on (s : State) (g : Fld) : (s.on g).img = s.img := rfl
@[simp] theorem State.dram_inc (s : State) (g : Fld) : (s.inc g).dram = s.dram := rfl
@[simp] theorem State.dram_on (s : State) (g : Fld) : (s.on g).dram = s.dram := rfl
@[simp] theorem State.masks_inc (s : State) (g : Fld) : (s.inc g).masks = s.masks := rfl
@[simp] theorem State.masks_on (s : State) (g : Fld) : (s.on g).masks = s.masks := rfl
@[simp] theorem State.filled_inc (s : State) (g : Fld) : (s.inc g).filled = s.filled := rfl
@[simp] theorem State.filled_on (s : State) (g : Fld) : (s.on g).filled = s.filled := rfl
@[simp] theorem State.engs_inc (s : State) (g : Fld) : (s.inc g).engs = s.engs := rfl
@[simp] theorem State.engs_on (s : State) (g : Fld) : (s.on g).engs = s.engs := rfl
@[simp] theorem State.mcs_inc (s : State) (g : Fld) : (s.inc g).mcs = s.mcs := rfl
@[simp] theorem State.mcs_on (s : State) (g : Fld) : (s.on g).mcs = s.mcs := rfl
@[simp] theorem State.caps_inc (s : State) (g : Fld) : (s.inc g).caps = s.caps := rfl
@[simp] theorem State.caps_on (s : State) (g : Fld) : (s.on g).caps = s.caps := rfl
@[simp] theorem State.lanes_inc (s : State) (g : Fld) : (s.inc g).lanes = s.lanes := rfl
@[simp] theorem State.lanes_on (s : State) (g : Fld) : (s.on g).lanes = s.lanes := rfl
@[simp] theorem State.bw_inc (s : State) (g : Fld) : (s.inc g).bw = s.bw := rfl
@[simp] theorem State.bw_on (s : State) (g : Fld) : (s.on g).bw = s.bw := rfl
@[simp] theorem State.pins_inc (s : State) (g : Fld) : (s.inc g).pins = s.pins := rfl
@[simp] theorem State.pins_on (s : State) (g : Fld) : (s.on g).pins = s.pins := rfl
@[simp] theorem State.gates_inc (s : State) (g : Fld) : (s.inc g).gates = s.gates := rfl
@[simp] theorem State.gates_on (s : State) (g : Fld) : (s.on g).gates = s.gates := rfl
@[simp] theorem State.clocks_inc (s : State) (g : Fld) : (s.inc g).clocks = s.clocks := rfl
@[simp] theorem State.clocks_on (s : State) (g : Fld) : (s.on g).clocks = s.clocks := rfl
@[simp] theorem State.st_inc (s : State) (g : Fld) : (s.inc g).st = s.st := rfl
@[simp] theorem State.st_on (s : State) (g : Fld) : (s.on g).st = s.st := rfl
@[simp] theorem State.modes_inc (s : State) (g : Fld) : (s.inc g).modes = s.modes := rfl
@[simp] theorem State.modes_on (s : State) (g : Fld) : (s.on g).modes = s.modes := rfl
@[simp] theorem State.faults_inc (s : State) (g : Fld) : (s.inc g).faults = s.faults := rfl
@[simp] theorem State.faults_on (s : State) (g : Fld) : (s.on g).faults = s.faults := rfl
@[simp] theorem State.alm_inc (s : State) (g : Fld) : (s.inc g).alm = s.alm := rfl
@[simp] theorem State.alm_on (s : State) (g : Fld) : (s.on g).alm = s.alm := rfl
@[simp] theorem State.fuses_inc (s : State) (g : Fld) : (s.inc g).fuses = s.fuses := rfl
@[simp] theorem State.fuses_on (s : State) (g : Fld) : (s.on g).fuses = s.fuses := rfl
@[simp] theorem State.hl_inc (s : State) (g : Fld) : (s.inc g).hl = s.hl := rfl
@[simp] theorem State.hl_on (s : State) (g : Fld) : (s.on g).hl = s.hl := rfl
@[simp] theorem State.tap_inc (s : State) (g : Fld) : (s.inc g).tap = s.tap := rfl
@[simp] theorem State.tap_on (s : State) (g : Fld) : (s.on g).tap = s.tap := rfl
@[simp] theorem State.free_inc (s : State) (g : Fld) : (s.inc g).free = s.free := rfl
@[simp] theorem State.free_on (s : State) (g : Fld) : (s.on g).free = s.free := rfl
@[simp] theorem State.pending_setEff (s : State) (a : Nat) (w : Word) : (s.setEff a w).pending = s.pending := rfl
@[simp] theorem State.csr_setEff (s : State) (a : Nat) (w : Word) : (s.setEff a w).csr = s.csr := rfl
@[simp] theorem State.clk_setEff (s : State) (a : Nat) (w : Word) : (s.setEff a w).clk = s.clk := rfl
@[simp] theorem State.pauses_setEff (s : State) (a : Nat) (w : Word) : (s.setEff a w).pauses = s.pauses := rfl
@[simp] theorem State.vt_setEff (s : State) (a : Nat) (w : Word) : (s.setEff a w).vt = s.vt := rfl
@[simp] theorem State.img_setEff (s : State) (a : Nat) (w : Word) : (s.setEff a w).img = s.img := rfl
@[simp] theorem State.dram_setEff (s : State) (a : Nat) (w : Word) : (s.setEff a w).dram = s.dram := rfl
@[simp] theorem State.masks_setEff (s : State) (a : Nat) (w : Word) : (s.setEff a w).masks = s.masks := rfl
@[simp] theorem State.filled_setEff (s : State) (a : Nat) (w : Word) : (s.setEff a w).filled = s.filled := rfl
@[simp] theorem State.engs_setEff (s : State) (a : Nat) (w : Word) : (s.setEff a w).engs = s.engs := rfl
@[simp] theorem State.mcs_setEff (s : State) (a : Nat) (w : Word) : (s.setEff a w).mcs = s.mcs := rfl
@[simp] theorem State.caps_setEff (s : State) (a : Nat) (w : Word) : (s.setEff a w).caps = s.caps := rfl
@[simp] theorem State.lanes_setEff (s : State) (a : Nat) (w : Word) : (s.setEff a w).lanes = s.lanes := rfl
@[simp] theorem State.bw_setEff (s : State) (a : Nat) (w : Word) : (s.setEff a w).bw = s.bw := rfl
@[simp] theorem State.pins_setEff (s : State) (a : Nat) (w : Word) : (s.setEff a w).pins = s.pins := rfl
@[simp] theorem State.gates_setEff (s : State) (a : Nat) (w : Word) : (s.setEff a w).gates = s.gates := rfl
@[simp] theorem State.clocks_setEff (s : State) (a : Nat) (w : Word) : (s.setEff a w).clocks = s.clocks := rfl
@[simp] theorem State.st_setEff (s : State) (a : Nat) (w : Word) : (s.setEff a w).st = s.st := rfl
@[simp] theorem State.modes_setEff (s : State) (a : Nat) (w : Word) : (s.setEff a w).modes = s.modes := rfl
@[simp] theorem State.faults_setEff (s : State) (a : Nat) (w : Word) : (s.setEff a w).faults = s.faults := rfl
@[simp] theorem State.alm_setEff (s : State) (a : Nat) (w : Word) : (s.setEff a w).alm = s.alm := rfl
@[simp] theorem State.fuses_setEff (s : State) (a : Nat) (w : Word) : (s.setEff a w).fuses = s.fuses := rfl
@[simp] theorem State.hl_setEff (s : State) (a : Nat) (w : Word) : (s.setEff a w).hl = s.hl := rfl
@[simp] theorem State.tap_setEff (s : State) (a : Nat) (w : Word) : (s.setEff a w).tap = s.tap := rfl
@[simp] theorem State.free_setEff (s : State) (a : Nat) (w : Word) : (s.setEff a w).free = s.free := rfl
@[simp] theorem State.fresh_setEff (s : State) (a : Nat) (w : Word) : (s.setEff a w).fresh = s.fresh := rfl
@[simp] theorem State.pending_put (s : State) (f : Fld) (v : Nat) : (s.put f v).pending = s.pending := rfl
@[simp] theorem State.eff_put (s : State) (f : Fld) (v : Nat) : (s.put f v).eff = s.eff := rfl
@[simp] theorem State.clk_put (s : State) (f : Fld) (v : Nat) : (s.put f v).clk = s.clk := rfl
@[simp] theorem State.pauses_put (s : State) (f : Fld) (v : Nat) : (s.put f v).pauses = s.pauses := rfl
@[simp] theorem State.vt_put (s : State) (f : Fld) (v : Nat) : (s.put f v).vt = s.vt := rfl
@[simp] theorem State.img_put (s : State) (f : Fld) (v : Nat) : (s.put f v).img = s.img := rfl
@[simp] theorem State.dram_put (s : State) (f : Fld) (v : Nat) : (s.put f v).dram = s.dram := rfl
@[simp] theorem State.masks_put (s : State) (f : Fld) (v : Nat) : (s.put f v).masks = s.masks := rfl
@[simp] theorem State.filled_put (s : State) (f : Fld) (v : Nat) : (s.put f v).filled = s.filled := rfl
@[simp] theorem State.engs_put (s : State) (f : Fld) (v : Nat) : (s.put f v).engs = s.engs := rfl
@[simp] theorem State.mcs_put (s : State) (f : Fld) (v : Nat) : (s.put f v).mcs = s.mcs := rfl
@[simp] theorem State.caps_put (s : State) (f : Fld) (v : Nat) : (s.put f v).caps = s.caps := rfl
@[simp] theorem State.lanes_put (s : State) (f : Fld) (v : Nat) : (s.put f v).lanes = s.lanes := rfl
@[simp] theorem State.bw_put (s : State) (f : Fld) (v : Nat) : (s.put f v).bw = s.bw := rfl
@[simp] theorem State.pins_put (s : State) (f : Fld) (v : Nat) : (s.put f v).pins = s.pins := rfl
@[simp] theorem State.gates_put (s : State) (f : Fld) (v : Nat) : (s.put f v).gates = s.gates := rfl
@[simp] theorem State.clocks_put (s : State) (f : Fld) (v : Nat) : (s.put f v).clocks = s.clocks := rfl
@[simp] theorem State.st_put (s : State) (f : Fld) (v : Nat) : (s.put f v).st = s.st := rfl
@[simp] theorem State.modes_put (s : State) (f : Fld) (v : Nat) : (s.put f v).modes = s.modes := rfl
@[simp] theorem State.faults_put (s : State) (f : Fld) (v : Nat) : (s.put f v).faults = s.faults := rfl
@[simp] theorem State.alm_put (s : State) (f : Fld) (v : Nat) : (s.put f v).alm = s.alm := rfl
@[simp] theorem State.fuses_put (s : State) (f : Fld) (v : Nat) : (s.put f v).fuses = s.fuses := rfl
@[simp] theorem State.hl_put (s : State) (f : Fld) (v : Nat) : (s.put f v).hl = s.hl := rfl
@[simp] theorem State.tap_put (s : State) (f : Fld) (v : Nat) : (s.put f v).tap = s.tap := rfl
@[simp] theorem State.free_put (s : State) (f : Fld) (v : Nat) : (s.put f v).free = s.free := rfl
@[simp] theorem State.fresh_put (s : State) (f : Fld) (v : Nat) : (s.put f v).fresh = s.fresh := rfl
@[simp] theorem State.pending_updEng (s : State) (e : Nat) (f : Engine → Engine) : (s.updEng e f).pending = s.pending := rfl
@[simp] theorem State.csr_updEng (s : State) (e : Nat) (f : Engine → Engine) : (s.updEng e f).csr = s.csr := rfl
@[simp] theorem State.eff_updEng (s : State) (e : Nat) (f : Engine → Engine) : (s.updEng e f).eff = s.eff := rfl
@[simp] theorem State.clk_updEng (s : State) (e : Nat) (f : Engine → Engine) : (s.updEng e f).clk = s.clk := rfl
@[simp] theorem State.pauses_updEng (s : State) (e : Nat) (f : Engine → Engine) : (s.updEng e f).pauses = s.pauses := rfl
@[simp] theorem State.vt_updEng (s : State) (e : Nat) (f : Engine → Engine) : (s.updEng e f).vt = s.vt := rfl
@[simp] theorem State.img_updEng (s : State) (e : Nat) (f : Engine → Engine) : (s.updEng e f).img = s.img := rfl
@[simp] theorem State.dram_updEng (s : State) (e : Nat) (f : Engine → Engine) : (s.updEng e f).dram = s.dram := rfl
@[simp] theorem State.masks_updEng (s : State) (e : Nat) (f : Engine → Engine) : (s.updEng e f).masks = s.masks := rfl
@[simp] theorem State.filled_updEng (s : State) (e : Nat) (f : Engine → Engine) : (s.updEng e f).filled = s.filled := rfl
@[simp] theorem State.mcs_updEng (s : State) (e : Nat) (f : Engine → Engine) : (s.updEng e f).mcs = s.mcs := rfl
@[simp] theorem State.caps_updEng (s : State) (e : Nat) (f : Engine → Engine) : (s.updEng e f).caps = s.caps := rfl
@[simp] theorem State.lanes_updEng (s : State) (e : Nat) (f : Engine → Engine) : (s.updEng e f).lanes = s.lanes := rfl
@[simp] theorem State.bw_updEng (s : State) (e : Nat) (f : Engine → Engine) : (s.updEng e f).bw = s.bw := rfl
@[simp] theorem State.pins_updEng (s : State) (e : Nat) (f : Engine → Engine) : (s.updEng e f).pins = s.pins := rfl
@[simp] theorem State.gates_updEng (s : State) (e : Nat) (f : Engine → Engine) : (s.updEng e f).gates = s.gates := rfl
@[simp] theorem State.clocks_updEng (s : State) (e : Nat) (f : Engine → Engine) : (s.updEng e f).clocks = s.clocks := rfl
@[simp] theorem State.st_updEng (s : State) (e : Nat) (f : Engine → Engine) : (s.updEng e f).st = s.st := rfl
@[simp] theorem State.modes_updEng (s : State) (e : Nat) (f : Engine → Engine) : (s.updEng e f).modes = s.modes := rfl
@[simp] theorem State.faults_updEng (s : State) (e : Nat) (f : Engine → Engine) : (s.updEng e f).faults = s.faults := rfl
@[simp] theorem State.alm_updEng (s : State) (e : Nat) (f : Engine → Engine) : (s.updEng e f).alm = s.alm := rfl
@[simp] theorem State.fuses_updEng (s : State) (e : Nat) (f : Engine → Engine) : (s.updEng e f).fuses = s.fuses := rfl
@[simp] theorem State.hl_updEng (s : State) (e : Nat) (f : Engine → Engine) : (s.updEng e f).hl = s.hl := rfl
@[simp] theorem State.tap_updEng (s : State) (e : Nat) (f : Engine → Engine) : (s.updEng e f).tap = s.tap := rfl
@[simp] theorem State.free_updEng (s : State) (e : Nat) (f : Engine → Engine) : (s.updEng e f).free = s.free := rfl
@[simp] theorem State.fresh_updEng (s : State) (e : Nat) (f : Engine → Engine) : (s.updEng e f).fresh = s.fresh := rfl
@[simp] theorem State.pending_updMc (s : State) (c : Nat) (f : Mc → Mc) : (s.updMc c f).pending = s.pending := rfl
@[simp] theorem State.csr_updMc (s : State) (c : Nat) (f : Mc → Mc) : (s.updMc c f).csr = s.csr := rfl
@[simp] theorem State.eff_updMc (s : State) (c : Nat) (f : Mc → Mc) : (s.updMc c f).eff = s.eff := rfl
@[simp] theorem State.clk_updMc (s : State) (c : Nat) (f : Mc → Mc) : (s.updMc c f).clk = s.clk := rfl
@[simp] theorem State.pauses_updMc (s : State) (c : Nat) (f : Mc → Mc) : (s.updMc c f).pauses = s.pauses := rfl
@[simp] theorem State.vt_updMc (s : State) (c : Nat) (f : Mc → Mc) : (s.updMc c f).vt = s.vt := rfl
@[simp] theorem State.img_updMc (s : State) (c : Nat) (f : Mc → Mc) : (s.updMc c f).img = s.img := rfl
@[simp] theorem State.dram_updMc (s : State) (c : Nat) (f : Mc → Mc) : (s.updMc c f).dram = s.dram := rfl
@[simp] theorem State.masks_updMc (s : State) (c : Nat) (f : Mc → Mc) : (s.updMc c f).masks = s.masks := rfl
@[simp] theorem State.filled_updMc (s : State) (c : Nat) (f : Mc → Mc) : (s.updMc c f).filled = s.filled := rfl
@[simp] theorem State.engs_updMc (s : State) (c : Nat) (f : Mc → Mc) : (s.updMc c f).engs = s.engs := rfl
@[simp] theorem State.caps_updMc (s : State) (c : Nat) (f : Mc → Mc) : (s.updMc c f).caps = s.caps := rfl
@[simp] theorem State.lanes_updMc (s : State) (c : Nat) (f : Mc → Mc) : (s.updMc c f).lanes = s.lanes := rfl
@[simp] theorem State.bw_updMc (s : State) (c : Nat) (f : Mc → Mc) : (s.updMc c f).bw = s.bw := rfl
@[simp] theorem State.pins_updMc (s : State) (c : Nat) (f : Mc → Mc) : (s.updMc c f).pins = s.pins := rfl
@[simp] theorem State.gates_updMc (s : State) (c : Nat) (f : Mc → Mc) : (s.updMc c f).gates = s.gates := rfl
@[simp] theorem State.clocks_updMc (s : State) (c : Nat) (f : Mc → Mc) : (s.updMc c f).clocks = s.clocks := rfl
@[simp] theorem State.st_updMc (s : State) (c : Nat) (f : Mc → Mc) : (s.updMc c f).st = s.st := rfl
@[simp] theorem State.modes_updMc (s : State) (c : Nat) (f : Mc → Mc) : (s.updMc c f).modes = s.modes := rfl
@[simp] theorem State.faults_updMc (s : State) (c : Nat) (f : Mc → Mc) : (s.updMc c f).faults = s.faults := rfl
@[simp] theorem State.alm_updMc (s : State) (c : Nat) (f : Mc → Mc) : (s.updMc c f).alm = s.alm := rfl
@[simp] theorem State.fuses_updMc (s : State) (c : Nat) (f : Mc → Mc) : (s.updMc c f).fuses = s.fuses := rfl
@[simp] theorem State.hl_updMc (s : State) (c : Nat) (f : Mc → Mc) : (s.updMc c f).hl = s.hl := rfl
@[simp] theorem State.tap_updMc (s : State) (c : Nat) (f : Mc → Mc) : (s.updMc c f).tap = s.tap := rfl
@[simp] theorem State.free_updMc (s : State) (c : Nat) (f : Mc → Mc) : (s.updMc c f).free = s.free := rfl
@[simp] theorem State.fresh_updMc (s : State) (c : Nat) (f : Mc → Mc) : (s.updMc c f).fresh = s.fresh := rfl
@[simp] theorem State.pending_event (s : State) (c u d a : Nat) : (s.event c u d a).pending = s.pending := by
  unfold State.event; dsimp only; split <;> simp only [State.pending_put, State.pending_inc]
@[simp] theorem State.eff_event (s : State) (c u d a : Nat) : (s.event c u d a).eff = s.eff := by
  unfold State.event; dsimp only; split <;> simp only [State.eff_put, State.eff_inc]
@[simp] theorem State.clk_event (s : State) (c u d a : Nat) : (s.event c u d a).clk = s.clk := by
  unfold State.event; dsimp only; split <;> simp only [State.clk_put, State.clk_inc]
@[simp] theorem State.pauses_event (s : State) (c u d a : Nat) : (s.event c u d a).pauses = s.pauses := by
  unfold State.event; dsimp only; split <;> simp only [State.pauses_put, State.pauses_inc]
@[simp] theorem State.vt_event (s : State) (c u d a : Nat) : (s.event c u d a).vt = s.vt := by
  unfold State.event; dsimp only; split <;> simp only [State.vt_put, State.vt_inc]
@[simp] theorem State.img_event (s : State) (c u d a : Nat) : (s.event c u d a).img = s.img := by
  unfold State.event; dsimp only; split <;> simp only [State.img_put, State.img_inc]
@[simp] theorem State.dram_event (s : State) (c u d a : Nat) : (s.event c u d a).dram = s.dram := by
  unfold State.event; dsimp only; split <;> simp only [State.dram_put, State.dram_inc]
@[simp] theorem State.masks_event (s : State) (c u d a : Nat) : (s.event c u d a).masks = s.masks := by
  unfold State.event; dsimp only; split <;> simp only [State.masks_put, State.masks_inc]
@[simp] theorem State.filled_event (s : State) (c u d a : Nat) : (s.event c u d a).filled = s.filled := by
  unfold State.event; dsimp only; split <;> simp only [State.filled_put, State.filled_inc]
@[simp] theorem State.engs_event (s : State) (c u d a : Nat) : (s.event c u d a).engs = s.engs := by
  unfold State.event; dsimp only; split <;> simp only [State.engs_put, State.engs_inc]
@[simp] theorem State.mcs_event (s : State) (c u d a : Nat) : (s.event c u d a).mcs = s.mcs := by
  unfold State.event; dsimp only; split <;> simp only [State.mcs_put, State.mcs_inc]
@[simp] theorem State.caps_event (s : State) (c u d a : Nat) : (s.event c u d a).caps = s.caps := by
  unfold State.event; dsimp only; split <;> simp only [State.caps_put, State.caps_inc]
@[simp] theorem State.lanes_event (s : State) (c u d a : Nat) : (s.event c u d a).lanes = s.lanes := by
  unfold State.event; dsimp only; split <;> simp only [State.lanes_put, State.lanes_inc]
@[simp] theorem State.bw_event (s : State) (c u d a : Nat) : (s.event c u d a).bw = s.bw := by
  unfold State.event; dsimp only; split <;> simp only [State.bw_put, State.bw_inc]
@[simp] theorem State.pins_event (s : State) (c u d a : Nat) : (s.event c u d a).pins = s.pins := by
  unfold State.event; dsimp only; split <;> simp only [State.pins_put, State.pins_inc]
@[simp] theorem State.gates_event (s : State) (c u d a : Nat) : (s.event c u d a).gates = s.gates := by
  unfold State.event; dsimp only; split <;> simp only [State.gates_put, State.gates_inc]
@[simp] theorem State.clocks_event (s : State) (c u d a : Nat) : (s.event c u d a).clocks = s.clocks := by
  unfold State.event; dsimp only; split <;> simp only [State.clocks_put, State.clocks_inc]
@[simp] theorem State.st_event (s : State) (c u d a : Nat) : (s.event c u d a).st = s.st := by
  unfold State.event; dsimp only; split <;> simp only [State.st_put, State.st_inc]
@[simp] theorem State.modes_event (s : State) (c u d a : Nat) : (s.event c u d a).modes = s.modes := by
  unfold State.event; dsimp only; split <;> simp only [State.modes_put, State.modes_inc]
@[simp] theorem State.faults_event (s : State) (c u d a : Nat) : (s.event c u d a).faults = s.faults := by
  unfold State.event; dsimp only; split <;> simp only [State.faults_put, State.faults_inc]
@[simp] theorem State.alm_event (s : State) (c u d a : Nat) : (s.event c u d a).alm = s.alm := by
  unfold State.event; dsimp only; split <;> simp only [State.alm_put, State.alm_inc]
@[simp] theorem State.fuses_event (s : State) (c u d a : Nat) : (s.event c u d a).fuses = s.fuses := by
  unfold State.event; dsimp only; split <;> simp only [State.fuses_put, State.fuses_inc]
@[simp] theorem State.tap_event (s : State) (c u d a : Nat) : (s.event c u d a).tap = s.tap := by
  unfold State.event; dsimp only; split <;> simp only [State.tap_put, State.tap_inc]
@[simp] theorem State.free_event (s : State) (c u d a : Nat) : (s.event c u d a).free = s.free := by
  unfold State.event; dsimp only; split <;> simp only [State.free_put, State.free_inc]
/-- A field update changes the register file and what the FCLK cycle has brought, nothing else. -/
theorem State.add_frame (s : State) (g : Fld) (n : Nat) :
    ∃ c r, s.add g n = { s with csr := c, fresh := r } := ⟨_, _, rfl⟩
theorem State.inc_frame (s : State) (g : Fld) : ∃ c r, s.inc g = { s with csr := c, fresh := r } := ⟨_, _, rfl⟩
theorem State.on_frame (s : State) (g : Fld) : ∃ c r, s.on g = { s with csr := c, fresh := r } := ⟨_, _, rfl⟩
theorem State.put_frame (s : State) (g : Fld) (v : Nat) : ∃ c, s.put g v = { s with csr := c } := ⟨_, rfl⟩

/-- A message that finds its queue full changes the collector and the registers, nothing else (R366). -/
theorem State.overrun_frame (s : State) (m : Msg) :
    ∃ f c r, s.overrun m = { s with faults := f, csr := c, fresh := r } := by
  unfold State.overrun State.noteUnit
  dsimp only
  obtain ⟨c1, r1, h1⟩ := State.on_frame s (FAULT_UNIT_SEEN m.src)
  rw [h1]
  obtain ⟨c2, h2⟩ := State.put_frame { s with csr := c1, fresh := r1 } (FAULT_UNIT_LAST_KIND m.src) m.kind
  rw [h2]
  obtain ⟨c3, r3, h3⟩ := State.inc_frame { s with csr := c2, fresh := r1 } (FAULT_KIND_COUNT m.kind)
  rw [h3]
  obtain ⟨c4, r4, h4⟩ := State.inc_frame { s with csr := c3, fresh := r3 } FAULT_OVERRUN_COUNT
  rw [h4]
  obtain ⟨c5, r5, h5⟩ := State.on_frame { s with csr := c4, fresh := r4 } FAULT_STATUS_OVERRUN
  rw [h5]
  obtain ⟨c6, r6, h6⟩ := State.inc_frame { s with csr := c5, fresh := r5 } FAULT_COUNT_TOTAL
  rw [h6]
  exact ⟨_, _, _, rfl⟩

/-- A fault message changes the collector and the registers, nothing else (R366). -/
theorem State.raise_frame (s : State) (m : Msg) :
    ∃ f c r, s.raise m = { s with faults := f, csr := c, fresh := r } := by
  unfold State.raise
  dsimp only
  split
  · split
    · split
      · exact ⟨_, s.csr, s.fresh, rfl⟩
      · exact State.overrun_frame s m
    · exact ⟨s.faults, s.csr, s.fresh, rfl⟩
  · split
    · exact ⟨_, s.csr, s.fresh, rfl⟩
    · exact State.overrun_frame s m

@[simp] theorem State.pending_overrun (s : State) (m : Msg) : (s.overrun m).pending = s.pending := by
  obtain ⟨f, c, r, h⟩ := State.overrun_frame s m; rw [h]
@[simp] theorem State.eff_overrun (s : State) (m : Msg) : (s.overrun m).eff = s.eff := by
  obtain ⟨f, c, r, h⟩ := State.overrun_frame s m; rw [h]
@[simp] theorem State.clk_overrun (s : State) (m : Msg) : (s.overrun m).clk = s.clk := by
  obtain ⟨f, c, r, h⟩ := State.overrun_frame s m; rw [h]
@[simp] theorem State.pauses_overrun (s : State) (m : Msg) : (s.overrun m).pauses = s.pauses := by
  obtain ⟨f, c, r, h⟩ := State.overrun_frame s m; rw [h]
@[simp] theorem State.vt_overrun (s : State) (m : Msg) : (s.overrun m).vt = s.vt := by
  obtain ⟨f, c, r, h⟩ := State.overrun_frame s m; rw [h]
@[simp] theorem State.img_overrun (s : State) (m : Msg) : (s.overrun m).img = s.img := by
  obtain ⟨f, c, r, h⟩ := State.overrun_frame s m; rw [h]
@[simp] theorem State.dram_overrun (s : State) (m : Msg) : (s.overrun m).dram = s.dram := by
  obtain ⟨f, c, r, h⟩ := State.overrun_frame s m; rw [h]
@[simp] theorem State.masks_overrun (s : State) (m : Msg) : (s.overrun m).masks = s.masks := by
  obtain ⟨f, c, r, h⟩ := State.overrun_frame s m; rw [h]
@[simp] theorem State.filled_overrun (s : State) (m : Msg) : (s.overrun m).filled = s.filled := by
  obtain ⟨f, c, r, h⟩ := State.overrun_frame s m; rw [h]
@[simp] theorem State.engs_overrun (s : State) (m : Msg) : (s.overrun m).engs = s.engs := by
  obtain ⟨f, c, r, h⟩ := State.overrun_frame s m; rw [h]
@[simp] theorem State.mcs_overrun (s : State) (m : Msg) : (s.overrun m).mcs = s.mcs := by
  obtain ⟨f, c, r, h⟩ := State.overrun_frame s m; rw [h]
@[simp] theorem State.caps_overrun (s : State) (m : Msg) : (s.overrun m).caps = s.caps := by
  obtain ⟨f, c, r, h⟩ := State.overrun_frame s m; rw [h]
@[simp] theorem State.lanes_overrun (s : State) (m : Msg) : (s.overrun m).lanes = s.lanes := by
  obtain ⟨f, c, r, h⟩ := State.overrun_frame s m; rw [h]
@[simp] theorem State.bw_overrun (s : State) (m : Msg) : (s.overrun m).bw = s.bw := by
  obtain ⟨f, c, r, h⟩ := State.overrun_frame s m; rw [h]
@[simp] theorem State.pins_overrun (s : State) (m : Msg) : (s.overrun m).pins = s.pins := by
  obtain ⟨f, c, r, h⟩ := State.overrun_frame s m; rw [h]
@[simp] theorem State.gates_overrun (s : State) (m : Msg) : (s.overrun m).gates = s.gates := by
  obtain ⟨f, c, r, h⟩ := State.overrun_frame s m; rw [h]
@[simp] theorem State.clocks_overrun (s : State) (m : Msg) : (s.overrun m).clocks = s.clocks := by
  obtain ⟨f, c, r, h⟩ := State.overrun_frame s m; rw [h]
@[simp] theorem State.st_overrun (s : State) (m : Msg) : (s.overrun m).st = s.st := by
  obtain ⟨f, c, r, h⟩ := State.overrun_frame s m; rw [h]
@[simp] theorem State.modes_overrun (s : State) (m : Msg) : (s.overrun m).modes = s.modes := by
  obtain ⟨f, c, r, h⟩ := State.overrun_frame s m; rw [h]
@[simp] theorem State.alm_overrun (s : State) (m : Msg) : (s.overrun m).alm = s.alm := by
  obtain ⟨f, c, r, h⟩ := State.overrun_frame s m; rw [h]
@[simp] theorem State.fuses_overrun (s : State) (m : Msg) : (s.overrun m).fuses = s.fuses := by
  obtain ⟨f, c, r, h⟩ := State.overrun_frame s m; rw [h]
@[simp] theorem State.hl_overrun (s : State) (m : Msg) : (s.overrun m).hl = s.hl := by
  obtain ⟨f, c, r, h⟩ := State.overrun_frame s m; rw [h]
@[simp] theorem State.tap_overrun (s : State) (m : Msg) : (s.overrun m).tap = s.tap := by
  obtain ⟨f, c, r, h⟩ := State.overrun_frame s m; rw [h]
@[simp] theorem State.free_overrun (s : State) (m : Msg) : (s.overrun m).free = s.free := by
  obtain ⟨f, c, r, h⟩ := State.overrun_frame s m; rw [h]
@[simp] theorem State.pending_raise (s : State) (m : Msg) : (s.raise m).pending = s.pending := by
  obtain ⟨f, c, r, h⟩ := State.raise_frame s m; rw [h]
@[simp] theorem State.eff_raise (s : State) (m : Msg) : (s.raise m).eff = s.eff := by
  obtain ⟨f, c, r, h⟩ := State.raise_frame s m; rw [h]
@[simp] theorem State.clk_raise (s : State) (m : Msg) : (s.raise m).clk = s.clk := by
  obtain ⟨f, c, r, h⟩ := State.raise_frame s m; rw [h]
@[simp] theorem State.pauses_raise (s : State) (m : Msg) : (s.raise m).pauses = s.pauses := by
  obtain ⟨f, c, r, h⟩ := State.raise_frame s m; rw [h]
@[simp] theorem State.vt_raise (s : State) (m : Msg) : (s.raise m).vt = s.vt := by
  obtain ⟨f, c, r, h⟩ := State.raise_frame s m; rw [h]
@[simp] theorem State.img_raise (s : State) (m : Msg) : (s.raise m).img = s.img := by
  obtain ⟨f, c, r, h⟩ := State.raise_frame s m; rw [h]
@[simp] theorem State.dram_raise (s : State) (m : Msg) : (s.raise m).dram = s.dram := by
  obtain ⟨f, c, r, h⟩ := State.raise_frame s m; rw [h]
@[simp] theorem State.masks_raise (s : State) (m : Msg) : (s.raise m).masks = s.masks := by
  obtain ⟨f, c, r, h⟩ := State.raise_frame s m; rw [h]
@[simp] theorem State.filled_raise (s : State) (m : Msg) : (s.raise m).filled = s.filled := by
  obtain ⟨f, c, r, h⟩ := State.raise_frame s m; rw [h]
@[simp] theorem State.engs_raise (s : State) (m : Msg) : (s.raise m).engs = s.engs := by
  obtain ⟨f, c, r, h⟩ := State.raise_frame s m; rw [h]
@[simp] theorem State.mcs_raise (s : State) (m : Msg) : (s.raise m).mcs = s.mcs := by
  obtain ⟨f, c, r, h⟩ := State.raise_frame s m; rw [h]
@[simp] theorem State.caps_raise (s : State) (m : Msg) : (s.raise m).caps = s.caps := by
  obtain ⟨f, c, r, h⟩ := State.raise_frame s m; rw [h]
@[simp] theorem State.lanes_raise (s : State) (m : Msg) : (s.raise m).lanes = s.lanes := by
  obtain ⟨f, c, r, h⟩ := State.raise_frame s m; rw [h]
@[simp] theorem State.bw_raise (s : State) (m : Msg) : (s.raise m).bw = s.bw := by
  obtain ⟨f, c, r, h⟩ := State.raise_frame s m; rw [h]
@[simp] theorem State.pins_raise (s : State) (m : Msg) : (s.raise m).pins = s.pins := by
  obtain ⟨f, c, r, h⟩ := State.raise_frame s m; rw [h]
@[simp] theorem State.gates_raise (s : State) (m : Msg) : (s.raise m).gates = s.gates := by
  obtain ⟨f, c, r, h⟩ := State.raise_frame s m; rw [h]
@[simp] theorem State.clocks_raise (s : State) (m : Msg) : (s.raise m).clocks = s.clocks := by
  obtain ⟨f, c, r, h⟩ := State.raise_frame s m; rw [h]
@[simp] theorem State.st_raise (s : State) (m : Msg) : (s.raise m).st = s.st := by
  obtain ⟨f, c, r, h⟩ := State.raise_frame s m; rw [h]
@[simp] theorem State.modes_raise (s : State) (m : Msg) : (s.raise m).modes = s.modes := by
  obtain ⟨f, c, r, h⟩ := State.raise_frame s m; rw [h]
@[simp] theorem State.alm_raise (s : State) (m : Msg) : (s.raise m).alm = s.alm := by
  obtain ⟨f, c, r, h⟩ := State.raise_frame s m; rw [h]
@[simp] theorem State.fuses_raise (s : State) (m : Msg) : (s.raise m).fuses = s.fuses := by
  obtain ⟨f, c, r, h⟩ := State.raise_frame s m; rw [h]
@[simp] theorem State.hl_raise (s : State) (m : Msg) : (s.raise m).hl = s.hl := by
  obtain ⟨f, c, r, h⟩ := State.raise_frame s m; rw [h]
@[simp] theorem State.tap_raise (s : State) (m : Msg) : (s.raise m).tap = s.tap := by
  obtain ⟨f, c, r, h⟩ := State.raise_frame s m; rw [h]
@[simp] theorem State.free_raise (s : State) (m : Msg) : (s.raise m).free = s.free := by
  obtain ⟨f, c, r, h⟩ := State.raise_frame s m; rw [h]

/-! The named field updates are writes of a value. -/

theorem State.on_eq (s : State) (f : Fld) : s.on f = (s.noteEvent f fun _ => 1).put f 1 := rfl
theorem State.off_eq (s : State) (f : Fld) : s.off f = s.put f 0 := rfl
theorem State.putb_eq (s : State) (f : Fld) (b : Bool) : s.putb f b = s.put f (b2n b) := rfl
theorem State.puti_eq (s : State) (f : Fld) (v : Int) : s.puti f v = s.put f (ofInt f.w v) := rfl
theorem State.add_eq (s : State) (f : Fld) (n : Nat) :
    s.add f n = (s.noteEvent f fun m => satAdd f.w m n).put f (satAdd f.w (s.rd f) n) := rfl
theorem State.inc_eq (s : State) (f : Fld) : s.inc f = s.add f 1 := rfl
theorem State.peak_eq (s : State) (f : Fld) (v : Nat) :
    s.peak f v = (s.noteEvent f fun m => max m (min v (2 ^ f.w - 1))).put f (max (s.rd f) (min v (2 ^ f.w - 1))) := rfl
theorem State.incMod_eq (s : State) (f : Fld) : s.incMod f = s.put f (s.rd f + 1) := rfl
theorem State.when_true (s : State) (f : State → State) : s.when true f = f s := rfl
theorem State.when_false (s : State) (f : State → State) : s.when false f = s := rfl

/-! Registers. The register file is canonical in every state that a step reaches from a canonical one. -/

theorem State.reg_setReg {s : State} (h : s.regsOk) (a : Nat) (w : Word) (b : Nat) :
    (s.setReg a w).reg b = if b = a then w else s.reg b := cget_cput h a w b

theorem State.regsOk_setReg {s : State} (h : s.regsOk) (a : Nat) (w : Word) : (s.setReg a w).regsOk :=
  cwf_cput h a w

theorem State.regsOk_put {s : State} (h : s.regsOk) (f : Fld) (v : Nat) : (s.put f v).regsOk := cwf_cput h _ _

theorem State.effReg_setEff {s : State} (h : cwf csrReset s.eff = true) (a : Nat) (w : Word) (b : Nat) :
    (s.setEff a w).effReg b = if b = a then w else s.effReg b := cget_cput h a w b

theorem State.reg_put_ne {s : State} (h : s.regsOk) (f : Fld) (v a : Nat) (ha : a ≠ f.addr) :
    (s.put f v).reg a = s.reg a := by
  rw [State.put, State.reg_setReg h, if_neg ha]

/-- A field reads what was put into it. -/
theorem State.rd_put_same {s : State} (h : s.regsOk) (f : Fld) (v : Nat) (hf : f.lo + f.w ≤ 32) :
    (s.put f v).rd f = v % 2 ^ f.w := by
  rw [State.rd, State.put, State.reg_setReg h, if_pos rfl, BitVec.toNat_ofNat, bits_mod _ _ _ _ hf, bits_putBits]

/-- A field of another register, or beside the one written, keeps its value. -/
theorem State.rd_put_ne {s : State} (h : s.regsOk) (f g : Fld) (v : Nat) (hg : g.lo + g.w ≤ 32)
    (hd : g.addr ≠ f.addr ∨ g.lo + g.w ≤ f.lo ∨ f.lo + f.w ≤ g.lo) : (s.put f v).rd g = s.rd g := by
  by_cases ha : g.addr = f.addr
  · rw [State.rd, State.put, State.reg_setReg h, if_pos ha, BitVec.toNat_ofNat, bits_mod _ _ _ _ hg,
      bits_putBits_ne _ _ _ _ _ _ (by rcases hd with hd | hd | hd <;> omega), State.rd, ha]
  · rw [State.rd, State.reg_put_ne h _ _ _ ha, State.rd]

/-! `Shows a w`: the register file is canonical and register a holds w. Every update of another register keeps it, so
a chain of updates is walked by applying these lemmas from the outside in. -/

/-- The register file is canonical and the register at a holds w. -/
def State.Shows (s : State) (a : Nat) (w : Word) : Prop := s.regsOk ∧ s.reg a = w

theorem State.Shows.of_csr {s t : State} {a : Nat} {w : Word} (h : s.Shows a w) (ht : t.csr = s.csr) :
    t.Shows a w := by
  unfold State.Shows State.reg State.regsOk at *
  rw [ht]; exact h

theorem State.Shows.put {s : State} {a : Nat} {w : Word} (h : s.Shows a w) {f : Fld} (hf : a ≠ f.addr) (v : Nat) :
    (s.put f v).Shows a w := ⟨State.regsOk_put h.1 f v, (State.reg_put_ne h.1 f v a hf).trans h.2⟩

theorem State.Shows.setReg {s : State} {a : Nat} {w : Word} (h : s.Shows a w) {b : Nat} (hb : a ≠ b) (v : Word) :
    (s.setReg b v).Shows a w :=
  ⟨State.regsOk_setReg h.1 b v, (State.reg_setReg h.1 b v a).trans ((if_neg hb).trans h.2)⟩

theorem State.Shows.on {s : State} {a : Nat} {w : Word} (h : s.Shows a w) {f : Fld} (hf : a ≠ f.addr) :
    (s.on f).Shows a w := (h.of_csr (t := s.noteEvent f fun _ => 1) (State.csr_noteEvent _ _ _)).put hf 1

theorem State.Shows.off {s : State} {a : Nat} {w : Word} (h : s.Shows a w) {f : Fld} (hf : a ≠ f.addr) :
    (s.off f).Shows a w := h.put hf 0

theorem State.Shows.putb {s : State} {a : Nat} {w : Word} (h : s.Shows a w) {f : Fld} (hf : a ≠ f.addr) (b : Bool) :
    (s.putb f b).Shows a w := h.put hf _

theorem State.Shows.add {s : State} {a : Nat} {w : Word} (h : s.Shows a w) {f : Fld} (hf : a ≠ f.addr) (n : Nat) :
    (s.add f n).Shows a w := (h.of_csr (t := s.noteEvent f fun m => satAdd f.w m n) (State.csr_noteEvent _ _ _)).put hf _

theorem State.Shows.inc {s : State} {a : Nat} {w : Word} (h : s.Shows a w) {f : Fld} (hf : a ≠ f.addr) :
    (s.inc f).Shows a w := h.add hf 1

theorem State.Shows.incMod {s : State} {a : Nat} {w : Word} (h : s.Shows a w) {f : Fld} (hf : a ≠ f.addr) :
    (s.incMod f).Shows a w := h.put hf _

/-- A message that finds its queue full changes the collector's counts (R366) and its unit's record (R376). -/
theorem State.Shows.overrun {s : State} {a : Nat} {w : Word} (h : s.Shows a w) (m : Msg)
    (h1 : a ≠ (FAULT_UNIT_SEEN m.src).addr) (h2 : a ≠ (FAULT_UNIT_LAST_KIND m.src).addr)
    (h3 : a ≠ (FAULT_KIND_COUNT m.kind).addr) (h4 : a ≠ FAULT_OVERRUN_COUNT.addr)
    (h5 : a ≠ FAULT_STATUS_OVERRUN.addr) (h6 : a ≠ FAULT_COUNT_TOTAL.addr) : (s.overrun m).Shows a w := by
  have k := ((((((h.on h1).put h2 m.kind).inc h3).inc h4).on h5).inc h6)
  unfold State.overrun State.noteUnit
  exact k.of_csr rfl

theorem State.regsOk_of_csr {s t : State} (h : s.regsOk) (ht : t.csr = s.csr) : t.regsOk := by
  unfold State.regsOk at *
  rw [ht]; exact h

theorem State.regsOk_faults {s : State} (h : s.regsOk) (f : FaultUnit) : State.regsOk { s with faults := f } := h

theorem State.regsOk_on {s : State} (h : s.regsOk) (f : Fld) : (s.on f).regsOk :=
  State.regsOk_put (State.regsOk_of_csr h (State.csr_noteEvent s f fun _ => 1)) f 1

theorem State.regsOk_add {s : State} (h : s.regsOk) (f : Fld) (n : Nat) : (s.add f n).regsOk :=
  State.regsOk_put (State.regsOk_of_csr h (State.csr_noteEvent s f fun m => satAdd f.w m n)) f _

theorem State.regsOk_event {s : State} (h : s.regsOk) (c u d a : Nat) : (s.event c u d a).regsOk := by
  unfold State.event
  dsimp only
  split
  · exact State.regsOk_put (State.regsOk_of_csr h rfl) _ _
  · exact State.regsOk_add (State.regsOk_of_csr h rfl) _ _

/-- An event changes two registers at most: the queue's depth and the count of lost events (R289). -/
theorem State.reg_event {s : State} (h : s.regsOk) (c u d a b : Nat) (h1 : b ≠ HLINK_EVQ_DEPTH.addr)
    (h2 : b ≠ HLINK_EVQ_LOST.addr) : (s.event c u d a).reg b = s.reg b := by
  unfold State.event
  dsimp only
  split
  · exact State.reg_put_ne (State.regsOk_of_csr (s := s) h rfl) _ _ _ h1
  · exact (State.Shows.inc (s := { s with hl := { s.hl with evSeq := s.hl.evSeq + 1, evLost := true } })
      ⟨State.regsOk_of_csr h rfl, rfl⟩ h2).2

theorem State.regsOk_overrun {s : State} (h : s.regsOk) (m : Msg) : (s.overrun m).regsOk := by
  unfold State.overrun State.noteUnit
  refine State.regsOk_faults ?_ _
  exact State.regsOk_add (State.regsOk_on (State.regsOk_add (State.regsOk_add
    (State.regsOk_put (State.regsOk_on h _) _ _) _ _) _ _) _) _ _

theorem State.regsOk_raise {s : State} (h : s.regsOk) (m : Msg) : (s.raise m).regsOk := by
  unfold State.raise
  dsimp only
  split
  · split
    · split
      · exact State.regsOk_of_csr h rfl
      · exact State.regsOk_overrun h _
    · exact h
  · split
    · exact State.regsOk_of_csr h rfl
    · exact State.regsOk_overrun h _

/-! Engines and channel controllers -/

@[simp] theorem State.eng_put (s : State) (f : Fld) (v e : Nat) : (s.put f v).eng e = s.eng e := rfl
@[simp] theorem State.eng_setReg (s : State) (a : Nat) (w : Word) (e : Nat) : (s.setReg a w).eng e = s.eng e := rfl
@[simp] theorem State.mc_put (s : State) (f : Fld) (v c : Nat) : (s.put f v).mc c = s.mc c := rfl
@[simp] theorem State.mc_setReg (s : State) (a : Nat) (w : Word) (c : Nat) : (s.setReg a w).mc c = s.mc c := rfl
@[simp] theorem State.reg_updEng (s : State) (e : Nat) (f : Engine → Engine) (a : Nat) :
    (s.updEng e f).reg a = s.reg a := rfl
@[simp] theorem State.reg_updMc (s : State) (c : Nat) (f : Mc → Mc) (a : Nat) : (s.updMc c f).reg a = s.reg a := rfl
@[simp] theorem State.rd_updEng (s : State) (e : Nat) (f : Engine → Engine) (g : Fld) :
    (s.updEng e f).rd g = s.rd g := rfl
@[simp] theorem State.rd_updMc (s : State) (c : Nat) (f : Mc → Mc) (g : Fld) : (s.updMc c f).rd g = s.rd g := rfl

theorem State.eng_updEng (s : State) (e e' : Nat) (f : Engine → Engine) (he : e < 72) :
    (s.updEng e f).eng e' = if e' = e then f (s.eng e) else s.eng e' := by
  unfold State.eng State.updEng
  simp only [Vector.getD, State.eng]
  by_cases h : e' = e
  · subst h; simp [he]
  · by_cases h2 : e' < 72
    · simp [h, h2, Ne.symm h]
    · simp [h, h2]

theorem State.mc_updMc (s : State) (c c' : Nat) (f : Mc → Mc) (hc : c < 34) :
    (s.updMc c f).mc c' = if c' = c then f (s.mc c) else s.mc c' := by
  unfold State.mc State.updMc
  simp only [Vector.getD, State.mc]
  by_cases h : c' = c
  · subst h; simp [hc]
  · by_cases h2 : c' < 34
    · simp [h, h2, Ne.symm h]
    · simp [h, h2]

end Sys2Proof.Machine
end

