-- ==== Sys2Proof/Laws/Updates.lean ====
section
/-! SUPPORT. Laws of the units' own updates: each changes its unit alone; a command to a clocked block has its effect, one to
a gated block has none (R331). -/
namespace Sys2Proof.Machine
open Csr

@[simp] theorem State.pending_updAlm (s : State) (f : AlmUnit → AlmUnit) : (s.updAlm f).pending = s.pending := rfl
@[simp] theorem State.csr_updAlm (s : State) (f : AlmUnit → AlmUnit) : (s.updAlm f).csr = s.csr := rfl
@[simp] theorem State.eff_updAlm (s : State) (f : AlmUnit → AlmUnit) : (s.updAlm f).eff = s.eff := rfl
@[simp] theorem State.clk_updAlm (s : State) (f : AlmUnit → AlmUnit) : (s.updAlm f).clk = s.clk := rfl
@[simp] theorem State.pauses_updAlm (s : State) (f : AlmUnit → AlmUnit) : (s.updAlm f).pauses = s.pauses := rfl
@[simp] theorem State.vt_updAlm (s : State) (f : AlmUnit → AlmUnit) : (s.updAlm f).vt = s.vt := rfl
@[simp] theorem State.img_updAlm (s : State) (f : AlmUnit → AlmUnit) : (s.updAlm f).img = s.img := rfl
@[simp] theorem State.dram_updAlm (s : State) (f : AlmUnit → AlmUnit) : (s.updAlm f).dram = s.dram := rfl
@[simp] theorem State.masks_updAlm (s : State) (f : AlmUnit → AlmUnit) : (s.updAlm f).masks = s.masks := rfl
@[simp] theorem State.filled_updAlm (s : State) (f : AlmUnit → AlmUnit) : (s.updAlm f).filled = s.filled := rfl
@[simp] theorem State.engs_updAlm (s : State) (f : AlmUnit → AlmUnit) : (s.updAlm f).engs = s.engs := rfl
@[simp] theorem State.mcs_updAlm (s : State) (f : AlmUnit → AlmUnit) : (s.updAlm f).mcs = s.mcs := rfl
@[simp] theorem State.caps_updAlm (s : State) (f : AlmUnit → AlmUnit) : (s.updAlm f).caps = s.caps := rfl
@[simp] theorem State.lanes_updAlm (s : State) (f : AlmUnit → AlmUnit) : (s.updAlm f).lanes = s.lanes := rfl
@[simp] theorem State.bw_updAlm (s : State) (f : AlmUnit → AlmUnit) : (s.updAlm f).bw = s.bw := rfl
@[simp] theorem State.pins_updAlm (s : State) (f : AlmUnit → AlmUnit) : (s.updAlm f).pins = s.pins := rfl
@[simp] theorem State.gates_updAlm (s : State) (f : AlmUnit → AlmUnit) : (s.updAlm f).gates = s.gates := rfl
@[simp] theorem State.clocks_updAlm (s : State) (f : AlmUnit → AlmUnit) : (s.updAlm f).clocks = s.clocks := rfl
@[simp] theorem State.st_updAlm (s : State) (f : AlmUnit → AlmUnit) : (s.updAlm f).st = s.st := rfl
@[simp] theorem State.modes_updAlm (s : State) (f : AlmUnit → AlmUnit) : (s.updAlm f).modes = s.modes := rfl
@[simp] theorem State.faults_updAlm (s : State) (f : AlmUnit → AlmUnit) : (s.updAlm f).faults = s.faults := rfl
@[simp] theorem State.alm_updAlm (s : State) (f : AlmUnit → AlmUnit) : (s.updAlm f).alm =
    f s.alm := rfl
@[simp] theorem State.fuses_updAlm (s : State) (f : AlmUnit → AlmUnit) : (s.updAlm f).fuses = s.fuses := rfl
@[simp] theorem State.hl_updAlm (s : State) (f : AlmUnit → AlmUnit) : (s.updAlm f).hl = s.hl := rfl
@[simp] theorem State.tap_updAlm (s : State) (f : AlmUnit → AlmUnit) : (s.updAlm f).tap = s.tap := rfl
@[simp] theorem State.free_updAlm (s : State) (f : AlmUnit → AlmUnit) : (s.updAlm f).free = s.free := rfl
@[simp] theorem State.fresh_updAlm (s : State) (f : AlmUnit → AlmUnit) : (s.updAlm f).fresh = s.fresh := rfl

@[simp] theorem State.pending_updSb (s : State) (f : Sideband → Sideband) : (s.updSb f).pending = s.pending := rfl
@[simp] theorem State.csr_updSb (s : State) (f : Sideband → Sideband) : (s.updSb f).csr = s.csr := rfl
@[simp] theorem State.eff_updSb (s : State) (f : Sideband → Sideband) : (s.updSb f).eff = s.eff := rfl
@[simp] theorem State.clk_updSb (s : State) (f : Sideband → Sideband) : (s.updSb f).clk = s.clk := rfl
@[simp] theorem State.pauses_updSb (s : State) (f : Sideband → Sideband) : (s.updSb f).pauses = s.pauses := rfl
@[simp] theorem State.vt_updSb (s : State) (f : Sideband → Sideband) : (s.updSb f).vt = s.vt := rfl
@[simp] theorem State.img_updSb (s : State) (f : Sideband → Sideband) : (s.updSb f).img = s.img := rfl
@[simp] theorem State.dram_updSb (s : State) (f : Sideband → Sideband) : (s.updSb f).dram = s.dram := rfl
@[simp] theorem State.masks_updSb (s : State) (f : Sideband → Sideband) : (s.updSb f).masks = s.masks := rfl
@[simp] theorem State.filled_updSb (s : State) (f : Sideband → Sideband) : (s.updSb f).filled = s.filled := rfl
@[simp] theorem State.engs_updSb (s : State) (f : Sideband → Sideband) : (s.updSb f).engs = s.engs := rfl
@[simp] theorem State.mcs_updSb (s : State) (f : Sideband → Sideband) : (s.updSb f).mcs = s.mcs := rfl
@[simp] theorem State.caps_updSb (s : State) (f : Sideband → Sideband) : (s.updSb f).caps = s.caps := rfl
@[simp] theorem State.lanes_updSb (s : State) (f : Sideband → Sideband) : (s.updSb f).lanes = s.lanes := rfl
@[simp] theorem State.bw_updSb (s : State) (f : Sideband → Sideband) : (s.updSb f).bw = s.bw := rfl
@[simp] theorem State.pins_updSb (s : State) (f : Sideband → Sideband) : (s.updSb f).pins = s.pins := rfl
@[simp] theorem State.gates_updSb (s : State) (f : Sideband → Sideband) : (s.updSb f).gates = s.gates := rfl
@[simp] theorem State.clocks_updSb (s : State) (f : Sideband → Sideband) : (s.updSb f).clocks = s.clocks := rfl
@[simp] theorem State.st_updSb (s : State) (f : Sideband → Sideband) : (s.updSb f).st = s.st := rfl
@[simp] theorem State.modes_updSb (s : State) (f : Sideband → Sideband) : (s.updSb f).modes = s.modes := rfl
@[simp] theorem State.faults_updSb (s : State) (f : Sideband → Sideband) : (s.updSb f).faults = s.faults := rfl
@[simp] theorem State.alm_updSb (s : State) (f : Sideband → Sideband) : (s.updSb f).alm =
    { s.alm with sb := f s.alm.sb } := rfl
@[simp] theorem State.fuses_updSb (s : State) (f : Sideband → Sideband) : (s.updSb f).fuses = s.fuses := rfl
@[simp] theorem State.hl_updSb (s : State) (f : Sideband → Sideband) : (s.updSb f).hl = s.hl := rfl
@[simp] theorem State.tap_updSb (s : State) (f : Sideband → Sideband) : (s.updSb f).tap = s.tap := rfl
@[simp] theorem State.free_updSb (s : State) (f : Sideband → Sideband) : (s.updSb f).free = s.free := rfl
@[simp] theorem State.fresh_updSb (s : State) (f : Sideband → Sideband) : (s.updSb f).fresh = s.fresh := rfl

@[simp] theorem State.pending_updFaults (s : State) (f : FaultUnit → FaultUnit) : (s.updFaults f).pending = s.pending := rfl
@[simp] theorem State.csr_updFaults (s : State) (f : FaultUnit → FaultUnit) : (s.updFaults f).csr = s.csr := rfl
@[simp] theorem State.eff_updFaults (s : State) (f : FaultUnit → FaultUnit) : (s.updFaults f).eff = s.eff := rfl
@[simp] theorem State.clk_updFaults (s : State) (f : FaultUnit → FaultUnit) : (s.updFaults f).clk = s.clk := rfl
@[simp] theorem State.pauses_updFaults (s : State) (f : FaultUnit → FaultUnit) : (s.updFaults f).pauses = s.pauses := rfl
@[simp] theorem State.vt_updFaults (s : State) (f : FaultUnit → FaultUnit) : (s.updFaults f).vt = s.vt := rfl
@[simp] theorem State.img_updFaults (s : State) (f : FaultUnit → FaultUnit) : (s.updFaults f).img = s.img := rfl
@[simp] theorem State.dram_updFaults (s : State) (f : FaultUnit → FaultUnit) : (s.updFaults f).dram = s.dram := rfl
@[simp] theorem State.masks_updFaults (s : State) (f : FaultUnit → FaultUnit) : (s.updFaults f).masks = s.masks := rfl
@[simp] theorem State.filled_updFaults (s : State) (f : FaultUnit → FaultUnit) : (s.updFaults f).filled = s.filled := rfl
@[simp] theorem State.engs_updFaults (s : State) (f : FaultUnit → FaultUnit) : (s.updFaults f).engs = s.engs := rfl
@[simp] theorem State.mcs_updFaults (s : State) (f : FaultUnit → FaultUnit) : (s.updFaults f).mcs = s.mcs := rfl
@[simp] theorem State.caps_updFaults (s : State) (f : FaultUnit → FaultUnit) : (s.updFaults f).caps = s.caps := rfl
@[simp] theorem State.lanes_updFaults (s : State) (f : FaultUnit → FaultUnit) : (s.updFaults f).lanes = s.lanes := rfl
@[simp] theorem State.bw_updFaults (s : State) (f : FaultUnit → FaultUnit) : (s.updFaults f).bw = s.bw := rfl
@[simp] theorem State.pins_updFaults (s : State) (f : FaultUnit → FaultUnit) : (s.updFaults f).pins = s.pins := rfl
@[simp] theorem State.gates_updFaults (s : State) (f : FaultUnit → FaultUnit) : (s.updFaults f).gates = s.gates := rfl
@[simp] theorem State.clocks_updFaults (s : State) (f : FaultUnit → FaultUnit) : (s.updFaults f).clocks = s.clocks := rfl
@[simp] theorem State.st_updFaults (s : State) (f : FaultUnit → FaultUnit) : (s.updFaults f).st = s.st := rfl
@[simp] theorem State.modes_updFaults (s : State) (f : FaultUnit → FaultUnit) : (s.updFaults f).modes = s.modes := rfl
@[simp] theorem State.faults_updFaults (s : State) (f : FaultUnit → FaultUnit) : (s.updFaults f).faults =
    f s.faults := rfl
@[simp] theorem State.alm_updFaults (s : State) (f : FaultUnit → FaultUnit) : (s.updFaults f).alm = s.alm := rfl
@[simp] theorem State.fuses_updFaults (s : State) (f : FaultUnit → FaultUnit) : (s.updFaults f).fuses = s.fuses := rfl
@[simp] theorem State.hl_updFaults (s : State) (f : FaultUnit → FaultUnit) : (s.updFaults f).hl = s.hl := rfl
@[simp] theorem State.tap_updFaults (s : State) (f : FaultUnit → FaultUnit) : (s.updFaults f).tap = s.tap := rfl
@[simp] theorem State.free_updFaults (s : State) (f : FaultUnit → FaultUnit) : (s.updFaults f).free = s.free := rfl
@[simp] theorem State.fresh_updFaults (s : State) (f : FaultUnit → FaultUnit) : (s.updFaults f).fresh = s.fresh := rfl

@[simp] theorem State.pending_updModes (s : State) (f : ModeUnit → ModeUnit) : (s.updModes f).pending = s.pending := rfl
@[simp] theorem State.csr_updModes (s : State) (f : ModeUnit → ModeUnit) : (s.updModes f).csr = s.csr := rfl
@[simp] theorem State.eff_updModes (s : State) (f : ModeUnit → ModeUnit) : (s.updModes f).eff = s.eff := rfl
@[simp] theorem State.clk_updModes (s : State) (f : ModeUnit → ModeUnit) : (s.updModes f).clk = s.clk := rfl
@[simp] theorem State.pauses_updModes (s : State) (f : ModeUnit → ModeUnit) : (s.updModes f).pauses = s.pauses := rfl
@[simp] theorem State.vt_updModes (s : State) (f : ModeUnit → ModeUnit) : (s.updModes f).vt = s.vt := rfl
@[simp] theorem State.img_updModes (s : State) (f : ModeUnit → ModeUnit) : (s.updModes f).img = s.img := rfl
@[simp] theorem State.dram_updModes (s : State) (f : ModeUnit → ModeUnit) : (s.updModes f).dram = s.dram := rfl
@[simp] theorem State.masks_updModes (s : State) (f : ModeUnit → ModeUnit) : (s.updModes f).masks = s.masks := rfl
@[simp] theorem State.filled_updModes (s : State) (f : ModeUnit → ModeUnit) : (s.updModes f).filled = s.filled := rfl
@[simp] theorem State.engs_updModes (s : State) (f : ModeUnit → ModeUnit) : (s.updModes f).engs = s.engs := rfl
@[simp] theorem State.mcs_updModes (s : State) (f : ModeUnit → ModeUnit) : (s.updModes f).mcs = s.mcs := rfl
@[simp] theorem State.caps_updModes (s : State) (f : ModeUnit → ModeUnit) : (s.updModes f).caps = s.caps := rfl
@[simp] theorem State.lanes_updModes (s : State) (f : ModeUnit → ModeUnit) : (s.updModes f).lanes = s.lanes := rfl
@[simp] theorem State.bw_updModes (s : State) (f : ModeUnit → ModeUnit) : (s.updModes f).bw = s.bw := rfl
@[simp] theorem State.pins_updModes (s : State) (f : ModeUnit → ModeUnit) : (s.updModes f).pins = s.pins := rfl
@[simp] theorem State.gates_updModes (s : State) (f : ModeUnit → ModeUnit) : (s.updModes f).gates = s.gates := rfl
@[simp] theorem State.clocks_updModes (s : State) (f : ModeUnit → ModeUnit) : (s.updModes f).clocks = s.clocks := rfl
@[simp] theorem State.st_updModes (s : State) (f : ModeUnit → ModeUnit) : (s.updModes f).st = s.st := rfl
@[simp] theorem State.modes_updModes (s : State) (f : ModeUnit → ModeUnit) : (s.updModes f).modes =
    f s.modes := rfl
@[simp] theorem State.faults_updModes (s : State) (f : ModeUnit → ModeUnit) : (s.updModes f).faults = s.faults := rfl
@[simp] theorem State.alm_updModes (s : State) (f : ModeUnit → ModeUnit) : (s.updModes f).alm = s.alm := rfl
@[simp] theorem State.fuses_updModes (s : State) (f : ModeUnit → ModeUnit) : (s.updModes f).fuses = s.fuses := rfl
@[simp] theorem State.hl_updModes (s : State) (f : ModeUnit → ModeUnit) : (s.updModes f).hl = s.hl := rfl
@[simp] theorem State.tap_updModes (s : State) (f : ModeUnit → ModeUnit) : (s.updModes f).tap = s.tap := rfl
@[simp] theorem State.free_updModes (s : State) (f : ModeUnit → ModeUnit) : (s.updModes f).free = s.free := rfl
@[simp] theorem State.fresh_updModes (s : State) (f : ModeUnit → ModeUnit) : (s.updModes f).fresh = s.fresh := rfl

@[simp] theorem State.pending_updImg (s : State) (f : ImageUnit → ImageUnit) : (s.updImg f).pending = s.pending := rfl
@[simp] theorem State.csr_updImg (s : State) (f : ImageUnit → ImageUnit) : (s.updImg f).csr = s.csr := rfl
@[simp] theorem State.eff_updImg (s : State) (f : ImageUnit → ImageUnit) : (s.updImg f).eff = s.eff := rfl
@[simp] theorem State.clk_updImg (s : State) (f : ImageUnit → ImageUnit) : (s.updImg f).clk = s.clk := rfl
@[simp] theorem State.pauses_updImg (s : State) (f : ImageUnit → ImageUnit) : (s.updImg f).pauses = s.pauses := rfl
@[simp] theorem State.vt_updImg (s : State) (f : ImageUnit → ImageUnit) : (s.updImg f).vt = s.vt := rfl
@[simp] theorem State.img_updImg (s : State) (f : ImageUnit → ImageUnit) : (s.updImg f).img =
    f s.img := rfl
@[simp] theorem State.dram_updImg (s : State) (f : ImageUnit → ImageUnit) : (s.updImg f).dram = s.dram := rfl
@[simp] theorem State.masks_updImg (s : State) (f : ImageUnit → ImageUnit) : (s.updImg f).masks = s.masks := rfl
@[simp] theorem State.filled_updImg (s : State) (f : ImageUnit → ImageUnit) : (s.updImg f).filled = s.filled := rfl
@[simp] theorem State.engs_updImg (s : State) (f : ImageUnit → ImageUnit) : (s.updImg f).engs = s.engs := rfl
@[simp] theorem State.mcs_updImg (s : State) (f : ImageUnit → ImageUnit) : (s.updImg f).mcs = s.mcs := rfl
@[simp] theorem State.caps_updImg (s : State) (f : ImageUnit → ImageUnit) : (s.updImg f).caps = s.caps := rfl
@[simp] theorem State.lanes_updImg (s : State) (f : ImageUnit → ImageUnit) : (s.updImg f).lanes = s.lanes := rfl
@[simp] theorem State.bw_updImg (s : State) (f : ImageUnit → ImageUnit) : (s.updImg f).bw = s.bw := rfl
@[simp] theorem State.pins_updImg (s : State) (f : ImageUnit → ImageUnit) : (s.updImg f).pins = s.pins := rfl
@[simp] theorem State.gates_updImg (s : State) (f : ImageUnit → ImageUnit) : (s.updImg f).gates = s.gates := rfl
@[simp] theorem State.clocks_updImg (s : State) (f : ImageUnit → ImageUnit) : (s.updImg f).clocks = s.clocks := rfl
@[simp] theorem State.st_updImg (s : State) (f : ImageUnit → ImageUnit) : (s.updImg f).st = s.st := rfl
@[simp] theorem State.modes_updImg (s : State) (f : ImageUnit → ImageUnit) : (s.updImg f).modes = s.modes := rfl
@[simp] theorem State.faults_updImg (s : State) (f : ImageUnit → ImageUnit) : (s.updImg f).faults = s.faults := rfl
@[simp] theorem State.alm_updImg (s : State) (f : ImageUnit → ImageUnit) : (s.updImg f).alm = s.alm := rfl
@[simp] theorem State.fuses_updImg (s : State) (f : ImageUnit → ImageUnit) : (s.updImg f).fuses = s.fuses := rfl
@[simp] theorem State.hl_updImg (s : State) (f : ImageUnit → ImageUnit) : (s.updImg f).hl = s.hl := rfl
@[simp] theorem State.tap_updImg (s : State) (f : ImageUnit → ImageUnit) : (s.updImg f).tap = s.tap := rfl
@[simp] theorem State.free_updImg (s : State) (f : ImageUnit → ImageUnit) : (s.updImg f).free = s.free := rfl
@[simp] theorem State.fresh_updImg (s : State) (f : ImageUnit → ImageUnit) : (s.updImg f).fresh = s.fresh := rfl

@[simp] theorem State.pending_updHl (s : State) (f : Hlink → Hlink) : (s.updHl f).pending = s.pending := rfl
@[simp] theorem State.csr_updHl (s : State) (f : Hlink → Hlink) : (s.updHl f).csr = s.csr := rfl
@[simp] theorem State.eff_updHl (s : State) (f : Hlink → Hlink) : (s.updHl f).eff = s.eff := rfl
@[simp] theorem State.clk_updHl (s : State) (f : Hlink → Hlink) : (s.updHl f).clk = s.clk := rfl
@[simp] theorem State.pauses_updHl (s : State) (f : Hlink → Hlink) : (s.updHl f).pauses = s.pauses := rfl
@[simp] theorem State.vt_updHl (s : State) (f : Hlink → Hlink) : (s.updHl f).vt = s.vt := rfl
@[simp] theorem State.img_updHl (s : State) (f : Hlink → Hlink) : (s.updHl f).img = s.img := rfl
@[simp] theorem State.dram_updHl (s : State) (f : Hlink → Hlink) : (s.updHl f).dram = s.dram := rfl
@[simp] theorem State.masks_updHl (s : State) (f : Hlink → Hlink) : (s.updHl f).masks = s.masks := rfl
@[simp] theorem State.filled_updHl (s : State) (f : Hlink → Hlink) : (s.updHl f).filled = s.filled := rfl
@[simp] theorem State.engs_updHl (s : State) (f : Hlink → Hlink) : (s.updHl f).engs = s.engs := rfl
@[simp] theorem State.mcs_updHl (s : State) (f : Hlink → Hlink) : (s.updHl f).mcs = s.mcs := rfl
@[simp] theorem State.caps_updHl (s : State) (f : Hlink → Hlink) : (s.updHl f).caps = s.caps := rfl
@[simp] theorem State.lanes_updHl (s : State) (f : Hlink → Hlink) : (s.updHl f).lanes = s.lanes := rfl
@[simp] theorem State.bw_updHl (s : State) (f : Hlink → Hlink) : (s.updHl f).bw = s.bw := rfl
@[simp] theorem State.pins_updHl (s : State) (f : Hlink → Hlink) : (s.updHl f).pins = s.pins := rfl
@[simp] theorem State.gates_updHl (s : State) (f : Hlink → Hlink) : (s.updHl f).gates = s.gates := rfl
@[simp] theorem State.clocks_updHl (s : State) (f : Hlink → Hlink) : (s.updHl f).clocks = s.clocks := rfl
@[simp] theorem State.st_updHl (s : State) (f : Hlink → Hlink) : (s.updHl f).st = s.st := rfl
@[simp] theorem State.modes_updHl (s : State) (f : Hlink → Hlink) : (s.updHl f).modes = s.modes := rfl
@[simp] theorem State.faults_updHl (s : State) (f : Hlink → Hlink) : (s.updHl f).faults = s.faults := rfl
@[simp] theorem State.alm_updHl (s : State) (f : Hlink → Hlink) : (s.updHl f).alm = s.alm := rfl
@[simp] theorem State.fuses_updHl (s : State) (f : Hlink → Hlink) : (s.updHl f).fuses = s.fuses := rfl
@[simp] theorem State.hl_updHl (s : State) (f : Hlink → Hlink) : (s.updHl f).hl =
    f s.hl := rfl
@[simp] theorem State.tap_updHl (s : State) (f : Hlink → Hlink) : (s.updHl f).tap = s.tap := rfl
@[simp] theorem State.free_updHl (s : State) (f : Hlink → Hlink) : (s.updHl f).free = s.free := rfl
@[simp] theorem State.fresh_updHl (s : State) (f : Hlink → Hlink) : (s.updHl f).fresh = s.fresh := rfl

@[simp] theorem State.pending_updGates (s : State) (f : GateUnit → GateUnit) : (s.updGates f).pending = s.pending := rfl
@[simp] theorem State.csr_updGates (s : State) (f : GateUnit → GateUnit) : (s.updGates f).csr = s.csr := rfl
@[simp] theorem State.eff_updGates (s : State) (f : GateUnit → GateUnit) : (s.updGates f).eff = s.eff := rfl
@[simp] theorem State.clk_updGates (s : State) (f : GateUnit → GateUnit) : (s.updGates f).clk = s.clk := rfl
@[simp] theorem State.pauses_updGates (s : State) (f : GateUnit → GateUnit) : (s.updGates f).pauses = s.pauses := rfl
@[simp] theorem State.vt_updGates (s : State) (f : GateUnit → GateUnit) : (s.updGates f).vt = s.vt := rfl
@[simp] theorem State.img_updGates (s : State) (f : GateUnit → GateUnit) : (s.updGates f).img = s.img := rfl
@[simp] theorem State.dram_updGates (s : State) (f : GateUnit → GateUnit) : (s.updGates f).dram = s.dram := rfl
@[simp] theorem State.masks_updGates (s : State) (f : GateUnit → GateUnit) : (s.updGates f).masks = s.masks := rfl
@[simp] theorem State.filled_updGates (s : State) (f : GateUnit → GateUnit) : (s.updGates f).filled = s.filled := rfl
@[simp] theorem State.engs_updGates (s : State) (f : GateUnit → GateUnit) : (s.updGates f).engs = s.engs := rfl
@[simp] theorem State.mcs_updGates (s : State) (f : GateUnit → GateUnit) : (s.updGates f).mcs = s.mcs := rfl
@[simp] theorem State.caps_updGates (s : State) (f : GateUnit → GateUnit) : (s.updGates f).caps = s.caps := rfl
@[simp] theorem State.lanes_updGates (s : State) (f : GateUnit → GateUnit) : (s.updGates f).lanes = s.lanes := rfl
@[simp] theorem State.bw_updGates (s : State) (f : GateUnit → GateUnit) : (s.updGates f).bw = s.bw := rfl
@[simp] theorem State.pins_updGates (s : State) (f : GateUnit → GateUnit) : (s.updGates f).pins = s.pins := rfl
@[simp] theorem State.gates_updGates (s : State) (f : GateUnit → GateUnit) : (s.updGates f).gates =
    f s.gates := rfl
@[simp] theorem State.clocks_updGates (s : State) (f : GateUnit → GateUnit) : (s.updGates f).clocks = s.clocks := rfl
@[simp] theorem State.st_updGates (s : State) (f : GateUnit → GateUnit) : (s.updGates f).st = s.st := rfl
@[simp] theorem State.modes_updGates (s : State) (f : GateUnit → GateUnit) : (s.updGates f).modes = s.modes := rfl
@[simp] theorem State.faults_updGates (s : State) (f : GateUnit → GateUnit) : (s.updGates f).faults = s.faults := rfl
@[simp] theorem State.alm_updGates (s : State) (f : GateUnit → GateUnit) : (s.updGates f).alm = s.alm := rfl
@[simp] theorem State.fuses_updGates (s : State) (f : GateUnit → GateUnit) : (s.updGates f).fuses = s.fuses := rfl
@[simp] theorem State.hl_updGates (s : State) (f : GateUnit → GateUnit) : (s.updGates f).hl = s.hl := rfl
@[simp] theorem State.tap_updGates (s : State) (f : GateUnit → GateUnit) : (s.updGates f).tap = s.tap := rfl
@[simp] theorem State.free_updGates (s : State) (f : GateUnit → GateUnit) : (s.updGates f).free = s.free := rfl
@[simp] theorem State.fresh_updGates (s : State) (f : GateUnit → GateUnit) : (s.updGates f).fresh = s.fresh := rfl

@[simp] theorem State.pending_updTap (s : State) (f : TapUnit → TapUnit) : (s.updTap f).pending = s.pending := rfl
@[simp] theorem State.csr_updTap (s : State) (f : TapUnit → TapUnit) : (s.updTap f).csr = s.csr := rfl
@[simp] theorem State.eff_updTap (s : State) (f : TapUnit → TapUnit) : (s.updTap f).eff = s.eff := rfl
@[simp] theorem State.clk_updTap (s : State) (f : TapUnit → TapUnit) : (s.updTap f).clk = s.clk := rfl
@[simp] theorem State.pauses_updTap (s : State) (f : TapUnit → TapUnit) : (s.updTap f).pauses = s.pauses := rfl
@[simp] theorem State.vt_updTap (s : State) (f : TapUnit → TapUnit) : (s.updTap f).vt = s.vt := rfl
@[simp] theorem State.img_updTap (s : State) (f : TapUnit → TapUnit) : (s.updTap f).img = s.img := rfl
@[simp] theorem State.dram_updTap (s : State) (f : TapUnit → TapUnit) : (s.updTap f).dram = s.dram := rfl
@[simp] theorem State.masks_updTap (s : State) (f : TapUnit → TapUnit) : (s.updTap f).masks = s.masks := rfl
@[simp] theorem State.filled_updTap (s : State) (f : TapUnit → TapUnit) : (s.updTap f).filled = s.filled := rfl
@[simp] theorem State.engs_updTap (s : State) (f : TapUnit → TapUnit) : (s.updTap f).engs = s.engs := rfl
@[simp] theorem State.mcs_updTap (s : State) (f : TapUnit → TapUnit) : (s.updTap f).mcs = s.mcs := rfl
@[simp] theorem State.caps_updTap (s : State) (f : TapUnit → TapUnit) : (s.updTap f).caps = s.caps := rfl
@[simp] theorem State.lanes_updTap (s : State) (f : TapUnit → TapUnit) : (s.updTap f).lanes = s.lanes := rfl
@[simp] theorem State.bw_updTap (s : State) (f : TapUnit → TapUnit) : (s.updTap f).bw = s.bw := rfl
@[simp] theorem State.pins_updTap (s : State) (f : TapUnit → TapUnit) : (s.updTap f).pins = s.pins := rfl
@[simp] theorem State.gates_updTap (s : State) (f : TapUnit → TapUnit) : (s.updTap f).gates = s.gates := rfl
@[simp] theorem State.clocks_updTap (s : State) (f : TapUnit → TapUnit) : (s.updTap f).clocks = s.clocks := rfl
@[simp] theorem State.st_updTap (s : State) (f : TapUnit → TapUnit) : (s.updTap f).st = s.st := rfl
@[simp] theorem State.modes_updTap (s : State) (f : TapUnit → TapUnit) : (s.updTap f).modes = s.modes := rfl
@[simp] theorem State.faults_updTap (s : State) (f : TapUnit → TapUnit) : (s.updTap f).faults = s.faults := rfl
@[simp] theorem State.alm_updTap (s : State) (f : TapUnit → TapUnit) : (s.updTap f).alm = s.alm := rfl
@[simp] theorem State.fuses_updTap (s : State) (f : TapUnit → TapUnit) : (s.updTap f).fuses = s.fuses := rfl
@[simp] theorem State.hl_updTap (s : State) (f : TapUnit → TapUnit) : (s.updTap f).hl = s.hl := rfl
@[simp] theorem State.tap_updTap (s : State) (f : TapUnit → TapUnit) : (s.updTap f).tap =
    f s.tap := rfl
@[simp] theorem State.free_updTap (s : State) (f : TapUnit → TapUnit) : (s.updTap f).free = s.free := rfl
@[simp] theorem State.fresh_updTap (s : State) (f : TapUnit → TapUnit) : (s.updTap f).fresh = s.fresh := rfl

@[simp] theorem State.pending_setWaits (s : State) (l : List PortWait) : (s.setWaits l).pending = s.pending := rfl
@[simp] theorem State.csr_setWaits (s : State) (l : List PortWait) : (s.setWaits l).csr = s.csr := rfl
@[simp] theorem State.eff_setWaits (s : State) (l : List PortWait) : (s.setWaits l).eff = s.eff := rfl
@[simp] theorem State.clk_setWaits (s : State) (l : List PortWait) : (s.setWaits l).clk = s.clk := rfl
@[simp] theorem State.pauses_setWaits (s : State) (l : List PortWait) : (s.setWaits l).pauses = s.pauses := rfl
@[simp] theorem State.vt_setWaits (s : State) (l : List PortWait) : (s.setWaits l).vt = s.vt := rfl
@[simp] theorem State.img_setWaits (s : State) (l : List PortWait) : (s.setWaits l).img = s.img := rfl
@[simp] theorem State.dram_setWaits (s : State) (l : List PortWait) : (s.setWaits l).dram = s.dram := rfl
@[simp] theorem State.masks_setWaits (s : State) (l : List PortWait) : (s.setWaits l).masks = s.masks := rfl
@[simp] theorem State.filled_setWaits (s : State) (l : List PortWait) : (s.setWaits l).filled = s.filled := rfl
@[simp] theorem State.engs_setWaits (s : State) (l : List PortWait) : (s.setWaits l).engs = s.engs := rfl
@[simp] theorem State.mcs_setWaits (s : State) (l : List PortWait) : (s.setWaits l).mcs = s.mcs := rfl
@[simp] theorem State.caps_setWaits (s : State) (l : List PortWait) : (s.setWaits l).caps = s.caps := rfl
@[simp] theorem State.lanes_setWaits (s : State) (l : List PortWait) : (s.setWaits l).lanes = s.lanes := rfl
@[simp] theorem State.bw_setWaits (s : State) (l : List PortWait) : (s.setWaits l).bw =
    { s.bw with waits := l } := rfl
@[simp] theorem State.pins_setWaits (s : State) (l : List PortWait) : (s.setWaits l).pins = s.pins := rfl
@[simp] theorem State.gates_setWaits (s : State) (l : List PortWait) : (s.setWaits l).gates = s.gates := rfl
@[simp] theorem State.clocks_setWaits (s : State) (l : List PortWait) : (s.setWaits l).clocks = s.clocks := rfl
@[simp] theorem State.st_setWaits (s : State) (l : List PortWait) : (s.setWaits l).st = s.st := rfl
@[simp] theorem State.modes_setWaits (s : State) (l : List PortWait) : (s.setWaits l).modes = s.modes := rfl
@[simp] theorem State.faults_setWaits (s : State) (l : List PortWait) : (s.setWaits l).faults = s.faults := rfl
@[simp] theorem State.alm_setWaits (s : State) (l : List PortWait) : (s.setWaits l).alm = s.alm := rfl
@[simp] theorem State.fuses_setWaits (s : State) (l : List PortWait) : (s.setWaits l).fuses = s.fuses := rfl
@[simp] theorem State.hl_setWaits (s : State) (l : List PortWait) : (s.setWaits l).hl = s.hl := rfl
@[simp] theorem State.tap_setWaits (s : State) (l : List PortWait) : (s.setWaits l).tap = s.tap := rfl
@[simp] theorem State.free_setWaits (s : State) (l : List PortWait) : (s.setWaits l).free = s.free := rfl
@[simp] theorem State.fresh_setWaits (s : State) (l : List PortWait) : (s.setWaits l).fresh = s.fresh := rfl

@[simp] theorem State.pending_updLane (s : State) (k : Nat) (f : Lane → Lane) : (s.updLane k f).pending = s.pending := rfl
@[simp] theorem State.csr_updLane (s : State) (k : Nat) (f : Lane → Lane) : (s.updLane k f).csr = s.csr := rfl
@[simp] theorem State.eff_updLane (s : State) (k : Nat) (f : Lane → Lane) : (s.updLane k f).eff = s.eff := rfl
@[simp] theorem State.clk_updLane (s : State) (k : Nat) (f : Lane → Lane) : (s.updLane k f).clk = s.clk := rfl
@[simp] theorem State.pauses_updLane (s : State) (k : Nat) (f : Lane → Lane) : (s.updLane k f).pauses = s.pauses := rfl
@[simp] theorem State.vt_updLane (s : State) (k : Nat) (f : Lane → Lane) : (s.updLane k f).vt = s.vt := rfl
@[simp] theorem State.img_updLane (s : State) (k : Nat) (f : Lane → Lane) : (s.updLane k f).img = s.img := rfl
@[simp] theorem State.dram_updLane (s : State) (k : Nat) (f : Lane → Lane) : (s.updLane k f).dram = s.dram := rfl
@[simp] theorem State.masks_updLane (s : State) (k : Nat) (f : Lane → Lane) : (s.updLane k f).masks = s.masks := rfl
@[simp] theorem State.filled_updLane (s : State) (k : Nat) (f : Lane → Lane) : (s.updLane k f).filled = s.filled := rfl
@[simp] theorem State.engs_updLane (s : State) (k : Nat) (f : Lane → Lane) : (s.updLane k f).engs = s.engs := rfl
@[simp] theorem State.mcs_updLane (s : State) (k : Nat) (f : Lane → Lane) : (s.updLane k f).mcs = s.mcs := rfl
@[simp] theorem State.caps_updLane (s : State) (k : Nat) (f : Lane → Lane) : (s.updLane k f).caps = s.caps := rfl
@[simp] theorem State.lanes_updLane (s : State) (k : Nat) (f : Lane → Lane) : (s.updLane k f).lanes =
    s.lanes.setIfInBounds k (f (s.lane k)) := rfl
@[simp] theorem State.bw_updLane (s : State) (k : Nat) (f : Lane → Lane) : (s.updLane k f).bw = s.bw := rfl
@[simp] theorem State.pins_updLane (s : State) (k : Nat) (f : Lane → Lane) : (s.updLane k f).pins = s.pins := rfl
@[simp] theorem State.gates_updLane (s : State) (k : Nat) (f : Lane → Lane) : (s.updLane k f).gates = s.gates := rfl
@[simp] theorem State.clocks_updLane (s : State) (k : Nat) (f : Lane → Lane) : (s.updLane k f).clocks = s.clocks := rfl
@[simp] theorem State.st_updLane (s : State) (k : Nat) (f : Lane → Lane) : (s.updLane k f).st = s.st := rfl
@[simp] theorem State.modes_updLane (s : State) (k : Nat) (f : Lane → Lane) : (s.updLane k f).modes = s.modes := rfl
@[simp] theorem State.faults_updLane (s : State) (k : Nat) (f : Lane → Lane) : (s.updLane k f).faults = s.faults := rfl
@[simp] theorem State.alm_updLane (s : State) (k : Nat) (f : Lane → Lane) : (s.updLane k f).alm = s.alm := rfl
@[simp] theorem State.fuses_updLane (s : State) (k : Nat) (f : Lane → Lane) : (s.updLane k f).fuses = s.fuses := rfl
@[simp] theorem State.hl_updLane (s : State) (k : Nat) (f : Lane → Lane) : (s.updLane k f).hl = s.hl := rfl
@[simp] theorem State.tap_updLane (s : State) (k : Nat) (f : Lane → Lane) : (s.updLane k f).tap = s.tap := rfl
@[simp] theorem State.free_updLane (s : State) (k : Nat) (f : Lane → Lane) : (s.updLane k f).free = s.free := rfl
@[simp] theorem State.fresh_updLane (s : State) (k : Nat) (f : Lane → Lane) : (s.updLane k f).fresh = s.fresh := rfl

@[simp] theorem State.pending_updCap (s : State) (u : Nat) (f : CaptureUnit → CaptureUnit) : (s.updCap u f).pending = s.pending := rfl
@[simp] theorem State.csr_updCap (s : State) (u : Nat) (f : CaptureUnit → CaptureUnit) : (s.updCap u f).csr = s.csr := rfl
@[simp] theorem State.eff_updCap (s : State) (u : Nat) (f : CaptureUnit → CaptureUnit) : (s.updCap u f).eff = s.eff := rfl
@[simp] theorem State.clk_updCap (s : State) (u : Nat) (f : CaptureUnit → CaptureUnit) : (s.updCap u f).clk = s.clk := rfl
@[simp] theorem State.pauses_updCap (s : State) (u : Nat) (f : CaptureUnit → CaptureUnit) : (s.updCap u f).pauses = s.pauses := rfl
@[simp] theorem State.vt_updCap (s : State) (u : Nat) (f : CaptureUnit → CaptureUnit) : (s.updCap u f).vt = s.vt := rfl
@[simp] theorem State.img_updCap (s : State) (u : Nat) (f : CaptureUnit → CaptureUnit) : (s.updCap u f).img = s.img := rfl
@[simp] theorem State.dram_updCap (s : State) (u : Nat) (f : CaptureUnit → CaptureUnit) : (s.updCap u f).dram = s.dram := rfl
@[simp] theorem State.masks_updCap (s : State) (u : Nat) (f : CaptureUnit → CaptureUnit) : (s.updCap u f).masks = s.masks := rfl
@[simp] theorem State.filled_updCap (s : State) (u : Nat) (f : CaptureUnit → CaptureUnit) : (s.updCap u f).filled = s.filled := rfl
@[simp] theorem State.engs_updCap (s : State) (u : Nat) (f : CaptureUnit → CaptureUnit) : (s.updCap u f).engs = s.engs := rfl
@[simp] theorem State.mcs_updCap (s : State) (u : Nat) (f : CaptureUnit → CaptureUnit) : (s.updCap u f).mcs = s.mcs := rfl
@[simp] theorem State.caps_updCap (s : State) (u : Nat) (f : CaptureUnit → CaptureUnit) : (s.updCap u f).caps =
    s.caps.setIfInBounds u (f (s.cap u)) := rfl
@[simp] theorem State.lanes_updCap (s : State) (u : Nat) (f : CaptureUnit → CaptureUnit) : (s.updCap u f).lanes = s.lanes := rfl
@[simp] theorem State.bw_updCap (s : State) (u : Nat) (f : CaptureUnit → CaptureUnit) : (s.updCap u f).bw = s.bw := rfl
@[simp] theorem State.pins_updCap (s : State) (u : Nat) (f : CaptureUnit → CaptureUnit) : (s.updCap u f).pins = s.pins := rfl
@[simp] theorem State.gates_updCap (s : State) (u : Nat) (f : CaptureUnit → CaptureUnit) : (s.updCap u f).gates = s.gates := rfl
@[simp] theorem State.clocks_updCap (s : State) (u : Nat) (f : CaptureUnit → CaptureUnit) : (s.updCap u f).clocks = s.clocks := rfl
@[simp] theorem State.st_updCap (s : State) (u : Nat) (f : CaptureUnit → CaptureUnit) : (s.updCap u f).st = s.st := rfl
@[simp] theorem State.modes_updCap (s : State) (u : Nat) (f : CaptureUnit → CaptureUnit) : (s.updCap u f).modes = s.modes := rfl
@[simp] theorem State.faults_updCap (s : State) (u : Nat) (f : CaptureUnit → CaptureUnit) : (s.updCap u f).faults = s.faults := rfl
@[simp] theorem State.alm_updCap (s : State) (u : Nat) (f : CaptureUnit → CaptureUnit) : (s.updCap u f).alm = s.alm := rfl
@[simp] theorem State.fuses_updCap (s : State) (u : Nat) (f : CaptureUnit → CaptureUnit) : (s.updCap u f).fuses = s.fuses := rfl
@[simp] theorem State.hl_updCap (s : State) (u : Nat) (f : CaptureUnit → CaptureUnit) : (s.updCap u f).hl = s.hl := rfl
@[simp] theorem State.tap_updCap (s : State) (u : Nat) (f : CaptureUnit → CaptureUnit) : (s.updCap u f).tap = s.tap := rfl
@[simp] theorem State.free_updCap (s : State) (u : Nat) (f : CaptureUnit → CaptureUnit) : (s.updCap u f).free = s.free := rfl
@[simp] theorem State.fresh_updCap (s : State) (u : Nat) (f : CaptureUnit → CaptureUnit) : (s.updCap u f).fresh = s.fresh := rfl

theorem State.clocked_of_gated {s : State} {n : Nat} (h : s.flag (CLKPWR_GATE_GATED n) = true) (f : State → State) :
    s.clocked n f = s := if_pos h

theorem State.clocked_of_not_gated {s : State} {n : Nat} (h : s.flag (CLKPWR_GATE_GATED n) = false) (f : State → State) :
    s.clocked n f = f s := if_neg (by simp [h])

end Sys2Proof.Machine
end

