-- ==== Sys2Proof/Tests/Slice0.lean ====
section
/-! SUPPORT. The model's own tests: the spec's worked examples, one ill-formed term for each check of WellFormed, engine
words written out from their encodings, and for the statements with hypotheses states that meet them. -/
set_option linter.unusedVariables false
set_option Elab.async false

namespace Sys2Proof.Tests
open Sys2Proof Sys2Proof.Machine Sys2Proof.Machine.Csr

/-! WellFormed refuses one ill-formed term for each of its checks -/

/-- A packet of 16 bytes that says it carries 32. -/
def badPkt : Pkt := ⟨1, 2, false, 0, 0, 0, false, 16, List.replicate 16 0⟩
/-- The same packet with its length right. -/
def goodPkt : Pkt := { badPkt with len := 1 }
/-- A sweep of 73 DQs. -/
def badSweep : Sweep := ⟨List.replicate 73 0, [], []⟩

theorem test_wf_pkt : (Instr.linkRead badPkt).wf = false ∧ (Instr.linkRead goodPkt).wf = true ∧
    (Instr.linkWrite badPkt).wf = false ∧ (Instr.linkWritePosted badPkt).wf = false ∧ (Instr.linkVtset badPkt).wf = false ∧
    (Instr.linkCredit badPkt).wf = false := by decide +kernel
theorem test_wf_upset : (Instr.ascr 0 0 0 [(32, false)]).wf = false ∧ (Instr.ascr 0 0 0 [(31, false)]).wf = true := by
  decide +kernel
theorem test_wf_drain : (Instr.writeBufferDrain 0 [(32, 0)]).wf = false := by decide +kernel
theorem test_wf_request : (Instr.mcRequest 0 0 false true 0 60 [1, 2, 3, 4, 5]).wf = false ∧
    (Instr.mcRequest 0 0 false true 0 60 [1, 2, 3, 4]).wf = true ∧ (Instr.mcRequest 0 0 false true 0 0 []).wf = false := by
  decide +kernel
theorem test_wf_temps : (Instr.layerTempSample [none]).wf = false := by decide +kernel
theorem test_wf_sites : (Instr.siteSample [] [] [] 0 0).wf = false := by decide +kernel
theorem test_wf_calibration : (Instr.calibrationComplete 0 0 [] [] [] []).wf = false := by decide +kernel
theorem test_wf_map : (Instr.chmapCommit []).wf = false := by decide +kernel
theorem test_wf_sweep : (Instr.tsvDqRepair 0 0 true badSweep).wf = false ∧
    (Instr.layerSubstitution 0 true true true badSweep ⟨[], [], []⟩).wf = false ∧
    (Instr.channelFullTraining 0 ⟨[], [], [badSweep.rd], [], []⟩).wf = false ∧
    (Instr.sliceComplete 6 0 0 (.retrained badSweep)).wf = false := by decide +kernel
theorem test_wf_verified : (Instr.sliceComplete 3 0 0 (.verified 0)).wf = false := by decide +kernel
theorem test_wf_window : (Instr.almFwWinWrite (List.replicate 68 0)).wf = false ∧
    (Instr.almFwWinWrite (List.replicate 64 0)).wf = true := by decide +kernel
theorem test_wf_csr : (Instr.csrAccess 0 (.read 17)).wf = false ∧ (Instr.csrAccess 0 (.write [])).wf = false ∧
    (Instr.csrAccess 0 (.read 16)).wf = true := by decide +kernel

/-! Engine words, as the listing of example 1 (chapter 05) gives them, and words that no command has (R81) -/

theorem test_word_li : engDecode 0 0x414000FF = some (.li 0 5 (.sext 0xFF)) ∧
    engDecode 0 0x4243FFFF = some (.li 0 9 (.sext 0x3FFFF)) := by decide +kernel
theorem test_word_aset : engDecode 0 0x54540000 = some (.aset 0 1 5) ∧ engDecode 0 0x561C0000 = some (.aset 0 8 7) := by
  decide +kernel
theorem test_word_ascr : engDecode 0 0x5C100000 = some (.ascr 0 0 4 []) := by decide +kernel
theorem test_word_loop : engDecode 0 0x7C0C0005 = some (.loop 0 0 3 5) ∧ engDecode 0 0x80000000 = some (.endl 0 0) := by
  decide +kernel
theorem test_word_emit : engDecode 0 0x70400002 = some (.emit 0 1 0 2) ∧ engDecode 0 0x70800001 = some (.emit 0 2 0 1) := by
  decide +kernel
theorem test_word_halt : engDecode 0 0xAC000000 = some (.halt 0) ∧ engDecode 0 0xAC000001 = none ∧
    engDecode 0 0 = none := by decide +kernel

/-! Worked examples of the spec -/

/-- R135: the CRC-16 over the ASCII bytes of "123456789". -/
theorem test_crc16 : crc16 [0x31, 0x32, 0x33, 0x34, 0x35, 0x36, 0x37, 0x38, 0x39] = 0x29B1 := by decide +kernel
/-- R136: frame 0 of lane 0 of example 1. -/
theorem test_header : ({ typ := 1, count := 32, vt := 5004096, seq := 0 } : Frame).header = 0x1204C5B400 := by decide +kernel
/-- Chapter 00: byte 5 of granule 9 of row 0x1234, bank 5, pseudo-channel 1, logical channel 7. -/
theorem test_address : chanOf 0x3C91A1645 = 7 ∧ pcOf (granOf 0x3C91A1645) = 1 ∧ rowOf (granOf 0x3C91A1645) = 0x1234 ∧
    bankOf (granOf 0x3C91A1645) = 32 + 5 ∧ 0x3C91A1645 % 1024 = 9 * 64 + 5 := by decide +kernel
/-- R283: the header of the RESPONSE to a read of one granule. -/
theorem test_response : (packet 4 0x2A 4 false 5 2 0x3C91A1640 0 0 64 []).take 16 =
    [0x04, 0x2A, 0x04, 0x00, 0x2A, 0x40, 0x16, 0x1A, 0xC9, 0x03, 0x00, 0x00, 0x00, 0x00, 0x40, 0x00] := by decide +kernel
/-- R50: the nominal rate at 625 ps. -/
theorem test_rate : nominalRate 625 = 0x01E1E1E2 := by decide +kernel
/-- R213: what a share of 25 000 MB/s fills a bucket by. -/
theorem test_gain : tokenGain 25000 = 30118 := by decide +kernel
/-- R217: the shares of channel 9 when its layer turns hot. -/
theorem test_cut : cutShares (fun c => if c = 7 then 500 else if c = 6 then 1000 else if c = 3 then 40000 else 0) 1462 8 =
    [0, 0, 0, 40000, 0, 0, 38, 0] := by decide +kernel
/-- R307: the anti-rollback version that W0 = 0x7FF and 0x3FFF give. -/
theorem test_arb : arbVersion 0x7FF = 11 ∧ arbVersion 0x3FFF = 14 := by decide +kernel
/-- R365: source identifiers. -/
theorem test_sources : srcEng 21 = 0x015 ∧ srcCap 4 = 0x084 ∧ srcMc 10 = 0x10A ∧ srcLane 53 = 0x1B5 := by decide +kernel

/-! The machine as a whole -/

/-- What `Obligations.StepRunsFront` assumes: an idle machine without power, with power in a pause, and at work. -/
theorem witness_StepRunsFront : let s := State.reset
    let up := { (s.put GLOBAL_MODE_MODE 2) with pins := { s.pins with pwrok := true, resetN := true } }
    s.pending = [] ∧ s.alm.job = none ∧ s.tap.waits = none ∧ s.modes.resetDue ≠ some true ∧ s.pins.pwrok = true ∧ s.pins.resetN = true ∧
    ¬ ({ s.pins with pwrok := false } : Pins).pwrok = true ∧
    up.pending = [] ∧ up.alm.job = none ∧ up.tap.waits = none ∧ up.modes.resetDue ≠ some true ∧ up.paused = false ∧
    up.vt.owed = 0 ∧ up.bw.waits = [] ∧ up.img.capEdges = [] ∧ up.gateMarked = [] ∧
    ({ up with pauses := { deep := true } } : State).paused = true := by decide +kernel
/-- What `Obligations.StepKeepsInv` assumes: reset meets the invariant and steps on. -/
theorem witness_StepKeepsInv : (State.reset.csrWf && State.reset.dramWf && State.reset.masksWf && State.reset.sramWf &&
    (match step State.reset with
     | .next _ => true
     | _ => false)) = true := by decide +kernel
/-- What `Obligations.CommandsLeaveQueue` assumes. -/
theorem witness_CommandsLeaveQueue : (match exec (.nop 0) State.reset with
     | .next _ => true
     | _ => false) = true := by decide +kernel
/-- What `Obligations.EngineWords` assumes, in both directions. -/
theorem witness_EngineWords : engWord (.halt 0) = some 0xAC000000 ∧ engDecode 0 0xAC000000 = some (.halt 0) := by
  decide +kernel

/-- What `Obligations.OneSymbolCorrected` assumes, at the last symbol. -/
theorem witness_OneSymbolCorrected : (List.replicate 64 (7 : Byte)).length = 64 ∧ 35 < 36 ∧ (0x8001 : BitVec 16) ≠ 0 := by
  decide +kernel

/-! What the statements assume can be met: for each statement, `hyp…` says what its clauses assume,
    clause by clause in the
statement's order, and a witness gives for each clause a state and operands that meet it. -/

/-- The task descriptor of the test engines: handler at 64, bound to partition 0. -/
def tDesc : TaskDesc :=
  { progBase := 0, entry := 0, trapEntry := 64, cls := 0, part := 0, ldiLen := 0, ldiSrc := 0, g1 := 0, g2 := 0, g3 := 0, g4 := 0 }
/-- A structure image: engine 0 on TX lane 0 with 16 DATA pins, engine 1 auxiliary, partition 0 with M = 4. -/
def tImg : Img := { Img.empty with
  parts := [⟨0, 4, 3⟩]
  engines := [⟨0, 0, tDesc⟩, ⟨1, 0, tDesc⟩]
  ppl := 16 :: List.replicate 15 0
  lanes := [⟨0, [0]⟩]
  pins := [⟨0, (List.range 16).map fun i => (1, i)⟩]
  regions := [⟨0, 0, 0, 1, 0, 2 ^ 20⟩] }
/-- READY with that image in effect, partition 0 in RUN. -/
def tRun : State :=
  let s := ((State.reset.put GLOBAL_MODE_MODE 2).put (GLOBAL_PMODE_MODE 0) 3).put FUSE_STATUS_SENSED 1
  { s with img := { s.img with active := tImg } }
/-- Engine e runs in that state, with the word w in its cache at PC 0. -/
def tEng (e w : Nat) : State :=
  (tRun.put (ENG_STATE_STATE e) 3).updEng e fun g => { g with icache := [(0, natLe 4 w)], desc := tDesc }
/-- A DRAM request of 64 bytes under tag t. -/
def tDrq (t : Nat) : Drq := ⟨t, 128, 64, 64, false, 0⟩
/-- A PURE or MERGE stream at address 128. -/
def tVs (pure : Bool) : VStream := { pure := pure, next := 128, left := 40, stamp := 0 }
/-- Calendar entry n is in effect. -/
def tCal (n : Nat) (e : CalEnt) (vt : Nat) (s : State) : State := { s.calSet n e with vt := { s.vt with vt := vt } }
/-- Transfers that wait at their ports, paid in full. -/
def tPaid (xs : State → List (Acc × Nat × Nat)) (s : State) : State :=
  s.setWaits ((xs s).flatMap fun x => (xferChans x.2.1 x.2.2).map fun k =>
      { acc := x.1, chan := k, addr := x.2.1, len := x.2.2, paid := 100000, since := 0 })
/-- A trap is not barred (`State.canTrap`). -/
def canTrapB (s : State) (e : Eng) : Bool := decide (s.flag (ENG_STATE_INTRAP e) = false ∧
    (s.eng e).desc.trapEntry ≠ 0 ∧ (s.eng e).async = [] ∧ (s.eng e).stopReq = none)

/-! Witnesses: register access, images, Vector Time, the Calendar, modes, power -/

namespace Sys

/-- A structure image of 88 bytes that declares partition 0 with M = 4, entering INDEX at the apply (R26, R28,
    R31). -/
def tBytes : List Byte :=
  let z := fun (n : Nat) => List.replicate n (0 : Byte)
  let b := [0x4D, 0x49, 0x51, 0x58, 0, 1, 0x64, 0x16, 88, 0, 0, 0] ++ z 4 ++ z 16 ++ [0x71, 0x02, 0, 0] ++ z 28 ++
    [1, 0, 0, 0, 16, 0, 0, 0] ++ [1, 0, 0, 0, 0, 0, 0, 0] ++ [0, 4, 4, 0, 0, 0, 0, 0]
  b.take 12 ++ natLe 4 (crc32 b) ++ b.drop 16
/-- READY with those bytes in the PENDING slot, and what they spell. -/
def tSlot (st : Nat) (bs : List Byte) : State :=
  let s := (State.reset.put GLOBAL_MODE_MODE 2).put IMAGE_STATUS_STATE st
  { s with img := { s.img with slot := bs, len := bs.length, parsed := some (readImg bs (frame bs).1) }
           modes := { s.modes with memReady := true } }
/-- That state with what else the image unit holds. -/
def tArm (st by_ parts : Nat) : State :=
  let s := tSlot st tBytes
  { s with img := { s.img with armedBy := by_, parts := parts } }
/-- Partition 0 is bound, in INDEX, and unit 0 owes it a line that the fence of channel 0 holds. -/
def tOwes (s : State) : State :=
  let s := ({ s with img := { s.img with active := tImg } } : State).updCap 0 fun c => { c with
    wbs := [{ (default : MapLine) with part := 0, gran := 0 }] }
  (s.put (GLOBAL_PMODE_MODE 0) 4).put (MC_STATE_STATE 0) 3
/-- What clause k of `Obligations.RegisterAccess` assumes. -/
def hypRegisterAccess (reg : BitVec 22) (v : Word) (factory : Bool) (e : Eng) (s : State) : Nat →
    Bool := fun clause =>
    let a := 4 * reg.toNat
    let starts := a ∈ [0x20, 0x10008, 0x10040, 0x2000C, 0x300004, 0x300014, 0x430030, 0x500008,
        (FAULT_FE_STATUS_VALID).addr,
        0x600004, 0x700018, 0x700020, 0x800004, 0x800020, 0x900004, 0x900080, 0xA00004] ∨
      (0x100000 ≤ a ∧ a < 0x148000 ∧ a % 0x1000 = 4) ∨ a = 0x170004 ∨ (0x180000 ≤ a ∧ a < 0x200000 ∧
          a % 0x10000 = 4) ∨
      (0x200000 ≤ a ∧ a < 0x264000 ∧ a % 0x1000 = 4) ∨
      (0x400000 ≤ a ∧ a < 0x422000 ∧ a % 0x1000 ∈ [0x40, 0xC8, 0x140, 0x200]) ∨ (0x600200 ≤ a ∧ a < 0x600300 ∧
          a % 16 = 0) ∨
      (0x700100 ≤ a ∧ a < 0x700300) ∨ (0x900040 ≤ a ∧ a < 0x900080) ∨
      (0x801000 ≤ a ∧ a < 0x802000 ∧ ¬ ((a - 0x801000) / 4 ∈ gateBlocks ∧ (a - 0x801000) / 4 < 896))
    decide (s.regsOk) && match clause with
    | 0 => decide (s.sensed = false)
    | 1 => decide (s.csrStatus true factory a v ≠ 0)
    | 2 => (decide (s.sensed = true ∧ s.modes.resetDue ≠ some true ∧ s.csrStatus true factory a v = 0 ∧ ¬ starts) &&
        (match regAt a with
   | some (r, i, j) => true
   | _ => false))
    | 3 => decide (s.csrStatus false false a 0 ≠ 0)
    | 4 => decide (s.sensed = true ∧ s.csrStatus false false a 0 = 0 ∧ s.latch a = s ∧ ¬ (0x400000 ≤ a ∧
        a < 0x422000 ∧ a % 0x1000 = 0x54))
    | _ => false
theorem witness_RegisterAccess :
    hypRegisterAccess (BitVec.ofNat 22 (65556/4)) 0xFFFFFFFF false 0 (tRun.put FUSE_STATUS_SENSED 0) 0 = true ∧
    hypRegisterAccess (BitVec.ofNat 22 (4390912/4)) 0xFFFFFFFF true 0 tRun 1 = true ∧
    hypRegisterAccess (BitVec.ofNat 22 (65560/4)) 0xFFFFFFFF false 0 tRun 2 = true ∧
    hypRegisterAccess (BitVec.ofNat 22 (1048832/4)) 0 true 0 (tEng 0 0) 3 = true ∧
    hypRegisterAccess (BitVec.ofNat 22 (65544/4)) 0xFFFFFFFF false 0 tRun 4 = true := by
  decide +kernel

/-- What clause k of `Obligations.ImageSlot` assumes. -/
def hypImageSlot (s : State) : Nat → Bool := fun clause =>
    let st := s.slotState
    let src := s.imgSrc
    let n := s.rd IMAGE_LEN_LEN
    decide (s.regsOk) && match clause with
    | 0 => decide (st = 1 ∨ st = 3 ∨ st = 5)
    | 1 => decide (st = 0)
    | 2 => decide ((st = 0 ∨ st = 2 ∨ st = 4 ∨ st = 6) ∧ loadBad src n = false)
    | 3 => decide ((st = 0 ∨ st = 2 ∨ st = 4 ∨ st = 6) ∧ loadBad src n = true)
    | 4 => (decide (st = 1 ∧ s.paused = false ∧ s.modes.memReady = true ∧ s.memHeld (s.hostDmaAcc 1) s.img.src s.img.len = false) && (let r := s.readMem (s.hostDmaAcc 1) s.img.src s.img.len
       decide (r.2.2 = none)))
    | 5 => (decide (st = 1 ∧ s.paused = false ∧ s.modes.memReady = true ∧ s.memHeld (s.hostDmaAcc 1) s.img.src s.img.len = false) && (let r := s.readMem (s.hostDmaAcc 1) s.img.src s.img.len
       (match r.2.2 with
   | some x => true
   | _ => false)))
    | 6 => decide ((st = 2 ∨ st = 4 ∨ st = 6) ∧ s.img.slot = [])
    | 7 => decide ((st = 2 ∨ st = 4 ∨ st = 6) ∧ s.img.slot ≠ [])
    | 8 => (decide (st = 3 ∧ s.paused = false) && (let r := (s.putb IMAGE_STATUS_SIGNED (sigPassed s.img.slot s.sigCtx (s.rd VT_TICK_PS_TICK_PS) s.img.len)).validated
       decide (r.2.2 = none)))
    | 9 => (decide (st = 3 ∧ s.paused = false) && (let r := (s.putb IMAGE_STATUS_SIGNED (sigPassed s.img.slot s.sigCtx (s.rd VT_TICK_PS_TICK_PS) s.img.len)).validated
       (match r.2.2 with
   | some x => true
   | _ => false)))
    | _ => false
theorem witness_ImageSlot :
    hypImageSlot (tSlot 1 tBytes) 0 = true ∧
    [1, 3].all (hypImageSlot (tSlot 0 tBytes)) = true ∧
    hypImageSlot (((tSlot 0 tBytes).put IMAGE_LEN_LEN 88).put IMAGE_SRC_LO_ADDR 2) 2 = true ∧
    hypImageSlot (tSlot 1 []) 4 = true ∧
    hypImageSlot
        ({ (tSlot 1 []) with img := { State.reset.img with src := 0, len := 64 }, masks := [(0, 0xF0F0F), (1,0xF0F0F),(2,0xF0F0F)] }:State) 5 = true ∧
    hypImageSlot (tSlot 2 []) 6 = true ∧
    hypImageSlot (tSlot 2 tBytes) 7 = true ∧
    hypImageSlot (tSlot 3 tBytes) 8 = true ∧
    hypImageSlot (tSlot 3 []) 9 = true := by
  decide +kernel

/-- What clause k of `Obligations.ImageApplies` assumes. -/
def hypImageApplies (parts : BitVec 16) (k : Fin 64) (p : Fin 16) (s : State) : Nat → Bool := fun clause =>
    let st := s.slotState
    let s0 := ((s.put IMAGE_ERR_CODE 0).put IMAGE_ADMIT_CHANNEL 0).put IMAGE_ADMIT_HEADROOM 0
    let s1 := (s.put IMAGE_ADMIT_CHANNEL 0).put IMAGE_ADMIT_HEADROOM 0
    decide (s.regsOk) && decide (s.effOk) && match clause with
    | 0 => decide (st = 0)
    | 1 => decide (st = 1 ∨ st = 3 ∨ st = 5)
    | 2 => decide (st = 2 ∨ st = 6)
    | 3 => (match s.img.parsed with
   | some i => decide (st = 4 ∧ s0.partialErr s.img.slot i parts.toNat = none)
   | _ => false)
    | 4 => (match s.img.parsed with
   | some i => (decide (st = 4) && (match s0.partialErr s.img.slot i parts.toNat with
   | some x => true
   | _ => false))
   | _ => false)
    | 5 => decide (st = 1 ∨ st = 3)
    | 6 => decide (st ≠ 1 ∧ st ≠ 3 ∧ ((st ≠ 5 ∨ s.img.armedBy = 0)))
    | 7 => decide (st = 5 ∧ s.img.armedBy = k.val + 1)
    | 8 => (match s.img.parsed with
   | some i => decide (st = 5 ∧ s.img.armedBy = 0 ∧ s.paused = false ∧ s.devMode ≠ 7 ∧ s.reacted = true ∧
       vtGe s.vt.vt s.img.epoch = true ∧ (s1.applyErr s.img.slot i s.img.parts).2 = none ∧ (s.applyReady id).2 = true)
   | _ => false)
    | 9 => (match s.img.parsed with
   | some i => decide (st = 5 ∧ s.img.armedBy = 0 ∧ s.paused = false ∧ s.devMode ≠ 7 ∧ s.reacted = true ∧
       vtGe s.vt.vt s.img.epoch = true ∧ (s.applyReady id).2 = false)
   | _ => false)
    | 10 => (match s.img.parsed with
   | some i => (decide (st = 5 ∧ s.img.armedBy = 0 ∧ s.paused = false ∧ s.devMode ≠ 7 ∧ s.reacted = true ∧
       vtGe s.vt.vt s.img.epoch = true) && (match (s1.applyErr s.img.slot i s.img.parts).2 with
   | some x => true
   | _ => false))
   | _ => false)
    | 11 => (match s.img.parsed with
   | some i => (decide (s.calNext k 1 = true ∧ st = 5 ∧ s.img.armedBy = k.val + 1) && (let u := ((s.calFire k).put IMAGE_ADMIT_CHANNEL 0).put IMAGE_ADMIT_HEADROOM 0
       decide ((u.applyErr s.img.slot i s.img.parts).2 = none ∧ (s.applyReady fun x => x.calFire k).2 = true)))
   | _ => false)
    | 12 => decide (s.calNext k 1 = true ∧ ((st ≠ 5 ∨ s.img.armedBy ≠ k.val + 1)))
    | _ => false
theorem witness_ImageApplies :
    [0, 6].all (hypImageApplies 0 0 0 (tArm 0 0 0)) = true ∧
    [1, 5].all (hypImageApplies 0 0 0 (tArm 1 0 0)) = true ∧
    hypImageApplies 0 0 0 (tArm 2 0 0) 2 = true ∧
    hypImageApplies 0 0 0 (tArm 4 0 0) 3 = true ∧
    hypImageApplies 1 0 0
        {tArm 4 0 0 with img := {(tArm 4 0 0).img with parsed := some { tImg with devwide := [some [1],none,none,none], classes := some ⟨0,0,[]⟩}}} 4 = true ∧
    hypImageApplies 0 0 0 (tArm 5 1 0) 7 = true ∧
    hypImageApplies 0 0 0 (tArm 5 0 0) 8 = true ∧
    hypImageApplies 0 0 0 (tOwes (tArm 5 0 0)) 9 = true ∧
    hypImageApplies 0 0 0 ((tArm 5 0 0).put GLOBAL_MODE_MODE 1) 10 = true ∧
    hypImageApplies 0 0 0 (tCal 0 ⟨8,1,255,0⟩ 10 (tArm 5 1 0)) 11 = true ∧
    hypImageApplies 0 0 0 (tCal 0 ⟨8,1,255,0⟩ 10 (tArm 4 0 0)) 12 = true := by
  decide +kernel

/-- What clause k of `Obligations.VectorTime` assumes. -/
def hypVectorTime (p : BitVec 14) (s : State) : Nat → Bool := fun clause =>
    let e := s.edgeErr
    let v := s.rd VT_SET_LO_VT + s.rd VT_SET_HI_VT * 2 ^ 32
    decide (s.regsOk) && decide (s.effOk) && match clause with
    | 0 => decide (s.partsList = [] ∧ 250 ≤ p.toNat ∧ p.toNat ≤ 16000)
    | 1 => decide (s.partsList ≠ [] ∨ p.toNat < 250 ∨ 16000 < p.toNat)
    | 2 => decide (s.paused = true)
    | 3 => decide (s.paused = false ∧ s.sameEdge = true)
    | 4 => (match s.vt.armed with
   | some w => decide (s.paused = false ∧ s.sameEdge = false)
   | _ => false)
    | 5 => decide (s.paused = false ∧ s.sameEdge = false ∧ s.vt.armed = none ∧ s.rd VT_STATUS_STATE ≠ 1)
    | 6 => decide (s.paused = false ∧ s.sameEdge = false ∧ s.vt.armed = none ∧ s.rd VT_STATUS_STATE = 1 ∧
        e.natAbs ≤ 8 ∧ 0 < s.vt.cyc ∧ s.vt.cyc < 2 ^ 40)
    | 7 => decide (s.paused = false ∧ s.sameEdge = false ∧ s.vt.armed = none ∧ s.rd VT_STATUS_STATE = 1 ∧
        8 < e.natAbs)
    | 8 => decide (s.paused = false ∧ s.rd VT_STATUS_STATE = 1 ∧ vtGe s.vt.vt ((s.vt.edge + 64) % 2 ^ 48) = true)
    | 9 => decide (v % 65536 ≠ 0)
    | 10 => decide (v % 65536 = 0 ∧ s.rd VT_STATUS_STATE ≠ 0 ∧ (∃ q ∈ s.partsList, s.pmode q = 3))
    | 11 => decide (v % 65536 = 0 ∧ ((s.rd VT_STATUS_STATE = 0 ∨ ∀ q ∈ s.partsList, s.pmode q ≠ 3)))
    | _ => false
theorem witness_VectorTime :
    hypVectorTime 250 State.reset 0 = true ∧
    [1, 5, 11].all (hypVectorTime 0 tRun) = true ∧
    hypVectorTime 0 State.reset 2 = true ∧
    hypVectorTime 0 ({tRun with clk := {fclk := 100}, vt := {vt := 1000, pulse := some 100, armed := none}}:State) 3
        = true ∧
    hypVectorTime 0 ({(tRun.put VT_STATUS_STATE 0) with vt := {vt := 1000, armed := some 131072, cyc := 5}}:State) 4
        = true ∧
    hypVectorTime 0
        ({(tRun.put VT_STATUS_STATE 1) with vt := {vt := 65528, frac := 7, owed := 9, edge := 65536, cyc := 1}}:State) 6 = true ∧
    hypVectorTime 0
        ({(tRun.put VT_STATUS_STATE 1) with vt := {vt := 65527, frac := 7, owed := 9, edge := 65536, cyc := 0}}:State) 7 = true ∧
    [8, 10].all (hypVectorTime 0
        ({(tRun.put VT_STATUS_STATE 1) with vt := {vt := 1000, armed := some 131072, cyc := 5}}:State)) = true ∧
    hypVectorTime 0 (((tRun.put VT_STATUS_STATE 0).put VT_SET_LO_VT 1).put VT_SET_HI_VT 3) 9 = true := by
  decide +kernel

/-- What clause k of `Obligations.CalendarCommits` assumes. -/
def hypCalendarCommits (s : State) : Nat → Bool := fun clause =>
    let all := s.calPending
    let v := s.rd VT_HOL_START_LO_VT + s.rd VT_HOL_START_HI_VT * 2 ^ 32
    let w := s.rd VT_HOL_END_LO_VT + s.rd VT_HOL_END_HI_VT * 2 ^ 32
    let p := s.rd VT_HOL_START_HI_PART
    let h : CalEnt := ⟨v, 5, p, w⟩
    let known := p = 255 ∨ s.declared p = true
    decide (s.regsOk) && decide (s.effOk) && match clause with
    | 0 => (match (all.filter fun x => ! (calDupsOf all).contains x.1).find?
        (fun x => (s.calCheck (all.filter fun x => ! (calDupsOf all).contains x.1) x.1 x.2).1 ≠ 0) with
   | some x => true
   | _ => false)
    | 1 => decide (calDupsOf all = [] ∧ all.find? (fun x => (s.calCheck all x.1 x.2).1 ≠ 0) = none)
    | 2 => decide (vtGe w v = false)
    | 3 => decide (vtGe w v = true ∧ ¬ known)
    | 4 => decide (vtGe w v = true ∧ known ∧ v = w)
    | 5 => decide (vtGe w v = true ∧ known ∧ v ≠ w ∧ (∃ x ∈ s.calLive, x.2 = h))
    | 6 => decide (vtGe w v = true ∧ known ∧ v ≠ w ∧ (∀ x ∈ s.calLive, x.2 ≠ h) ∧ (∀ n : Nat, n < 64 →
        s.calEmpty n = false))
    | 7 => ((List.range (min (64) 200)).any fun n => decide (vtGe w v = true ∧ known ∧ v ≠ w ∧
        (∀ x ∈ s.calLive, x.2 ≠ h) ∧ n < 64 ∧ s.calEmpty n = true ∧ (∀ m : Nat, m < n → s.calEmpty m = false)))
    | _ => false
theorem witness_CalendarCommits :
    hypCalendarCommits (tRun.calSetPend 3 ⟨5,2,0,200⟩) 0 = true ∧
    [1, 4].all (hypCalendarCommits (((((tRun.put VT_HOL_START_LO_VT 5).put VT_HOL_START_HI_VT 0).put VT_HOL_END_LO_VT
        5).put VT_HOL_END_HI_VT 0).put VT_HOL_START_HI_PART 0)) = true ∧
    hypCalendarCommits (((((tRun.put VT_HOL_START_LO_VT 9).put VT_HOL_START_HI_VT 0).put VT_HOL_END_LO_VT 5).put
        VT_HOL_END_HI_VT 0).put VT_HOL_START_HI_PART 0) 2 = true ∧
    hypCalendarCommits (((((tRun.put VT_HOL_START_LO_VT 5).put VT_HOL_START_HI_VT 0).put VT_HOL_END_LO_VT 5).put
        VT_HOL_END_HI_VT 0).put VT_HOL_START_HI_PART 1) 3 = true ∧
    hypCalendarCommits ((((((tRun.calSet 0 ⟨5,5,0,9⟩).put VT_HOL_START_LO_VT 5).put VT_HOL_START_HI_VT 0).put
        VT_HOL_END_LO_VT 9).put VT_HOL_END_HI_VT 0).put VT_HOL_START_HI_PART 0) 5 = true ∧
    hypCalendarCommits (((((((upFrom 0 64).foldl (fun s n => s.calSet n ⟨100+n,4,0,0⟩) tRun).put VT_HOL_START_LO_VT
        0).put VT_HOL_START_HI_VT 256).put VT_HOL_END_LO_VT 7).put VT_HOL_END_HI_VT 256).put VT_HOL_START_HI_PART 0)
        6 = true ∧
    hypCalendarCommits (((((tRun.put VT_HOL_START_LO_VT 5).put VT_HOL_START_HI_VT 0).put VT_HOL_END_LO_VT 9).put
        VT_HOL_END_HI_VT 0).put VT_HOL_START_HI_PART 0) 7 = true := by
  decide +kernel

/-- What clause k of `Obligations.CalendarWindows` assumes. -/
def hypCalendarWindows (n : Fin 64) (s : State) : Nat → Bool := fun clause =>
    let e := s.calEff n
    let known := e.part = 255 ∨ s.declared e.part = true
    let stop := e.arg % 2 ^ 48
    decide (s.regsOk) && decide (s.effOk) && match clause with
    | 0 => decide (s.calNext n 5 = false)
    | 1 => decide (s.calNext n 5 = true ∧ ((¬ known ∨ vtGe s.vt.vt stop = true)))
    | 2 => decide (s.calNext n 5 = true ∧ known ∧ vtGe s.vt.vt stop = false)
    | 3 => decide (s.calNext n 3 = true ∧ known ∧ (∃ w ∈ s.vt.holidays, w.scope = e.part))
    | 4 => decide (s.calNext n 3 = true ∧ ((¬ known ∨ ∀ w ∈ s.vt.holidays, w.scope ≠ e.part)))
    | 5 => decide (s.calNext n 6 = true ∧ known ∧ vtGe s.vt.vt stop = false)
    | 6 => decide (s.calNext n 6 = true ∧ ((¬ known ∨ vtGe s.vt.vt stop = true)))
    | 7 => decide (s.calNext n 4 = true ∧ known ∧ (∃ w ∈ s.vt.norefs, w.scope = e.part))
    | 8 => decide (s.calNext n 4 = true ∧ ((¬ known ∨ ∀ w ∈ s.vt.norefs, w.scope ≠ e.part)))
    | _ => false
theorem witness_CalendarWindows :
    [0, 4].all (hypCalendarWindows 4 ({(tRun.calSet 4 ⟨10,3,0,0⟩) with vt := { vt := 20}}:State)) = true ∧
    hypCalendarWindows 4 ({(tRun.calSet 4 ⟨10,5,0,100⟩) with vt := { vt := 150}}:State) 1 = true ∧
    hypCalendarWindows 4 ({(tRun.calSet 4 ⟨10,5,0,100⟩) with vt := { vt := 20}}:State) 2 = true ∧
    hypCalendarWindows 4
        ({(tRun.calSet 4 ⟨10,3,0,0⟩) with vt := {holidays := [⟨0,300⟩,⟨255,20⟩], norefs := [⟨0,300⟩,⟨255,20⟩],  vt := 20}}:State) 3 = true ∧
    hypCalendarWindows 4 ({(tRun.calSet 4 ⟨10,6,0,100⟩) with vt := { vt := 20}}:State) 5 = true ∧
    hypCalendarWindows 4 ({(tRun.calSet 4 ⟨10,6,0,100⟩) with vt := { vt := 150}}:State) 6 = true ∧
    hypCalendarWindows 4
        ({(tRun.calSet 4 ⟨10,4,0,0⟩) with vt := {holidays := [⟨0,300⟩,⟨255,20⟩], norefs := [⟨0,300⟩,⟨255,20⟩],  vt := 20}}:State) 7 = true ∧
    hypCalendarWindows 4 ({(tRun.calSet 4 ⟨10,4,0,0⟩) with vt := { vt := 20}}:State) 8 = true := by
  decide +kernel

/-- What clause k of `Obligations.CalendarActions` assumes. -/
def hypCalendarActions (n : Fin 64) (s : State) : Nat → Bool := fun clause =>
    let e := s.calEff n
    let first := ∀ x ∈ s.calLive, x.2.code = e.code → x.2.part = e.part → x.1 ≠ n.val →
      if x.2.vt = e.vt then n.val < x.1 else vtGe x.2.vt e.vt = true
    let due := (∃ x ∈ s.vt.lateCaps, x.1 = n.val) ∨
      (∃ x, s.img.lastSample.find? (fun x => x.1 = e.part) = some x ∧ vtGe x.2 e.vt = true) ∨
      vtGe s.vt.vt (vtAdd e.vt (s.rttMax e.part)) = true
    decide (s.regsOk) && decide (s.effOk) && match clause with
    | 0 => decide (s.calNext n 2 = true ∧ e.part < 16 ∧ s.declared e.part = true ∧
        modeAllowed (s.pmode e.part) (e.arg % 8) = true)
    | 1 => decide (s.calNext n 2 = true ∧ e.part < 16 ∧ s.declared e.part = true ∧
        modeAllowed (s.pmode e.part) (e.arg % 8) = false)
    | 2 => decide (e.code = 7 ∧ s.paused = false ∧ s.devMode ≠ 7 ∧ s.declared e.part = true ∧ first ∧ due)
    | 3 => decide (e.code = 7 ∧ s.paused = false ∧ s.devMode ≠ 7 ∧ s.declared e.part = true ∧ ¬ (first ∧ due))
    | 4 => decide (e.code = 8 ∧ s.paused = false ∧ s.devMode ≠ 7 ∧ s.declared e.part = true ∧ first ∧ due)
    | 5 => decide (e.code = 8 ∧ s.paused = false ∧ s.devMode ≠ 7 ∧ s.declared e.part = true ∧ ¬ (first ∧ due))
    | 6 => ((List.finRange 72).any fun g => decide (s.calNext n 9 = true ∧ e.part < 16 ∧ s.declared e.part = true ∧
        s.pmode e.part = 3 ∧ s.halted e.part = false ∧ s.laneEngs e.part = [g.val] ∧ s.engState g = 2))
    | 7 => ((List.finRange 72).any fun g => decide (e.code = 10 ∧ s.paused = false ∧ s.devMode ≠ 7 ∧
        (s.firstStop e.part).map (·.1) = some n.val ∧ s.laneEngs e.part = [g.val] ∧ s.engState g = 3 ∧
        vtGe (s.eng g).stime e.vt = true ∧ s.stopLate g e.vt = false ∧ (s.eng g).stopVt = none))
    | _ => false
theorem witness_CalendarActions :
    hypCalendarActions 4 ({((tRun.put (GLOBAL_PMODE_MODE 0) 3).calSet 4 ⟨10,2,0,3⟩) with vt := {vt := 20}}:State) 0 =
        true ∧
    hypCalendarActions 4 ({((tRun.put (GLOBAL_PMODE_MODE 0) 3).calSet 4 ⟨10,2,0,0⟩) with vt := {vt := 20}}:State) 1 =
        true ∧
    hypCalendarActions 4
        ({(tRun.calSet 4 ⟨10,7,0,0⟩) with vt := {vt := 5}, img := { tRun.img with active := { tImg with caps := [⟨0,0,0,7,100,4,4,2,16,1⟩] }, lastSample := [(0,10)], flushFrom := [(0,3),(1,4)] }}:State) 2 = true ∧
    hypCalendarActions 4
        ({(tRun.calSet 4 ⟨10,7,0,0⟩) with vt := {vt := 5}, img := { tRun.img with active := { tImg with caps := [⟨0,0,0,7,100,4,4,2,16,1⟩] }, lastSample := [], flushFrom := [(0,3),(1,4)] }}:State) 3 = true ∧
    hypCalendarActions 4
        ({(tRun.calSet 4 ⟨10,8,0,0⟩) with vt := {vt := 5}, img := { tRun.img with active := { tImg with caps := [⟨0,0,0,7,100,4,4,2,16,1⟩] }, lastSample := [(0,10)], flushFrom := [(0,3),(1,4)] }}:State) 4 = true ∧
    hypCalendarActions 4
        ({(tRun.calSet 4 ⟨10,8,0,0⟩) with vt := {vt := 5}, img := { tRun.img with active := { tImg with caps := [⟨0,0,0,7,100,4,4,2,16,1⟩] }, lastSample := [], flushFrom := [(0,3),(1,4)] }}:State) 5 = true ∧
    hypCalendarActions 4 ({((tRun.put (ENG_STATE_STATE 0) 2).calSet 4 ⟨10,9,0,0⟩) with vt := {vt := 20}}:State) 6 =
        true ∧
    hypCalendarActions 4 (({((tEng 0 0).calSet 4 ⟨10,10,0,0⟩) with vt := {vt := 2}}:State).updEng 0 fun g =>
        {g with stime := 10}) 7 = true := by
  decide +kernel

/-- What clause k of `Obligations.ModeCommands` assumes. -/
def hypModeCommands (mode : BitVec 3) (parts : BitVec 16) (p : Fin 16) (s : State) : Nat → Bool := fun clause =>
    let ps := maskBits 16 parts.toNat
    let o := s.rd GLOBAL_START_ORIGIN_LO_VT + s.rd GLOBAL_START_ORIGIN_HI_VT * 2 ^ 32
    let ready := s.devMode = 2
    let named := ps ≠ [] ∧ ∀ q ∈ ps, s.declared q = true
    decide (s.regsOk) && match clause with
    | 0 => decide (¬ ready)
    | 1 => decide (ready ∧ ¬ named)
    | 2 => decide (ready ∧ named ∧ (∃ q ∈ ps, modeAllowed (s.pmode q) mode.toNat = false))
    | 3 => decide (ready ∧ named ∧ (∀ q ∈ ps, modeAllowed (s.pmode q) mode.toNat = true))
    | 4 => decide (ready ∧ named ∧ (∃ q ∈ ps, s.pmode q ≠ 3))
    | 5 => decide (ready ∧ named ∧ (∀ q ∈ ps, s.pmode q = 3) ∧ (∃ q ∈ ps, o % s.mPart q ≠ 0))
    | 6 => decide (ready ∧ named ∧ (∀ q ∈ ps, s.pmode q = 3 ∧ o % s.mPart q = 0))
    | 7 => decide (s.boundaryDone = false)
    | 8 => (match s.modes.cmds with
   | hd :: rest => (decide (hd = .start parts.toNat (o % 2 ^ 48)) && (decide (s.pauses.any = false ∧
       s.boundaryDone = true ∧ s.modeCheck (.start parts.toNat (o % 2 ^ 48)) = 0 ∧ ps = [p.val]) &&
       ((List.finRange 72).any fun g => decide (s.laneEngs p = [g.val]))))
   | _ => false)
    | 9 => (match s.modes.cmds with
   | hd :: rest => (decide (hd = .setMode mode.toNat parts.toNat) && (decide (s.pauses.any = false ∧
       s.boundaryDone = true ∧ s.modeCheck (.setMode mode.toNat parts.toNat) = 0 ∧ ps = [p.val] ∧ s.pmode p = 3 ∧
       mode ≠ 3 ∧ s.st.slices = []) && ((List.finRange 72).any fun g => decide (s.laneEngs p = [g.val] ∧
       s.engState g = 3 ∧ (s.eng g).stopVt = none))))
   | _ => false)
    | 10 => (match s.modes.cmds with
   | c :: rest => decide (s.pauses.any = false ∧ s.devMode ≠ 7 ∧ s.boundaryDone = true ∧ s.modeCheck c ≠ 0 ∧
       s.modeCheck c < 256)
   | _ => false)
    | 11 => (match s.modes.cmds with
   | hd :: rest => (decide (hd = .setMode mode.toNat parts.toNat) && decide (s.pauses.any = false ∧
       s.boundaryDone = true ∧ s.modeCheck (.setMode mode.toNat parts.toNat) = 0))
   | _ => false)
    | 12 => decide ((s.rd GLOBAL_PDRAIN_DRAINING).testBit p = true ∧ s.partDrained p = true)
    | 13 => decide ((s.rd GLOBAL_PDRAIN_WAKING).testBit p = true ∧ (∀ k ∈ gateBlocks, p.val ∈ s.blockParts k →
        s.gateEn k = true → s.flag (CLKPWR_GATE_GATED k) = false))
    | _ => false
theorem witness_ModeCommands :
    hypModeCommands 0 0 0 ((tRun.put GLOBAL_MODE_MODE 0).put (GLOBAL_PMODE_MODE 0) 3) 0 = true ∧
    hypModeCommands 0 0 0 ((tRun.put GLOBAL_MODE_MODE 2).put (GLOBAL_PMODE_MODE 0) 3) 1 = true ∧
    [2, 6].all (hypModeCommands 0 1 0 ((tRun.put GLOBAL_MODE_MODE 2).put (GLOBAL_PMODE_MODE 0) 3)) = true ∧
    hypModeCommands 3 1 0 ((tRun.put GLOBAL_MODE_MODE 2).put (GLOBAL_PMODE_MODE 0) 3) 3 = true ∧
    hypModeCommands 0 1 0 ((tRun.put GLOBAL_MODE_MODE 2).put (GLOBAL_PMODE_MODE 0) 4) 4 = true ∧
    hypModeCommands 0 1 0 (tRun.put GLOBAL_START_ORIGIN_LO_VT 3) 5 = true ∧
    hypModeCommands 0 1 0
        ({tRun with faults := {tRun.faults with queue := [{src := 5, kind := 0x31}]}, modes := {tRun.modes with cmds := [.setMode 4 1]}}:State) 7 = true ∧
    hypModeCommands 0 1 0
        ({(tRun.put (GLOBAL_PMODE_MODE 0) 3) with modes := {tRun.modes with cmds := [.start 1 0]}}:State) 8 = true ∧
    hypModeCommands 4 1 0
        ({(tEng 0 0) with modes := {tRun.modes with cmds := [.setMode 4 1]}, st := {slices := []}}:State) 9 = true ∧
    hypModeCommands 0 1 0
        ({(tRun.put (GLOBAL_PMODE_MODE 0) 3) with modes := {tRun.modes with cmds := [.setMode 0 1]}}:State) 10 = true
        ∧
    hypModeCommands 3 1 0
        ({(tRun.put (GLOBAL_PMODE_MODE 0) 3) with modes := {tRun.modes with cmds := [.setMode 3 1]}}:State) 11 = true
        ∧
    hypModeCommands 3 1 0 ((State.reset.put GLOBAL_PDRAIN_DRAINING 1).put GLOBAL_PDRAIN_WAKING 0) 12 = true ∧
    hypModeCommands 3 1 0 ((State.reset.put GLOBAL_PDRAIN_DRAINING 0).put GLOBAL_PDRAIN_WAKING 1) 13 = true := by
  decide +kernel

/-- What clause k of `Obligations.DeepSleep` assumes. -/
def hypDeepSleep (s : State) : Nat → Bool := fun clause =>
    let asleep := ∀ p ∈ s.partsList, s.pmode p = 6 ∧ (s.rd GLOBAL_PDRAIN_DRAINING).testBit p = false
    decide (s.regsOk) && match clause with
    | 0 => decide (s.devMode ≠ 2)
    | 1 => decide (s.devMode = 2 ∧ ¬ asleep)
    | 2 => decide (s.devMode = 2 ∧ asleep ∧ s.deepBusy = true)
    | 3 => decide (s.devMode = 2 ∧ asleep ∧ s.deepBusy = false)
    | 4 => decide (s.devMode ≠ 7)
    | 5 => decide (s.devMode = 7)
    | 6 => decide (s.devMode = 7 ∧ s.modes.exiting = true ∧ s.clocks.vlaneOff = false ∧ s.modes.retrains = none ∧
        s.pauses.trip = false ∧ s.flag CLKPWR_STATUS_HCK_LOST = false ∧ ((s.flag CLKPWR_STATUS_PLL0_LOCK = true ∨
        s.flag CLKPWR_STATUS_PLL1_LOCK = true)))
    | 7 => decide (s.devMode = 7 ∧ s.modes.exiting = true ∧ s.clocks.vlaneOff = false ∧ s.modes.retrains = none ∧
        (s.pauses.trip = true ∨ s.flag CLKPWR_STATUS_HCK_LOST = true ∨ (s.flag CLKPWR_STATUS_PLL0_LOCK = false ∧
        s.flag CLKPWR_STATUS_PLL1_LOCK = false)))
    | 8 => (match s.modes.retrains with
   | some x => decide (s.devMode = 7 ∧ s.modes.exiting = true ∧ s.clocks.vlaneOff = false ∧ s.pauses.any = false ∧
       s.deepTrained x = true)
   | _ => false)
    | 9 => (match s.modes.retrains with
   | some x => decide (s.devMode = 7 ∧ s.modes.exiting = true ∧ s.clocks.vlaneOff = false ∧ s.pauses.any = false ∧
       x + 1500 ≤ s.clk.uptime)
   | _ => false)
    | 10 => (match s.modes.retrains with
   | some x => decide (s.devMode = 7 ∧ s.modes.exiting = true ∧ s.clocks.vlaneOff = false ∧ s.pauses.any = false ∧
       s.deepTrained x = false)
   | _ => false)
    | _ => false
theorem witness_DeepSleep :
    hypDeepSleep (tRun.put GLOBAL_MODE_MODE 1) 0 = true ∧
    [1, 4].all (hypDeepSleep tRun) = true ∧
    hypDeepSleep (((tRun.put (GLOBAL_PMODE_MODE 0) 6).put GLOBAL_MODE_MODE 2).on (MC_TRN_STAT_RUNNING 3)) 2 = true ∧
    hypDeepSleep ((tRun.put (GLOBAL_PMODE_MODE 0) 6).put GLOBAL_MODE_MODE 2) 3 = true ∧
    hypDeepSleep ((tRun.put (GLOBAL_PMODE_MODE 0) 6).put GLOBAL_MODE_MODE 7) 5 = true ∧
    hypDeepSleep
        ({((tRun.put (GLOBAL_PMODE_MODE 0) 6).put GLOBAL_MODE_MODE 7).on CLKPWR_STATUS_PLL0_LOCK with modes := {tRun.modes with exiting := true}, pauses := {deep := true}}:State) 6 = true ∧
    hypDeepSleep
        (({((tRun.put (GLOBAL_PMODE_MODE 0) 6).put GLOBAL_MODE_MODE 7).on CLKPWR_STATUS_PLL0_LOCK with modes := {tRun.modes with exiting := true}, pauses := {deep := true}}:State).off CLKPWR_STATUS_PLL0_LOCK) 7 = true ∧
    [8, 9].all (hypDeepSleep
        ({((tRun.put (GLOBAL_PMODE_MODE 0) 6).put GLOBAL_MODE_MODE 7) with modes := {tRun.modes with exiting := true, retrains := some 0}, clk := {uptime := 2000}, pauses := {deep := false}}:State)) = true ∧
    hypDeepSleep
        ({((tRun.put (GLOBAL_PMODE_MODE 0) 6).put GLOBAL_MODE_MODE 7) with modes := {tRun.modes with exiting := true, retrains := some 501}, clk := {uptime := 2000}, pauses := {deep := false}}:State) 10 = true := by
  decide +kernel

/-- What clause k of `Obligations.ResetsAndPower` assumes. -/
def hypResetsAndPower (ns : Nat) (straps : BitVec 3) (key : BitVec 8) (s : State) : Nat → Bool := fun clause =>

    decide (s.regsOk) && match clause with
    | 0 => decide (s.pins.pwrok = true ∧ s.fuses.cmd = none)
    | 1 => decide (s.pins.pwrok = true)
    | 2 => decide (s.pins.pwrok = false)
    | 3 => decide (s.pins.resetN = true ∧ ns ≤ 500)
    | 4 => decide (s.pins.resetN = true ∧ s.pins.pwrok = true ∧ s.fuses.cmd = none ∧ 1000 ≤ ns)
    | 5 => decide (s.pins.resetN = true ∧ 500 < ns ∧ ns < 1000)
    | 6 => decide (s.pins.resetN = false)
    | 7 => decide (s.modes.resetDue ≠ some true ∧ s.devMode ≠ 2)
    | 8 => decide (s.modes.resetDue ≠ some true ∧ s.devMode = 2 ∧ key ≠ 0x5E)
    | 9 => decide (s.modes.resetDue = some true ∧ s.devMode = 2 ∧ key = 0x5E)
    | 10 => decide (s.devMode = 2 ∧ key = 0x5E ∧ s.fuses.cmd = none ∧ s.modes.resetDue ≠ some true)
    | _ => false
theorem witness_ResetsAndPower :
    [0, 1, 3, 10].all (hypResetsAndPower 0 5 0x5E tRun) = true ∧
    hypResetsAndPower 0 5 0x5E ({tRun with pins := {pwrok := false}}:State) 2 = true ∧
    hypResetsAndPower 1000 5 0x5E tRun 4 = true ∧
    hypResetsAndPower 501 5 0x5E tRun 5 = true ∧
    hypResetsAndPower 0 5 0x5E ({tRun with pins := {resetN := false}}:State) 6 = true ∧
    hypResetsAndPower 0 5 0x5E (tRun.put GLOBAL_MODE_MODE 1) 7 = true ∧
    hypResetsAndPower 0 5 3 tRun 8 = true ∧
    hypResetsAndPower 0 5 0x5e ({tRun with modes := {tRun.modes with resetDue := some true}}:State) 9 = true := by
  decide +kernel

/-- What clause k of `Obligations.StartUp` assumes. -/
def hypStartUp (i : Fin 2) (s : State) : Nat → Bool := fun clause =>
    let hold := fun (n : Nat) => s.devMode = 0 ∧ s.rd GLOBAL_BOOT_STEP = n ∧ s.pins.pwrok = true ∧
        s.pins.resetN = true
    decide (s.regsOk) && match clause with
    | 0 => decide (hold 1 ∧ s.pauses.rail = false)
    | 1 => decide (hold 2 ∧ s.flag CLKPWR_STATUS_PLL0_LOCK = false ∧ s.flag CLKPWR_STATUS_PLL1_LOCK = false ∧
        s.flag (pllRetF i) = false ∧ s.pauses.rail = true)
    | 2 => decide (hold 2 ∧ s.flag CLKPWR_STATUS_PLL0_LOCK = false ∧ s.flag CLKPWR_STATUS_PLL1_LOCK = false ∧
        s.flag (pllRetF i) = false ∧ s.flag CLKPWR_STATUS_HCK_LOST = false ∧ s.pauses.rail = false)
    | 3 => decide (hold 2 ∧ s.flag CLKPWR_STATUS_PLL0_LOCK = false ∧ s.flag CLKPWR_STATUS_PLL1_LOCK = false ∧
        s.flag CLKPWR_STATUS_HCK_LOST = false)
    | 4 => decide (s.devMode = 1 ∧ s.rd GLOBAL_BOOT_STEP = 5 ∧ s.modes.memReady = false ∧ s.paused = false ∧
        ((∀ c : Nat, c < 34 → s.rd (MC_TRN_STAT_LAST_KIND c) ≠ 0 ∨ s.mcState c = 4 ∨ (32 ≤ c ∧
        s.flag MC_LAYER_STAT_SPARE_BAD = true))))
    | _ => false
theorem witness_StartUp :
    hypStartUp 0 (State.reset.put GLOBAL_BOOT_STEP 1) 0 = true ∧
    hypStartUp 0 ({State.reset.put GLOBAL_BOOT_STEP 2 with pauses := {rail := true}}:State) 1 = true ∧
    [2, 3].all (hypStartUp 0 (State.reset.put GLOBAL_BOOT_STEP 2)) = true ∧
    hypStartUp 0 ((upFrom 0 34).foldl (fun s c => s.put (MC_TRN_STAT_LAST_KIND c) 1) ((State.reset.put
        GLOBAL_MODE_MODE 1).put GLOBAL_BOOT_STEP 5)) 4 = true := by
  decide +kernel

/-- What clause k of `Obligations.ClocksAndRails` assumes. -/
def hypClocksAndRails (i : Fin 2) (count : BitVec 16) (p : Fin 28) (r : Fin 4) (s : State) : Nat →
    Bool := fun clause =>
    let good := 4352 ≤ count.toNat ∧ count.toNat ≤ 17408
    let locked := s.flag (pllLockF (s.rd CLKPWR_STATUS_PRIMARY)) = true
    let watched := s.devMode ≠ 0 ∧ (s.devMode ≠ 7 ∨ s.flag CLKPWR_STATUS_HCK_LOST = true ∨ (s.modes.exiting = true ∧
        locked))
    decide (s.regsOk) && match clause with
    | 0 => decide (s.flag (pllLockF i) = true ∧ s.flag (pllLockF (1 - i.val)) = true ∧
        s.rd CLKPWR_STATUS_PRIMARY = i.val ∧ s.flag CLKPWR_STATUS_HCK_LOST = false)
    | 1 => decide (s.flag (pllLockF i) = true ∧ s.flag (pllLockF (1 - i.val)) = true ∧
        s.rd CLKPWR_STATUS_PRIMARY ≠ i.val)
    | 2 => decide (s.flag CLKPWR_STATUS_SWITCHING = true)
    | 3 => decide (s.pllTries i = true ∧ s.flag (pllRetF i) = false)
    | 4 => decide (s.pllTries i = true)
    | 5 => decide (¬ watched)
    | 6 => decide (watched ∧ s.flag CLKPWR_STATUS_HCK_LOST = false ∧ good)
    | 7 => decide (s.devMode ≠ 0 ∧ s.flag CLKPWR_STATUS_HCK_LOST = true ∧ good ∧ locked ∧ ((s.clocks.skipWin = true ∨
        s.clocks.goodWindows + 1 < max 1 (s.rd CLKPWR_CFG_RESUME_WINDOWS))))
    | 8 => decide (s.devMode ≠ 0 ∧ s.flag CLKPWR_STATUS_HCK_LOST = true ∧ good ∧ locked ∧ s.clocks.skipWin = false ∧
        max 1 (s.rd CLKPWR_CFG_RESUME_WINDOWS) ≤ s.clocks.goodWindows + 1)
    | 9 => decide (watched ∧ s.flag CLKPWR_STATUS_HCK_LOST = false ∧ ¬ good)
    | 10 => decide (s.rd (CLKPWR_PHASE_STATE p) = 1)
    | 11 => ((List.finRange 28).any fun q => decide (s.rd (CLKPWR_PHASE_STATE p) = 0 ∧ q ≠ p ∧
        s.rd (CLKPWR_PHASE_STATE q) = 1 ∧ (∀ k : Nat, k < q.val → s.rd (CLKPWR_PHASE_STATE k) ≠ 1) ∧
        s.restarting = false))
    | 12 => decide (s.rd (CLKPWR_PHASE_STATE p) = 0 ∧ s.restarting = true)
    | _ => false
theorem witness_ClocksAndRails :
    hypClocksAndRails 0 10000 3 1
        ({((((tRun.putb CLKPWR_STATUS_PLL0_LOCK (1=1)).putb CLKPWR_STATUS_PLL1_LOCK (1=1)).put CLKPWR_STATUS_PRIMARY 0)) with clocks := {}}:State) 0 = true ∧
    hypClocksAndRails 0 10000 3 1
        ({((((tRun.putb CLKPWR_STATUS_PLL0_LOCK (1=1)).putb CLKPWR_STATUS_PLL1_LOCK (1=1)).put CLKPWR_STATUS_PRIMARY 1)) with clocks := {}}:State) 1 = true ∧
    hypClocksAndRails 0 10000 3 1
        ({((((tRun.putb CLKPWR_STATUS_PLL0_LOCK (0=1)).putb CLKPWR_STATUS_PLL1_LOCK (0=1)).put CLKPWR_STATUS_PRIMARY 0).on CLKPWR_STATUS_SWITCHING) with clocks := {}}:State) 2 = true ∧
    [3, 4].all (hypClocksAndRails 0 10000 3 1
        ({((((tRun.putb CLKPWR_STATUS_PLL0_LOCK (0=1)).putb CLKPWR_STATUS_PLL1_LOCK (0=1)).put CLKPWR_STATUS_PRIMARY 0)) with clocks := {trying0 := true}}:State)) = true ∧
    hypClocksAndRails 0 3 3 1 (tRun.put GLOBAL_MODE_MODE 0) 5 = true ∧
    [6, 11].all (hypClocksAndRails 0 10000 3 1
        ({((((tRun.putb CLKPWR_STATUS_PLL0_LOCK (0=1)).putb CLKPWR_STATUS_PLL1_LOCK (0=1)).put CLKPWR_STATUS_PRIMARY 0)) with clocks := {}}:State)) = true ∧
    hypClocksAndRails 0 5000 3 1
        ({((tRun.put CLKPWR_STATUS_HCK_LOST 1).put CLKPWR_STATUS_PLL0_LOCK 1).put CLKPWR_CFG_RESUME_WINDOWS 0 with clocks := {goodWindows := 0, skipWin := true}, pauses := {hck := true}}:State) 7 = true ∧
    hypClocksAndRails 0 5000 3 1
        ({((tRun.put CLKPWR_STATUS_HCK_LOST 1).put CLKPWR_STATUS_PLL0_LOCK 1).put CLKPWR_CFG_RESUME_WINDOWS 0 with clocks := {goodWindows := 0, skipWin := false}, pauses := {hck := true}}:State) 8 = true ∧
    hypClocksAndRails 0 0 0 0 tRun 9 = true ∧
    hypClocksAndRails 0 0 24 0 tRun 10 = true ∧
    hypClocksAndRails 0 3 3 1 ((tRun.put ALM_STATUS_STATE 3).put (CLKPWR_PHASE_STATE 3) 0) 12 = true := by
  decide +kernel

/-- What clause k of `Obligations.ClockGating` assumes. -/
def hypClockGating (n : Fin 1024) (s : State) : Nat → Bool := fun clause =>
    let fault := s.gateFault s.img.active fun k => (s.reg (0x801000 + 4 * k)).toNat
    decide (s.regsOk) && decide (s.effOk) && match clause with
    | 0 => decide (s.paused = false ∧ s.devMode ≠ 0 ∧ n.val ∈ gateBlocks ∧ s.gateEn n = false ∧
        s.gateWithheld n = false ∧ s.flag (CLKPWR_GATE_GATED n) = false ∧ s.flag (CLKPWR_GATE_WAITING n) = false ∧
        s.gates.refused = [] ∧ s.gates.woken = [])
    | 1 => decide (s.flag (CLKPWR_GATE_WAITING n) = true ∧ s.blockBusy n = 0 ∧ s.gateEn n = true)
    | 2 => decide (s.flag (CLKPWR_GATE_WAITING n) = true ∧ s.blockBusy n = 0 ∧ s.gateEn n = false ∧ n.val / 128 ≠ 3)
    | 3 => decide (s.flag (CLKPWR_GATE_WAITING n) = true ∧ s.blockBusy n ≠ 0 ∧
        s.flag CLKPWR_GATE_COMMIT_FORCE = false)
    | 4 => decide (wakeable n = true ∧ s.paused = false ∧ s.unitOut n = false ∧ s.flag (CLKPWR_GATE_GATED n) = true)
    | 5 => (match s.gates.woken.find? (fun x => x.1 = n.val) with
   | some w => decide (s.paused = false ∧ w.2 + 1024 ≤ s.clk.fclk)
   | _ => false)
    | 6 => (match fault with
   | some (k, c) => true
   | _ => false)
    | 7 => decide (fault = none)
    | _ => false
theorem witness_ClockGating :
    hypClockGating 0 (State.reset.put GLOBAL_MODE_MODE 2) 0 = true ∧
    hypClockGating 0 (tRun.on (CLKPWR_GATE_WAITING 0)) 1 = true ∧
    hypClockGating 71 (tRun.on (CLKPWR_GATE_WAITING 71)) 2 = true ∧
    hypClockGating 640 ({tRun.on (CLKPWR_GATE_WAITING 640) with mcs := tRun.mcs.set 2 {rq := [default]}}:State) 3 =
        true ∧
    hypClockGating 300 (tRun.on (CLKPWR_GATE_GATED 300)) 4 = true ∧
    hypClockGating 0 ({tRun with clk := {fclk := 5000}, gates := {woken := [(0,3976)]}}:State) 5 = true ∧
    hypClockGating 0 ((tRun.put (CLKPWR_GATE_RUN_EN 0) 0).put (CLKPWR_GATE_SLEEP_EN 0) 0) 6 = true ∧
    hypClockGating 0 tRun 7 = true := by
  decide +kernel

end Sys

/-! Witnesses: pattern engines -/

namespace Eng


/-- What clause k of `Obligations.RegisterArithmetic` assumes. -/
def hypRegisterArithmetic (e : Eng) (gd ga gb : Fin 16) (s : State) : Nat → Bool := fun clause =>

    decide (s.regsOk) && match clause with
    | 0 => true
    | 1 => decide (s.ready e (fmtA 2 gd ga gb 0) = true)
    | 2 => decide (s.ready e (fmtA 3 gd ga gb 0) = true)
    | 3 => decide (s.ready e (fmtA 4 gd ga gb 0) = true)
    | 4 => decide (s.ready e (fmtA 5 gd ga gb 0) = true)
    | 5 => decide (s.ready e (fmtA 6 gd ga gb 0) = true)
    | 6 => decide (s.ready e (fmtA 7 gd ga gb 0) = true)
    | 7 => decide (s.ready e (fmtA 8 gd ga gb 0) = true)
    | _ => false
theorem witness_RegisterArithmetic :
    [0, 1].all (hypRegisterArithmetic 0 1 2 3 (((tEng 0 (fmtA 2 1 2 3 0)).setG 0 2 (BitVec.ofNat 64 (2^64-5))).setG 0
        3 7)) = true ∧
    hypRegisterArithmetic 0 1 2 3 (((tEng 0 (fmtA 3 1 2 3 0)).setG 0 2 (BitVec.ofNat 64 (2^64-5))).setG 0 3 7) 2 =
        true ∧
    hypRegisterArithmetic 0 1 2 3 (((tEng 0 (fmtA 4 1 2 3 0)).setG 0 2 (BitVec.ofNat 64 (2^64-5))).setG 0 3 7) 3 =
        true ∧
    hypRegisterArithmetic 0 1 2 3 (((tEng 0 (fmtA 5 1 2 3 0)).setG 0 2 (BitVec.ofNat 64 (2^64-5))).setG 0 3 7) 4 =
        true ∧
    hypRegisterArithmetic 0 1 2 3 (((tEng 0 (fmtA 6 1 2 3 0)).setG 0 2 (BitVec.ofNat 64 (2^64-5))).setG 0 3 7) 5 =
        true ∧
    hypRegisterArithmetic 0 1 2 3 (((tEng 0 (fmtA 7 1 2 3 0)).setG 0 2 (BitVec.ofNat 64 (2^64-5))).setG 0 3 7) 6 =
        true ∧
    hypRegisterArithmetic 0 1 2 3 (((tEng 0 (fmtA 8 1 2 3 0)).setG 0 2 (BitVec.ofNat 64 (2^64-5))).setG 0 3 7) 7 =
        true := by
  decide +kernel

/-- What clause k of `Obligations.ImmediateArithmetic` assumes. -/
def hypImmediateArithmetic (e : Eng) (gd ga : Fin 16) (imm : BitVec 18) (sh : BitVec 6) (s : State) : Nat →
    Bool := fun clause =>

    decide (s.regsOk) && match clause with
    | 0 => decide (s.ready e (fmtB 10 gd ga imm.toNat) = true)
    | 1 => decide (s.ready e (fmtB 11 gd ga imm.toNat) = true)
    | 2 => decide (s.ready e (fmtB 12 gd ga imm.toNat) = true)
    | 3 => decide (s.ready e (fmtB 13 gd ga imm.toNat) = true)
    | 4 => decide (s.ready e (fmtB 14 gd ga sh.toNat) = true)
    | 5 => decide (s.ready e (fmtB 15 gd ga sh.toNat) = true)
    | _ => false
theorem witness_ImmediateArithmetic :
    hypImmediateArithmetic 0 1 2 63 63 ((tEng 0 (fmtB 10 1 2 63)).setG 0 2 (BitVec.ofNat 64 (2^64-5))) 0 = true ∧
    hypImmediateArithmetic 0 1 2 63 63 ((tEng 0 (fmtB 11 1 2 63)).setG 0 2 (BitVec.ofNat 64 (2^64-5))) 1 = true ∧
    hypImmediateArithmetic 0 1 2 63 63 ((tEng 0 (fmtB 12 1 2 63)).setG 0 2 (BitVec.ofNat 64 (2^64-5))) 2 = true ∧
    hypImmediateArithmetic 0 1 2 63 63 ((tEng 0 (fmtB 13 1 2 63)).setG 0 2 (BitVec.ofNat 64 (2^64-5))) 3 = true ∧
    hypImmediateArithmetic 0 1 2 63 63 ((tEng 0 (fmtB 14 1 2 63)).setG 0 2 (BitVec.ofNat 64 (2^64-5))) 4 = true ∧
    hypImmediateArithmetic 0 1 2 63 63 ((tEng 0 (fmtB 15 1 2 63)).setG 0 2 (BitVec.ofNat 64 (2^64-5))) 5 = true := by
  decide +kernel

/-- What clause k of `Obligations.MovesAndConstants` assumes. -/
def hypMovesAndConstants (e : Eng) (gd ga : Fin 16) (n : BitVec 8) (imm : BitVec 18) (k : Fin 4) (h : BitVec 16) (s :
    State) : Nat → Bool := fun clause =>
    let g := s.eng e
    let v := s.getG e ga
    let reads : List (Nat × W64) := [
      (0x02, BitVec.ofNat 64 (g.desc.cls % 8)), (0x03, g.trapcause), (0x04, g.trappc.setWidth 64),
      (0x05, BitVec.ofNat 64 (g.desc.part % 16)), (0x08, g.lc[0].setWidth 64), (0x09, g.lc[1].setWidth 64),
      (0x0A, g.lc[2].setWidth 64), (0x0B, g.lc[3].setWidth 64), (0x10, g.ax.val.setWidth 64), (0x11,
          g.ax.lim.setWidth 64),
      (0x12, g.ax.step.signExtend 64), (0x13, g.ax.wrap.setWidth 64), (0x14, g.ay.val.setWidth 64),
      (0x15, g.ay.lim.setWidth 64), (0x16, g.ay.step.signExtend 64), (0x17, g.ay.wrap.setWidth 64), (0x18,
          g.az.setWidth 64),
      (0x19, g.azLim.setWidth 64), (0x1A, g.acfg.setWidth 64), (0x20, g.dg), (0x21, g.dgcfg.setWidth 64),
      (0x22, BitVec.ofNat 64 g.stime), (0x23, BitVec.ofNat 64 s.vt.vt), (0x24, g.barto.setWidth 64)]
    let writes : List (Nat × Engine) := [
      (0x01, { g with flags := v.setWidth 6 }), (0x03, { g with trapcause := v }), (0x04,
          { g with trappc := v.setWidth 24 }),
      (0x08, { g with lc := g.lc.set 0 (v.setWidth 32) }), (0x09, { g with lc := g.lc.set 1 (v.setWidth 32) }),
      (0x0A, { g with lc := g.lc.set 2 (v.setWidth 32) }), (0x0B, { g with lc := g.lc.set 3 (v.setWidth 32) }),
      (0x10, { g with ax := { g.ax with val := v.setWidth 24 } }), (0x11,
          { g with ax := { g.ax with lim := v.setWidth 24 } }),
      (0x12, { g with ax := { g.ax with step := v.setWidth 24 } }), (0x13,
          { g with ax := { g.ax with wrap := v.setWidth 24 } }),
      (0x14, { g with ay := { g.ay with val := v.setWidth 24 } }), (0x15,
          { g with ay := { g.ay with lim := v.setWidth 24 } }),
      (0x16, { g with ay := { g.ay with step := v.setWidth 24 } }), (0x17,
          { g with ay := { g.ay with wrap := v.setWidth 24 } }),
      (0x18, { g with az := v.setWidth 8 }), (0x19, { g with azLim := v.setWidth 8 }), (0x1A,
          { g with acfg := v.setWidth 15 }),
      (0x20, { g with dg := v }), (0x21, { g with dgcfg := v.setWidth 13 }), (0x24,
          { g with barto := v.setWidth 32 })]
    decide (s.regsOk) && match clause with
    | 0 => decide (s.ready e (fmtA 1 0 0 0 0) = true)
    | 1 => decide (s.ready e (fmtA 9 gd ga 0 0) = true)
    | 2 => ((reads).any fun p => decide (n.toNat = p.1 ∧ s.ready e (fmtA 9 gd 0 0 (0x1000 + n.toNat)) = true))
    | 3 => decide (s.ready e (fmtA 9 gd 0 0 0x1001) = true ∧ (∀ d ∈ g.drqs, d.tag < 16))
    | 4 => decide (s.ready e (fmtA 9 gd 0 0 0x1000) = true)
    | 5 => ((writes).any fun p => decide (n.toNat = p.1 ∧ s.ready e (fmtA 9 0 ga 0 (0x2000 + n.toNat)) = true ∧
        (n = 0x1A → bits v.toNat 5 5 ≤ 16 ∧ bits v.toNat 10 5 ≤ 16) ∧ (n = 0x21 → bits v.toNat 2 5 ≤ 23 ∧
        bits v.toNat 7 5 ≤ 23)))
    | 6 => decide (s.ready e (fmtB 16 gd 0 imm.toNat) = true)
    | 7 => decide (s.ready e (fmtB 16 gd (8 + k.val) h.toNat) = true)
    | _ => false
theorem witness_MovesAndConstants :
    hypMovesAndConstants 0 1 2 5 0x3FFFF 3 0xABCD ((tEng 0 (fmtA 1 0 0 0 0)).setG 0 2 99) 0 = true ∧
    hypMovesAndConstants 0 1 2 5 0x3FFFF 3 0xABCD ((tEng 0 (fmtA 9 1 2 0 0)).setG 0 2 99) 1 = true ∧
    hypMovesAndConstants 0 1 2 2 0x3FFFF 3 0xABCD ((tEng 0 (fmtA 9 1 0 0 (0x1000+2))).setG 0 2 99) 2 = true ∧
    hypMovesAndConstants 0 1 2 1 0x3FFFF 3 0xABCD ((tEng 0 (fmtA 9 1 0 0 (0x1000+1))).setG 0 2 99) 3 = true ∧
    hypMovesAndConstants 0 1 2 5 0x3FFFF 3 0xABCD ((tEng 0 (fmtA 9 1 0 0 0x1000)).setG 0 2 99) 4 = true ∧
    hypMovesAndConstants 0 1 2 1 0x3FFFF 3 0xABCD ((tEng 0 (fmtA 9 0 2 0 (0x2000+1))).setG 0 2 99) 5 = true ∧
    hypMovesAndConstants 0 1 2 5 0x3FFFF 3 0xABCD ((tEng 0 (fmtB 16 1 0 0x3FFFF)).setG 0 2 99) 6 = true ∧
    hypMovesAndConstants 0 1 2 5 0x3FFFF 3 0xABCD ((tEng 0 (fmtB 16 1 11 0xABCD)).setG 0 2 99) 7 = true := by
  decide +kernel

/-- What clause k of `Obligations.LocalSram` assumes. -/
def hypLocalSram (e : Eng) (gd ga : Fin 16) (imm : BitVec 18) (u : SramUpset) (s : State) : Nat →
    Bool := fun clause =>
    let a := (s.getG e ga + imm.signExtend 64).toNat % 65536
    let ld := fmtB 17 gd ga imm.toNat
    let st := fmtB 18 gd ga imm.toNat
    decide (s.regsOk) && decide (s.sramWf = true) && match clause with
    | 0 => decide (a % 8 = 0 ∧ (s.eng e).drqHits a = true)
    | 1 => decide (a % 8 = 0 ∧ (s.eng e).drqHits a = false ∧ s.ready e ld = true)
    | 2 => decide (a % 8 = 0 ∧ (s.eng e).drqHits a = false ∧ s.ready e ld = true ∧ (canTrapB s e))
    | 3 => decide (a % 8 = 0 ∧ (s.eng e).drqHits a = false ∧ s.ready e st = true)
    | _ => false
theorem witness_LocalSram :
    hypLocalSram 0 1 2 64 .clean ((tEng 0 (fmtB 17 1 2 64)).updEng 0 fun g => { g with drqs := [tDrq 3] }) 0 = true ∧
    [1, 2].all (hypLocalSram 0 1 2 0x3FFF8 .clean ((tEng 0 (fmtB 17 1 2 0x3FFF8)).setG 0 2 0)) = true ∧
    hypLocalSram 0 1 2 0x3FFF8 .clean ((tEng 0 (fmtB 18 1 2 0x3FFF8)).setG 0 2 0) 3 = true := by
  decide +kernel

/-- What clause k of `Obligations.DramRequests` assumes. -/
def hypDramRequests (e : Eng) (t ga gb : Fin 16) (write : Bool) (mask : BitVec 16) (us : List (Nat × Bool)) (s :
    State) : Nat → Bool := fun clause =>
    let a := (s.getG e ga).toNat
    let b := (s.getG e gb).toNat
    let loc := b % 65536
    let len := b / 65536
    let w := fmtA 19 t ga gb (if write then 1 else 0)
    let idle := ∀ d ∈ (s.eng e).drqs, d.tag ≠ t.val
    decide (s.regsOk) && decide (s.sramWf = true) && match clause with
    | 0 => decide (¬ idle)
    | 1 => decide (s.ready e w = true ∧ idle ∧ a % 64 = 0 ∧ loc % 64 = 0 ∧ len % 64 = 0 ∧ loc + len ≤ 65536 ∧ len = 0)
    | 2 => decide (s.ready e w = true ∧ idle ∧ a % 64 = 0 ∧ loc % 64 = 0 ∧ len % 64 = 0 ∧ loc + len ≤ 65536 ∧
        len ≠ 0 ∧ s.inOneRegion e a len = true)
    | 3 => decide (s.ready e w = true ∧ idle ∧ a % 64 = 0 ∧ loc % 64 = 0 ∧ len % 64 = 0 ∧ loc + len ≤ 65536 ∧
        len ≠ 0 ∧ s.inOneRegion e a len = false ∧ (canTrapB s e))
    | 4 => decide (s.ready e (fmtB 20 0 0 mask.toNat) = true)
    | 5 => (match s.drqLive e t with
   | some d => decide (s.memHeld (s.drqAcc e d) d.cube d.len = true)
   | _ => false)
    | 6 => (match s.drqLive e t with
   | some d => decide (s.memHeld (s.drqAcc e d) d.cube d.len = false ∧ (s.drqRun e d us).2 = none)
   | _ => false)
    | 7 => (match s.drqLive e t with
   | some d => (decide (s.memHeld (s.drqAcc e d) d.cube d.len = false) && (match (s.drqRun e d us).2 with
   | some x => true
   | _ => false))
   | _ => false)
    | _ => false
theorem witness_DramRequests :
    [0, 6].all (hypDramRequests 0 5 2 3 false 0x0020 [] ((tEng 0 (fmtB 20 0 0 0x20)).updEng 0 fun g =>
        { g with drqs := [tDrq 5] })) = true ∧
    hypDramRequests 0 5 2 3 false 0x0020 [] (((tEng 0 (fmtA 19 5 2 3 0)).setG 0 2 128).setG 0 3 64) 1 = true ∧
    hypDramRequests 0 5 2 3 false 0x0020 [] (((tEng 0 (fmtA 19 5 2 3 0)).setG 0 2 128).setG 0 3 (64+64*65536)) 2 =
        true ∧
    hypDramRequests 0 5 2 3 false 0x0020 [] (((tEng 0 (fmtA 19 5 2 3 0)).setG 0 2 (2^20)).setG 0 3 (64+64*65536)) 3 =
        true ∧
    hypDramRequests 0 5 2 3 false 0x0020 [] ((tEng 0 (fmtB 20 0 0 0x20)).updEng 0 fun g =>
        { g with drqs := [tDrq 3] }) 4 = true ∧
    hypDramRequests 0 5 2 3 false 0x0020 [] (((tEng 0 0).put (MC_STATE_STATE 0) 3).updEng 0 fun g =>
        { g with drqs := [tDrq 5] }) 5 = true ∧
    hypDramRequests 0 5 2 3 false 0x0020 [] (({tEng 0 0 with masks := [(2, 0xF0F0F)]} : State).updEng 0 fun g =>
        { g with drqs := [tDrq 5] }) 7 = true := by
  decide +kernel

/-- What clause k of `Obligations.Generators` assumes. -/
def hypGenerators (e : Eng) (gd ga : Fin 16) (mode : BitVec 3) (op : Fin 3) (x y : BitVec 5) (chk : Bool) (f : BitVec
    4) (s : State) : Nat → Bool := fun clause =>
    let g := s.eng e
    let v := s.getG e ga
    let targets : List (Nat × Engine) := [
      (0, { g with ax := { g.ax with val := v.setWidth 24 } }), (1,
          { g with ax := { g.ax with lim := v.setWidth 24 } }),
      (2, { g with ax := { g.ax with step := v.setWidth 24 } }), (3,
          { g with ax := { g.ax with wrap := v.setWidth 24 } }),
      (4, { g with ay := { g.ay with val := v.setWidth 24 } }), (5,
          { g with ay := { g.ay with lim := v.setWidth 24 } }),
      (6, { g with ay := { g.ay with step := v.setWidth 24 } }), (7,
          { g with ay := { g.ay with wrap := v.setWidth 24 } }),
      (8, { g with az := v.setWidth 8 }), (9, { g with azLim := v.setWidth 8 }), (10,
          { g with acfg := v.setWidth 15 })]
    decide (s.regsOk) && decide (s.sramWf = true) && match clause with
    | 0 => ((targets).any fun p => decide (gd.val = p.1 ∧ s.ready e (fmtA 21 gd ga 0 0) = true ∧ (gd = 10 →
        bits v.toNat 5 5 ≤ 16 ∧ bits v.toNat 10 5 ≤ 16)))
    | 1 => decide (s.ready e (fmtA 22 0 0 0 mode.toNat) = true)
    | 2 => decide (s.ready e (fmtA 23 gd ga 0 0) = true ∧ gd.val ≤ 1)
    | 3 => decide (s.ready e (fmtA 24 0 ga 0 0) = true)
    | 4 => decide (s.ready e (fmtA 25 0 0 0 op.val) = true)
    | 5 => decide (s.ready e (fmtB 26 0 0 (x.toNat + y.toNat * 32 + (if chk then 1024 else 0))) = true ∧
        x.toNat ≤ 23 ∧ y.toNat ≤ 23)
    | 6 => decide (s.ready e (fmtA 27 0 ga 0 f.toNat) = true ∧ (f.getLsbD 3 = true → f.getLsbD 1 = true))
    | _ => false
theorem witness_Generators :
    hypGenerators 0 0 2 0 0 0 0 false 0 (((tEng 0 (fmtA 21 0 2 0 0)).setG 0 2 77).updEng 0 fun g =>
        { g with ax := { val := 7, lim := 7, step := 3, wrap := 2 }, ay := { val := 9, lim := 9, step := 5, wrap := 1 }, az := 7, azLim := 7 }) 0 = true ∧
    hypGenerators 0 1 2 0 0 0 0 false 0 (((tEng 0 (fmtA 22 0 0 0 0)).setG 0 2 77).updEng 0 fun g =>
        { g with ax := { val := 7, lim := 7, step := 3, wrap := 2 }, ay := { val := 9, lim := 9, step := 5, wrap := 1 }, az := 7, azLim := 7 }) 1 = true ∧
    hypGenerators 0 1 2 0 0 0 0 false 0 (((tEng 0 (fmtA 23 1 2 0 0)).setG 0 2 256).updEng 0 fun g =>
        { g with ax := { val := 7, lim := 7, step := 3, wrap := 2 }, ay := { val := 9, lim := 9, step := 5, wrap := 1 }, az := 7, azLim := 7 }) 2 = true ∧
    hypGenerators 0 1 2 0 0 0 0 false 0 (((tEng 0 (fmtA 24 0 2 0 0)).setG 0 2 256).updEng 0 fun g =>
        { g with ax := { val := 7, lim := 7, step := 3, wrap := 2 }, ay := { val := 9, lim := 9, step := 5, wrap := 1 }, az := 7, azLim := 7 }) 3 = true ∧
    hypGenerators 0 1 2 0 0 0 0 false 0 (((tEng 0 (fmtA 25 0 0 0 0)).setG 0 2 256).updEng 0 fun g =>
        { g with ax := { val := 7, lim := 7, step := 3, wrap := 2 }, ay := { val := 9, lim := 9, step := 5, wrap := 1 }, az := 7, azLim := 7 }) 4 = true ∧
    hypGenerators 0 1 2 0 0 23 5 true 0 (((tEng 0 (fmtB 26 0 0 (23+5*32+1024))).setG 0 2 256).updEng 0 fun g =>
        { g with ax := { val := 7, lim := 7, step := 3, wrap := 2 }, ay := { val := 9, lim := 9, step := 5, wrap := 1 }, az := 7, azLim := 7 }) 5 = true ∧
    hypGenerators 0 1 2 0 0 0 0 false 0 (((tEng 0 (fmtA 27 0 2 0 0)).setG 0 2 (0xF000000000000001)).updEng 0 fun g =>
        { g with ax := { val := 7, lim := 7, step := 3, wrap := 2 }, ay := { val := 9, lim := 9, step := 5, wrap := 1 }, az := 7, azLim := 7 }) 6 = true := by
  decide +kernel

/-- What clause k of `Obligations.EmitCycles` assumes. -/
def hypEmitCycles (e : Eng) (src mask : Fin 16) (f : BitVec 3) (n : BitVec 10) (eclk : Nat) (s : State) : Nat →
    Bool := fun clause =>
    let s1 := s.advance e
    let s2 := s.add (ENG_STALL_ECLK e) eclk
    let free := fun (u : State) => (u.eng e).async = [] ∧ (u.eng e).stopReq = none ∧ u.stopHere e = false ∧
      (u.roles e).length ≤ 64
    let plain := fun (u : State) => free u ∧ (u.eng e).vs = none ∧ ∀ r ∈ u.roles e, r.1 < 6
    decide (s.regsOk) && match clause with
    | 0 => decide (s.ready e (fmtD 28 src mask 0 f.toNat) = true ∧ s.aux e = false ∧ plain s1 ∧ s1.cycleRoom e = true)
    | 1 => (match (s.eng e).vs with
   | some v => (decide (v.pure = false) && (match v.queue with
   | h :: q => decide (s.ready e (fmtD 28 src mask 0 f.toNat) = true ∧ s.aux e = false ∧ free s1 ∧
       s1.cycleRoom e = true)
   | _ => false))
   | _ => false)
    | 2 => decide (s.ready e (fmtD 28 src mask 0 f.toNat) = true ∧ s.aux e = false ∧ s1.stopHere e = false ∧
        (s.eng e).vs = none ∧ (∃ r ∈ s1.roles e, r.1 = 6) ∧ (canTrapB s e))
    | 3 => decide (s.ready e (fmtD 28 src mask 0 f.toNat) = true ∧ s.aux e = false ∧ plain s1 ∧
        s1.cycleRoom e = false ∧ (s.stg e).held = false)
    | 4 => decide (s.ready e (fmtD 29 src mask 1 f.toNat) = true ∧ s.aux e = false ∧ plain s1 ∧ s1.cycleRoom e = true)
    | 5 => decide (s.ready e (fmtD 29 src mask n.toNat f.toNat) = true ∧ s.aux e = false ∧ plain s1 ∧ f.toNat ≤ 1 ∧
        n ≠ 0 ∧ (s.eng e).stopVt = none ∧ (∀ p, s.engPart e = some p → s.stopVt p = none) ∧ (s.stg e).fillOk = true ∧
        s1.echoRoom e n.toNat = true ∧ (s.stg e).cur.length + n.toNat < s.rowLen e)
    | 6 => decide (s.ready e (fmtD 29 src mask 0 f.toNat) = true ∧ s.aux e = false ∧ plain s1)
    | 7 => decide (s.ready e (fmtD 29 src mask n.toNat f.toNat) = true ∧ s.aux e = false ∧ plain s1 ∧ n ≠ 0 ∧
        s1.cycleRoom e = false ∧ (s.stg e).held = false)
    | 8 => decide ((s.eng e).wait = .emit 28 src mask f.toNat 1 ∧ s.engHeld e = false ∧ plain s2 ∧
        s2.cycleRoom e = true)
    | 9 => decide ((s.eng e).wait = .emit 28 src mask f.toNat 1 ∧ s.engHeld e = false ∧ plain s2 ∧
        s2.cycleRoom e = false ∧ (s.stg e).held = false)
    | _ => false
theorem witness_EmitCycles :
    hypEmitCycles 0 2 3 1 1 17 ((((tEng 0 (fmtD 28 2 3 0 1)).setG 0 2 0xABCD).setG 0 3 0x0F0F).updEng 0 (fun g =>
        { g with stime := 40, origin := 40, ax := {val := 5}, az := 3, stg := { g.stg with fill := 0 } })) 0 = true ∧
    hypEmitCycles 0 2 3 2 0 17
        (({(((tEng 0 (fmtD 28 2 3 0 2)).setG 0 2 0xABCD).setG 0 3 0x0F0F) with img := {tRun.img with active := {tImg with pins := [⟨0, (List.range 16).map fun i => (6, i)⟩]}}}:State).updEng 0 (fun g => { g with stime := 40, origin := 40, ax := {val := 5, lim := 5, wrap := 9}, ay := {val := 3}, az := 3, acfg := 6, dg := 0xF000000000000001, dgcfg := 0x1000, vs := some {pure := false, next := 128, left := 0, stamp := 0, queue := [0x123456789ABCDEF, 5]}, stg := { g.stg with fill := 0, cur := [⟨5,7⟩] } })) 1 = true ∧
    hypEmitCycles 0 2 3 2 0 17
        (({(((tEng 0 (fmtD 28 2 3 0 2)).setG 0 2 0xABCD).setG 0 3 0x0F0F) with img := {tRun.img with active := {tImg with pins := [⟨0, (List.range 16).map fun i => (6, i)⟩]}}}:State).updEng 0 (fun g => { g with stime := 40, origin := 40, ax := {val := 5, lim := 5, wrap := 9}, ay := {val := 3}, az := 3, acfg := 6, dg := 0xF000000000000001, dgcfg := 0x1000, vs := none, stg := { g.stg with fill := 0, cur := [⟨5,7⟩] } })) 2 = true ∧
    hypEmitCycles 0 2 3 1 1 17 ((((tEng 0 (fmtD 28 2 3 0 1)).setG 0 2 0xABCD).setG 0 3 0x0F0F).updEng 0 (fun g =>
        { g with stime := 40, origin := 40, ax := {val := 5}, az := 3, stg := { g.stg with fill := 512, rows := [⟨0,0,[⟨5,7⟩]⟩] } })) 3 = true ∧
    [4, 5].all (hypEmitCycles 0 2 3 1 1 17 ((((tEng 0 (fmtD 29 2 3 1 1)).setG 0 2 0xABCD).setG 0 3 0x0F0F).updEng 0
        (fun g => { g with stime := 40, origin := 40, ax := {val := 5}, az := 3, stg := { g.stg with fill := 0 } })))
        = true ∧
    hypEmitCycles 0 2 3 1 1 17 ((((tEng 0 (fmtD 29 2 3 0 1)).setG 0 2 0xABCD).setG 0 3 0x0F0F).updEng 0 (fun g =>
        { g with stime := 40, origin := 40, ax := {val := 5}, az := 3, stg := { g.stg with fill := 0 } })) 6 = true ∧
    hypEmitCycles 0 2 3 1 5 17 ((((tEng 0 (fmtD 29 2 3 5 1)).setG 0 2 0xABCD).setG 0 3 0x0F0F).updEng 0 (fun g =>
        { g with stime := 40, origin := 40, ax := {val := 5}, az := 3, stg := { g.stg with fill := 512, rows := [⟨0,0,[⟨5,7⟩]⟩] } })) 7 = true ∧
    hypEmitCycles 0 2 3 1 1 17 ((((tEng 0 (0)).setG 0 2 0xABCD).setG 0 3 0x0F0F).updEng 0 (fun g =>
        { g with stime := 40, origin := 40, ax := {val := 5}, az := 3, wait := .emit 28 2 3 1 1, stg := { g.stg with fill := 0 } })) 8 = true ∧
    hypEmitCycles 0 2 3 1 1 17 ((((tEng 0 (0)).setG 0 2 0xABCD).setG 0 3 0x0F0F).updEng 0 (fun g =>
        { g with stime := 40, origin := 40, ax := {val := 5}, az := 3, wait := .emit 28 2 3 1 1, stg := { g.stg with fill := 512, rows := [⟨0,0,[⟨5,7⟩]⟩] } })) 9 = true := by
  decide +kernel

/-- What clause k of `Obligations.StoredVectors` assumes. -/
def hypStoredVectors (e : Eng) (ga gb : Fin 16) (merge : Bool) (us : List (Nat × BitVec 256)) (s : State) : Nat →
    Bool := fun clause =>
    let a := (s.getG e ga).toNat
    let n := (s.getG e gb).toNat % 2 ^ 32
    let w := fmtA 30 0 ga gb (if merge then 1 else 0)
    decide (s.regsOk) && match clause with
    | 0 => (match (s.eng e).vs with
   | some v => decide (v.pure = true)
   | _ => false)
    | 1 => (match (s.eng e).vs with
   | some v => decide (v.pure = false ∧ s.ready e w = true ∧ s.aux e = false ∧ a % 64 = 0 ∧ (canTrapB s e))
   | _ => false)
    | 2 => decide ((s.eng e).vs = none ∧ s.ready e w = true ∧ s.aux e = false ∧ a % 64 = 0 ∧ n = 0)
    | 3 => decide ((s.eng e).vs = none ∧ s.ready e w = true ∧ s.aux e = false ∧ a % 64 = 0 ∧ n ≠ 0 ∧
        s.inOneRegion e a (n * s.storedLen e) = true)
    | 4 => decide ((s.eng e).vs = none ∧ s.ready e w = true ∧ s.aux e = false ∧ a % 64 = 0 ∧ n ≠ 0 ∧
        s.inOneRegion e a (n * s.storedLen e) = false ∧ (canTrapB s e))
    | 5 => (match (s.eng e).vs with
   | some v => decide (s.streamLive e = true ∧ s.wantsGran e v = true ∧ s.streamHeld e = false ∧
       ((s.queueUpset e us).streamFetch e).2 = none)
   | _ => false)
    | 6 => (match (s.streamFetch e).2 with
   | some x => decide (s.streamLive e = true ∧ s.streamHeld e = false)
   | _ => false)
    | _ => false
theorem witness_StoredVectors :
    [0, 5].all (hypStoredVectors 0 2 3 false [] ((((tEng 0 (fmtA 30 0 2 3 0)).setG 0 2 128).setG 0 3 40).updEng 0 fun
        g => { g with vs := some (tVs true) })) = true ∧
    hypStoredVectors 0 2 3 false [] ((((tEng 0 (fmtA 30 0 2 3 0)).setG 0 2 128).setG 0 3 40).updEng 0 fun g =>
        { g with vs := some (tVs false) }) 1 = true ∧
    hypStoredVectors 0 2 3 false [] (((tEng 0 (fmtA 30 0 2 3 0)).setG 0 2 128).setG 0 3 0) 2 = true ∧
    hypStoredVectors 0 2 3 false [] (((tEng 0 (fmtA 30 0 2 3 0)).setG 0 2 128).setG 0 3 40) 3 = true ∧
    hypStoredVectors 0 2 3 false [] (((tEng 0 (fmtA 30 0 2 3 0)).setG 0 2 (2^20)).setG 0 3 40) 4 = true ∧
    hypStoredVectors 0 2 3 false [] (({tEng 0 0 with masks := [(2, 0xF0F0F)]} : State).updEng 0 fun g =>
        { g with vs := some (tVs true) }) 6 = true := by
  decide +kernel

/-- What clause k of `Obligations.LoopsAndBranches` assumes. -/
def hypLoopsAndBranches (e : Eng) (lc : Fin 4) (ga : Fin 16) (off : BitVec 14) (cond : Fin 13) (rel : BitVec 22) (s :
    State) : Nat → Bool := fun clause =>
    let g := s.eng e
    let f := g.flags.getLsbD
    let holds := match cond.val with
      | 0 => true | 1 => f 0 | 2 => ! f 0 | 3 => f 1 | 4 => ! f 1 | 5 => f 2 | 6 => ! f 2
      | 7 => f 3 | 8 => ! f 3 | 9 => f 4 | 10 => ! f 4 | 11 => f 5 | _ => ! f 5
    decide (s.regsOk) && match clause with
    | 0 => decide (s.ready e (fmtA 31 lc ga 0 off.toNat) = true ∧ off ≠ 0)
    | 1 => decide (s.ready e (fmtA 32 lc 0 0 0) = true)
    | 2 => decide (s.ready e (fmtC 39 cond rel.toNat) = true)
    | 3 => decide (s.ready e (fmtC 40 cond rel.toNat) = true ∧ holds = false)
    | 4 => decide (s.ready e (fmtC 40 cond rel.toNat) = true ∧ holds = true ∧ g.stack.length < 16)
    | 5 => decide (s.ready e (fmtC 40 cond rel.toNat) = true ∧ holds = true ∧ 16 ≤ g.stack.length ∧ (canTrapB s e))
    | 6 => (decide (s.ready e (fmtA 41 0 0 0 0) = true) && (match g.stack with
   | a :: r => true
   | _ => false))
    | 7 => decide (s.ready e (fmtA 41 0 0 0 0) = true ∧ g.stack = [] ∧ (canTrapB s e))
    | 8 => decide (s.ready e (fmtA 41 0 0 0 1) = true ∧ s.flag (ENG_STATE_INTRAP e) = false ∧ (canTrapB s e))
    | 9 => decide (s.ready e (fmtA 41 0 0 0 1) = true ∧ s.flag (ENG_STATE_INTRAP e) = true)
    | _ => false
theorem witness_LoopsAndBranches :
    hypLoopsAndBranches 0 1 2 3 0 5 ((((tEng 0 (fmtA 31 1 2 0 3)).setG 0 2 0).updEng 0 fun g =>
        { g with flags := 0, stack := [], lc := g.lc.set 1 0, lstart := g.lstart.set 1 8, trappc := 12 }).putb
        (ENG_STATE_INTRAP 0) false) 0 = true ∧
    hypLoopsAndBranches 0 1 2 3 0 5 ((((tEng 0 (fmtA 32 1 0 0 0)).setG 0 2 0).updEng 0 fun g =>
        { g with flags := 0, stack := [], lc := g.lc.set 1 0, lstart := g.lstart.set 1 8, trappc := 12 }).putb
        (ENG_STATE_INTRAP 0) false) 1 = true ∧
    hypLoopsAndBranches 0 1 2 3 0 0x3FFFFF ((((tEng 0 (fmtC 39 0 0x3FFFFF)).setG 0 2 0).updEng 0 fun g =>
        { g with flags := 0, stack := [], lc := g.lc.set 1 0, lstart := g.lstart.set 1 8, trappc := 12 }).putb
        (ENG_STATE_INTRAP 0) false) 2 = true ∧
    hypLoopsAndBranches 0 1 2 3 1 0x3FFFFF ((((tEng 0 (fmtC 40 1 0x3FFFFF)).setG 0 2 0).updEng 0 fun g =>
        { g with flags := 0, stack := [], lc := g.lc.set 1 0, lstart := g.lstart.set 1 8, trappc := 12 }).putb
        (ENG_STATE_INTRAP 0) false) 3 = true ∧
    hypLoopsAndBranches 0 1 2 3 0 0x3FFFFF ((((tEng 0 (fmtC 40 0 0x3FFFFF)).setG 0 2 0).updEng 0 fun g =>
        { g with flags := 0, stack := [], lc := g.lc.set 1 0, lstart := g.lstart.set 1 8, trappc := 12 }).putb
        (ENG_STATE_INTRAP 0) false) 4 = true ∧
    hypLoopsAndBranches 0 1 2 3 0 0x3FFFFF ((((tEng 0 (fmtC 40 0 0x3FFFFF)).setG 0 2 0).updEng 0 fun g =>
        { g with flags := 0, stack := (List.replicate 16 4), lc := g.lc.set 1 0, lstart := g.lstart.set 1 8, trappc := 12 }).putb (ENG_STATE_INTRAP 0) false) 5 = true ∧
    hypLoopsAndBranches 0 1 2 3 0 5 ((((tEng 0 (fmtA 41 0 0 0 0)).setG 0 2 0).updEng 0 fun g =>
        { g with flags := 0, stack := [16, 20], lc := g.lc.set 1 0, lstart := g.lstart.set 1 8, trappc := 12 }).putb
        (ENG_STATE_INTRAP 0) false) 6 = true ∧
    hypLoopsAndBranches 0 1 2 3 0 5 ((((tEng 0 (fmtA 41 0 0 0 0)).setG 0 2 0).updEng 0 fun g =>
        { g with flags := 0, stack := [], lc := g.lc.set 1 0, lstart := g.lstart.set 1 8, trappc := 12 }).putb
        (ENG_STATE_INTRAP 0) false) 7 = true ∧
    hypLoopsAndBranches 0 1 2 3 0 5 ((((tEng 0 (fmtA 41 0 0 0 1)).setG 0 2 0).updEng 0 fun g =>
        { g with flags := 0, stack := [], lc := g.lc.set 1 0, lstart := g.lstart.set 1 8, trappc := 12 }).putb
        (ENG_STATE_INTRAP 0) false) 8 = true ∧
    hypLoopsAndBranches 0 1 2 3 0 5 ((((tEng 0 (fmtA 41 0 0 0 1)).setG 0 2 0).updEng 0 fun g =>
        { g with flags := 0, stack := [], lc := g.lc.set 1 0, lstart := g.lstart.set 1 8, trappc := 12 }).putb
        (ENG_STATE_INTRAP 0) true) 9 = true := by
  decide +kernel

/-- What clause k of `Obligations.MarkedRegions` assumes. -/
def hypMarkedRegions (e : Eng) (ga : Fin 16) (s : State) : Nat → Bool := fun clause =>
    let g := s.stg e
    let n := (s.getG e ga).toNat % 2 ^ 32
    let after := g.fill + if g.cur = [] then 0 else 1
    decide (s.regsOk) && match clause with
    | 0 => decide (s.ready e (fmtA 33 0 0 0 0) = true ∧ g.mark = none)
    | 1 => decide (s.ready e (fmtA 33 0 0 0 0) = true ∧ g.mark.isSome ∧ (canTrapB s e))
    | 2 => decide (s.pureActive e = true)
    | 3 => decide (s.pureActive e = false ∧ s.ready e (fmtA 34 0 ga 0 0) = true ∧ g.mark = none ∧ (canTrapB s e))
    | 4 => (decide (s.pureActive e = false ∧ s.ready e (fmtA 34 0 ga 0 0) = true) && (match g.mark with
   | some m => decide (n = 0)
   | _ => false))
    | 5 => (decide (s.pureActive e = false ∧ s.ready e (fmtA 34 0 ga 0 0) = true) && (match g.mark with
   | some m => decide (n ≠ 0 ∧ 256 < after - m ∧ (canTrapB s e))
   | _ => false))
    | 6 => (decide (s.pureActive e = false ∧ s.ready e (fmtA 34 0 ga 0 0) = true) && (match g.mark with
   | some m => (decide (n ≠ 0 ∧ m ≤ g.fill ∧ after - m ≤ 256) && (let s1 := (s.advance e).closeRow e
       (let l := (g.rows.filter fun r => decide (m ≤ r.num)).foldl (fun k r => k + r.cycles.length) 0 + g.cur.length
       decide ((s1.engPart e).bind s1.stopVt = none ∧ l ≠ 0))))
   | _ => false))
    | 7 => decide (s.ready e (fmtA 35 0 0 0 0) = true)
    | _ => false
theorem witness_MarkedRegions :
    hypMarkedRegions 0 2 (((tEng 0 (fmtA 33 0 0 0 0)).setG 0 2 0).updEng 0 fun g =>
        { g with stime := 80, stg := { g.stg with fill := 3, cur := [], curVt := 40, mark := none, rows := [] } }) 0
        = true ∧
    hypMarkedRegions 0 2 (((tEng 0 (fmtA 33 0 0 0 0)).setG 0 2 0).updEng 0 fun g =>
        { g with stime := 80, stg := { g.stg with fill := 3, cur := [], curVt := 40, mark := (some 2), rows := [] } }) 1 = true ∧
    hypMarkedRegions 0 2 (((tEng 0 (fmtA 34 0 2 0 0)).setG 0 2 1).updEng 0 fun g =>
        { g with stime := 80, stg := { g.stg with fill := 3, cur := [{ nibs := 5, stamp := 7 }], curVt := 40, mark := (some 2), rows := [] }, vs := some (tVs true) }) 2 = true ∧
    hypMarkedRegions 0 2 (((tEng 0 (fmtA 34 0 2 0 0)).setG 0 2 0).updEng 0 fun g =>
        { g with stime := 80, stg := { g.stg with fill := 3, cur := [], curVt := 40, mark := none, rows := [⟨2, 0, [{ nibs := 5, stamp := 7 }, { nibs := 5, stamp := 7 }]⟩] } }) 3 = true ∧
    hypMarkedRegions 0 2 (((tEng 0 (fmtA 34 0 2 0 0)).setG 0 2 0).updEng 0 fun g =>
        { g with stime := 80, stg := { g.stg with fill := 3, cur := [], curVt := 40, mark := (some 2), rows := [⟨2, 0, [{ nibs := 5, stamp := 7 }, { nibs := 5, stamp := 7 }]⟩] } }) 4 = true ∧
    hypMarkedRegions 0 2 (((tEng 0 (fmtA 34 0 2 0 0)).setG 0 2 3).updEng 0 fun g =>
        { g with stime := 80, stg := { g.stg with fill := 300, cur := [], curVt := 40, mark := (some 2), rows := [⟨2, 0, [{ nibs := 5, stamp := 7 }, { nibs := 5, stamp := 7 }]⟩] } }) 5 = true ∧
    hypMarkedRegions 0 2 (((tEng 0 (fmtA 34 0 2 0 0)).setG 0 2 3).updEng 0 fun g =>
        { g with stime := 80, stg := { g.stg with fill := 3, cur := [], curVt := 40, mark := (some 2), rows := [⟨2, 0, [{ nibs := 5, stamp := 7 }, { nibs := 5, stamp := 7 }]⟩] } }) 6 = true ∧
    hypMarkedRegions 0 2 (((tEng 0 (fmtA 35 0 0 0 0)).setG 0 2 0).updEng 0 fun g =>
        { g with stime := 80, stg := { g.stg with fill := 3, cur := [], curVt := 40, mark := (some 2), rows := [] } }) 7 = true := by
  decide +kernel

/-- What clause k of `Obligations.WaitsAndBarriers` assumes. -/
def hypWaitsAndBarriers (e : Eng) (ga : Fin 16) (tol : BitVec 13) (mask : BitVec 9) (id : BitVec 4) (code : BitVec 8)
    (s : State) : Nat → Bool := fun clause =>
    let g := s.eng e
    let v := (s.getG e ga).toNat
    let pad := roundUp v (s.engM e) % 2 ^ 48
    let s1 := s.advance e
    decide (s.regsOk) && match clause with
    | 0 => decide (s.ready e (fmtA 36 0 ga 0 (1 + tol.toNat * 2)) = true ∧ v < 2 ^ 48 ∧ vtGe s.vt.vt v = false)
    | 1 => decide (s.ready e (fmtA 36 0 ga 0 (1 + tol.toNat * 2)) = true ∧ v < 2 ^ 48 ∧ vtGe s.vt.vt v = true ∧
        vtDiff s.vt.vt v ≤ tol.toNat)
    | 2 => decide (s.ready e (fmtA 36 0 ga 0 (1 + tol.toNat * 2)) = true ∧ v < 2 ^ 48 ∧ vtGe s.vt.vt v = true ∧
        tol.toNat < vtDiff s.vt.vt v ∧ (canTrapB s e))
    | 3 => decide (s.pureActive e = true)
    | 4 => decide (s.pureActive e = false ∧ s.aux e = false ∧ s.ready e (fmtA 36 0 ga 0 (tol.toNat * 2)) = true ∧
        v < 2 ^ 48 ∧ vtGe g.stime pad = true ∧ vtDiff g.stime pad ≤ tol.toNat)
    | 5 => decide (s.pureActive e = false ∧ s.aux e = false ∧ s.ready e (fmtA 36 0 ga 0 (tol.toNat * 2)) = true ∧
        v < 2 ^ 48 ∧ vtGe g.stime pad = true ∧ tol.toNat < vtDiff g.stime pad ∧ (canTrapB s e))
    | 6 => decide (s.pureActive e = false ∧ s.aux e = false ∧ s.ready e (fmtA 36 0 ga 0 (tol.toNat * 2)) = true ∧
        v < 2 ^ 48 ∧ vtGe g.stime pad = false ∧ s1.stopHere e = false ∧ s1.cycleRoom e = false)
    | 7 => decide (s.pureActive e = false ∧ s.aux e = false ∧ s.ready e (fmtA 36 0 ga 0 (tol.toNat * 2)) = true ∧
        v < 2 ^ 48 ∧ vtGe g.stime pad = false ∧ s1.stopHere e = false ∧ s1.cycleRoom e = true ∧ g.async = [] ∧
        g.stopReq = none ∧ vtGe ((g.stime + s.engM e) % 2 ^ 48) pad = true)
    | 8 => (match g.wait with
   | .waitvt v => decide (vtGe s.vt.vt v = true ∧ s.engHeld e = false ∧ g.async = [] ∧ g.stopReq = none)
   | _ => false)
    | 9 => decide (s.ready e (fmtB 37 0 0 (mask.toNat + id.toNat * 512)) = true ∧ mask.getLsbD (e.val % 9) = true ∧
        (∃ k ∈ barEngs e mask.toNat, k ≠ e.val ∧ (s.eng k).wait ≠ .bar mask.toNat id.toNat))
    | 10 => decide (s.ready e (fmtB 37 0 0 (mask.toNat + id.toNat * 512)) = true ∧ mask.getLsbD (e.val % 9) = true ∧
        (∀ k ∈ barEngs e mask.toNat, (k ≠ e.val → (s.eng k).wait = .bar mask.toNat id.toNat) ∧ (s.eng k).async = [] ∧
        (s.eng k).stopReq = none))
    | 11 => (match g.wait with
   | .bar m i => decide (i < 16 ∧ g.barto ≠ 0 ∧ s.engHeld e = false ∧ g.stopReq = none ∧ (canTrapB s e))
   | _ => false)
    | 12 => decide (s.ready e (fmtB 38 0 0 code.toNat) = true)
    | 13 => decide (s.ready e (fmtB 38 0 0 (code.toNat + 256)) = true ∧ s.hl.evq.length < 256)
    | _ => false
theorem witness_WaitsAndBarriers :
    hypWaitsAndBarriers 0 2 20 0 0 0
        ({(((tEng 0 (fmtA 36 0 2 0 41)).setG 0 2 100).updEng 0 fun g => { g with stime := 0, wait := .none, barto := 5, stg := {g.stg with fill := 0} }) with vt := { vt := 10 }} : State) 0 = true ∧
    hypWaitsAndBarriers 0 2 20 0 0 0
        ({(((tEng 0 (fmtA 36 0 2 0 41)).setG 0 2 100).updEng 0 fun g => { g with stime := 0, wait := .none, barto := 5, stg := {g.stg with fill := 0} }) with vt := { vt := 100 }} : State) 1 = true ∧
    hypWaitsAndBarriers 0 2 20 0 0 0
        ({(((tEng 0 (fmtA 36 0 2 0 41)).setG 0 2 100).updEng 0 fun g => { g with stime := 0, wait := .none, barto := 5, stg := {g.stg with fill := 0} }) with vt := { vt := 150 }} : State) 2 = true ∧
    hypWaitsAndBarriers 0 2 20 0 0 0 ((((tEng 0 (fmtA 36 0 2 0 40)).setG 0 2 97).updEng 0 fun g =>
        { g with stime := 0, wait := .none, barto := 5, stg := {g.stg with fill := 0} }).updEng 0 fun g =>
        {g with vs := some (tVs true)}) 3 = true ∧
    hypWaitsAndBarriers 0 2 20 0 0 0 (((tEng 0 (fmtA 36 0 2 0 40)).setG 0 2 97).updEng 0 fun g =>
        { g with stime := 100, wait := .none, barto := 5, stg := {g.stg with fill := 0} }) 4 = true ∧
    hypWaitsAndBarriers 0 2 20 0 0 0 (((tEng 0 (fmtA 36 0 2 0 40)).setG 0 2 97).updEng 0 fun g =>
        { g with stime := 150, wait := .none, barto := 5, stg := {g.stg with fill := 0} }) 5 = true ∧
    hypWaitsAndBarriers 0 2 20 0 0 0 (((tEng 0 (fmtA 36 0 2 0 40)).setG 0 2 97).updEng 0 fun g =>
        { g with stime := 40, wait := .none, barto := 5, stg := {g.stg with fill := 512, mark := some 0} }) 6 = true ∧
    hypWaitsAndBarriers 0 2 20 0 0 0 (((tEng 0 (fmtA 36 0 2 0 40)).setG 0 2 97).updEng 0 fun g =>
        { g with stime := 97, wait := .none, barto := 5, stg := {g.stg with fill := 0} }) 7 = true ∧
    hypWaitsAndBarriers 0 2 20 0 0 0
        ({(((tEng 0 (0)).setG 0 2 0).updEng 0 fun g => { g with stime := 0, wait := .waitvt 64, barto := 5, stg := {g.stg with fill := 0} }) with vt := { vt := 100 }} : State) 8 = true ∧
    hypWaitsAndBarriers 0 2 20 3 5 0 (((((tEng 0 (fmtB 37 0 0 (3+5*512))).setG 0 2 0).updEng 0 fun g =>
        { g with stime := 0, wait := .none, barto := 5, stg := {g.stg with fill := 0} })).updEng 1 fun g =>
        {g with wait := .none}) 9 = true ∧
    hypWaitsAndBarriers 0 2 20 3 5 0 (((((tEng 0 (fmtB 37 0 0 (3+5*512))).setG 0 2 0).updEng 0 fun g =>
        { g with stime := 0, wait := .none, barto := 5, stg := {g.stg with fill := 0} })).updEng 1 fun g =>
        {g with wait := .bar 3 5}) 10 = true ∧
    hypWaitsAndBarriers 0 2 20 3 5 0 (((((tEng 0 (0)).setG 0 2 0).updEng 0 fun g =>
        { g with stime := 0, wait := .bar 3 5, barto := 5, stg := {g.stg with fill := 0} })).put (ENG_PC_PC 0) 12) 11
        = true ∧
    hypWaitsAndBarriers 0 2 20 3 5 77 ((((tEng 0 (fmtB 38 0 0 77)).setG 0 2 0).updEng 0 fun g =>
        { g with stime := 0, wait := .none, barto := 5, stg := {g.stg with fill := 0} })) 12 = true ∧
    hypWaitsAndBarriers 0 2 20 3 5 77 ((((tEng 0 (fmtB 38 0 0 (77+256))).setG 0 2 0).updEng 0 fun g =>
        { g with stime := 0, wait := .none, barto := 5, stg := {g.stg with fill := 0} })) 13 = true := by
  decide +kernel

/-- What clause k of `Obligations.TrapsTaken` assumes. -/
def hypTrapsTaken (e : Eng) (gd ga : Fin 16) (n : BitVec 8) (imm : BitVec 18) (i16 : BitVec 16) (wr : Bool) (s :
    State) : Nat → Bool := fun clause =>
    let v := s.getG e ga
    let q := (s.getG e gd).toNat
    decide (s.regsOk) && match clause with
    | 0 => decide (s.ready e (fmtB 42 0 0 i16.toNat) = true ∧ (canTrapB s e))
    | 1 => decide (s.ready e (fmtB 42 0 0 i16.toNat) = true ∧ (s.flag (ENG_STATE_INTRAP e) = true ∨
        (s.eng e).desc.trapEntry = 0) ∧ (s.eng e).async = [] ∧ (s.eng e).drqs = [] ∧ s.pureActive e = false)
    | 2 => (decide ((canTrapB s e)) && (([0, fmtA 60 0 0 0 0]).any fun w => decide (s.ready e w = true ∧
        engDecode e w = none)))
    | 3 => decide ((canTrapB s e) ∧ s.ready e (fmtA 9 gd 0 0 (0x1000 + n.toNat)) = true ∧
        n.toNat ∉ [0, 1, 2, 3, 4, 5, 8, 9, 10, 11] ∧ ¬ (0x10 ≤ n.toNat ∧ n.toNat ≤ 0x1A) ∧ ¬ (0x20 ≤ n.toNat ∧
        n.toNat ≤ 0x24))
    | 4 => decide ((canTrapB s e) ∧ s.ready e (fmtA 9 0 ga 0 (0x2000 + n.toNat)) = true ∧
        ((n.toNat ∉ [1, 3, 4, 8, 9, 10, 11, 0x20, 0x21, 0x24] ∧ ¬ (0x10 ≤ n.toNat ∧ n.toNat ≤ 0x1A)) ∨ (n = 0x1A ∧
        ¬ (bits v.toNat 5 5 ≤ 16 ∧ bits v.toNat 10 5 ≤ 16)) ∨ (n = 0x21 ∧ ¬ (bits v.toNat 2 5 ≤ 23 ∧
        bits v.toNat 7 5 ≤ 23))))
    | 5 => decide ((canTrapB s e) ∧ s.ready e (fmtB 17 gd ga imm.toNat) = true ∧
        (v + imm.signExtend 64).toNat % 8 ≠ 0)
    | 6 => decide ((canTrapB s e) ∧ s.ready e (fmtB 18 gd ga imm.toNat) = true ∧
        (v + imm.signExtend 64).toNat % 8 ≠ 0)
    | 7 => decide ((canTrapB s e) ∧ s.ready e (fmtA 21 gd ga 0 0) = true ∧ (11 ≤ gd.val ∨ (gd = 10 ∧
        ¬ (bits v.toNat 5 5 ≤ 16 ∧ bits v.toNat 10 5 ≤ 16))))
    | 8 => decide ((canTrapB s e) ∧ s.ready e (fmtA 23 gd ga 0 0) = true ∧ 2 ≤ gd.val)
    | 9 => (decide ((canTrapB s e)) &&
        ((List.finRange 16).any fun t6 => decide (s.ready e (fmtA 19 t6 ga gd (if wr then 1 else 0)) = true ∧
        (∀ d ∈ (s.eng e).drqs, d.tag ≠ t6.val) ∧ (v.toNat % 64 ≠ 0 ∨ q % 64 ≠ 0 ∨ q / 65536 % 64 ≠ 0 ∨
        65536 < q % 65536 + q / 65536))))
    | 10 => (decide ((canTrapB s e)) &&
        (((List.range (2 ^ 5)).map (BitVec.ofNat 5)).any fun x => (((List.range (2 ^ 5)).map (BitVec.ofNat 5)).any
        fun y => decide (s.ready e (fmtB 26 0 0 (x.toNat + y.toNat * 32 + (if wr then 1024 else 0))) = true ∧
        (23 < x.toNat ∨ 23 < y.toNat)))))
    | 11 => (decide ((canTrapB s e)) &&
        (((List.range (2 ^ 4)).map (BitVec.ofNat 4)).any fun f => decide (s.ready e (fmtA 27 0 ga 0 f.toNat) = true ∧
        f.getLsbD 3 = true ∧ f.getLsbD 1 = false)))
    | 12 => decide ((canTrapB s e) ∧ s.ready e (fmtA 30 0 ga gd (if wr then 1 else 0)) = true ∧
        s.pureActive e = false ∧ (s.aux e = true ∨ v.toNat % 64 ≠ 0))
    | 13 => (decide ((canTrapB s e)) &&
        ((List.finRange 4).any fun lc => decide (s.ready e (fmtA 31 lc ga 0 0) = true)))
    | 14 => (decide ((canTrapB s e)) &&
        (((List.range (2 ^ 9)).map (BitVec.ofNat 9)).any fun m9 => (((List.range (2 ^ 4)).map (BitVec.ofNat 4)).any
        fun id => decide (s.ready e (fmtB 37 0 0 (m9.toNat + id.toNat * 512)) = true ∧
        m9.getLsbD (e.val % 9) = false))))
    | 15 => decide ((canTrapB s e) ∧ s.ready e (fmtA 36 0 ga 0 0) = true ∧ s.pureActive e = false ∧ s.aux e = true)
    | 16 => decide ((canTrapB s e) ∧ s.ready e (fmtD 29 gd ga 2 0) = true ∧ s.aux e = true)
    | 17 => decide ((canTrapB s e) ∧ s.ready e (fmtD 28 gd ga 0 0) = true ∧ s.aux e = true)
    | 18 => decide ((canTrapB s e) ∧ s.ready e (fmtA 36 0 ga 0 1) = true ∧ 2 ^ 48 ≤ v.toNat)
    | 19 => decide ((canTrapB s e) ∧ s.ready e (fmtA 41 0 0 0 1) = true)
    | _ => false
theorem witness_TrapsTaken :
    hypTrapsTaken 0 1 2 5 3 0xFFFF false ((((tEng 0 (fmtB 42 0 0 0xFFFF)).setG 0 2 0))) 0 = true ∧
    hypTrapsTaken 0 1 2 5 3 0xFFFF false ((((tEng 0 (fmtB 42 0 0 0xFFFF)).setG 0 2 0)).on (ENG_STATE_INTRAP 0)) 1 =
        true ∧
    hypTrapsTaken 0 1 2 5 3 0xFFFF false ((((tEng 0 (0)).setG 0 2 0))) 2 = true ∧
    hypTrapsTaken 0 1 2 6 3 0xFFFF false ((((tEng 0 (fmtA 9 1 0 0 (0x1000+6))).setG 0 2 0))) 3 = true ∧
    hypTrapsTaken 0 1 2 0 3 0xFFFF false ((((tEng 0 (fmtA 9 0 2 0 (0x2000+0))).setG 0 2 0))) 4 = true ∧
    hypTrapsTaken 0 1 2 5 3 0xFFFF false ((((tEng 0 (fmtB 17 1 2 3)).setG 0 2 0))) 5 = true ∧
    hypTrapsTaken 0 1 2 5 3 0xFFFF false ((((tEng 0 (fmtB 18 1 2 3)).setG 0 2 0))) 6 = true ∧
    hypTrapsTaken 0 11 2 5 3 0xFFFF false ((((tEng 0 (fmtA 21 11 2 0 0)).setG 0 2 0))) 7 = true ∧
    hypTrapsTaken 0 2 2 5 3 0xFFFF false ((((tEng 0 (fmtA 23 2 2 0 0)).setG 0 2 0))) 8 = true ∧
    hypTrapsTaken 0 1 2 5 3 0xFFFF false ((((tEng 0 (fmtA 19 5 2 1 0)).setG 0 2 65)).setG 0 1 (64+64*65536)) 9 = true
        ∧
    hypTrapsTaken 0 1 2 5 3 0xFFFF false ((((tEng 0 (fmtB 26 0 0 (24+5*32))).setG 0 2 0))) 10 = true ∧
    hypTrapsTaken 0 1 2 5 3 0xFFFF false ((((tEng 0 (fmtA 27 0 2 0 8)).setG 0 2 0))) 11 = true ∧
    hypTrapsTaken 0 1 2 5 3 0xFFFF true ((((tEng 0 (fmtA 30 0 2 1 1)).setG 0 2 65))) 12 = true ∧
    hypTrapsTaken 0 1 2 5 3 0xFFFF false ((((tEng 0 (fmtA 31 1 2 0 0)).setG 0 2 0))) 13 = true ∧
    hypTrapsTaken 0 1 2 5 3 0xFFFF false ((((tEng 0 (fmtB 37 0 0 (2+5*512))).setG 0 2 0))) 14 = true ∧
    hypTrapsTaken 1 1 2 5 3 0xFFFF false ((((tEng 1 (fmtA 36 0 2 0 0)).setG 1 2 0))) 15 = true ∧
    hypTrapsTaken 1 1 2 5 3 0xFFFF false ((((tEng 1 (fmtD 29 1 2 2 0)).setG 1 2 0))) 16 = true ∧
    hypTrapsTaken 1 1 2 5 3 0xFFFF false ((((tEng 1 (fmtD 28 1 2 0 0)).setG 1 2 0))) 17 = true ∧
    hypTrapsTaken 0 1 2 5 3 0xFFFF false ((((tEng 0 (fmtA 36 0 2 0 1)).setG 0 2 (2^48)))) 18 = true ∧
    hypTrapsTaken 0 1 2 5 3 0xFFFF false ((((tEng 0 (fmtA 41 0 0 0 1)).setG 0 2 0))) 19 = true := by
  decide +kernel

/-- What clause k of `Obligations.HaltAndPreparation` assumes. -/
def hypHaltAndPreparation (e : Eng) (s : State) : Nat → Bool := fun clause =>
    let g := s.eng e
    let done := g.drqs = [] ∧ s.pureActive e = false
    decide (s.regsOk) && match clause with
    | 0 => decide (s.ready e (fmtA 43 0 0 0 0) = true ∧ ¬ done)
    | 1 => decide (s.ready e (fmtA 43 0 0 0 0) = true ∧ done)
    | 2 => (match g.wait with
   | .halt r => decide (r < 8 ∧ s.engHeld e = false ∧ done)
   | _ => false)
    | 3 => (decide (s.engState e = 3 ∧ s.engHeld e = false ∧ g.wait = .none ∧ s.fetched e = none ∧ s.fetchOk e = true ∧ s.memHeld (s.engAcc e 3) (s.fetchAddr e / 64 * 64) 64 = false) && (let r := s.readWhole (s.engAcc e 3) (s.fetchAddr e / 64 * 64) 1
       decide (r.2.2 = none)))
    | 4 => decide (s.engState e = 3 ∧ s.engHeld e = false ∧ g.wait = .none ∧ s.fetched e = none ∧
        s.fetchOk e = false ∧ (canTrapB s e))
    | 5 => decide (s.engState e = 1 ∧ s.paused = false ∧ s.drained e = true ∧ g.desc.ldiLen = 0 ∧ g.startWait = none)
    | 6 => (decide (s.engState e = 1 ∧ s.paused = false ∧ s.drained e = true ∧ g.desc.ldiLen = 0) &&
        (match g.startWait with
   | some o => true
   | _ => false))
    | 7 => (let s0 := s.updEng e fun g => { g with icache := [], sram := [] }
       decide (s.engState e = 1 ∧ s.engHeld e = false ∧ s.drained e = true ∧ g.startWait = none ∧
           s.memHeld (s.engAcc e 1) g.desc.ldiSrc g.desc.ldiLen = false ∧ (s0.ldiCopy e).2 = none))
    | 8 => (let s0 := s.updEng e fun g => { g with icache := [], sram := [] }
       (decide (s.engState e = 1 ∧ s.engHeld e = false ∧ s.drained e = true ∧ g.startWait = none ∧
           s.memHeld (s.engAcc e 1) g.desc.ldiSrc g.desc.ldiLen = false) && (match (s0.ldiCopy e).2 with
   | some (r, a) => true
   | _ => false)))
    | _ => false
theorem witness_HaltAndPreparation :
    hypHaltAndPreparation 0 ((tEng 0 (fmtA 43 0 0 0 0)).updEng 0 fun g =>
        {g with drqs := [tDrq 1], stg := {g.stg with mark := some 0}}) 0 = true ∧
    hypHaltAndPreparation 0 (tEng 0 (fmtA 43 0 0 0 0)) 1 = true ∧
    hypHaltAndPreparation 0 ((tEng 0 0).updEng 0 fun g =>
        {g with wait := .halt 2, stg := {g.stg with mark := some 0, cur := [{ nibs := 5, stamp := 7 }]}}) 2 = true ∧
    hypHaltAndPreparation 0 ((tEng 0 0).updEng 0 fun g => {g with pc := 68}) 3 = true ∧
    hypHaltAndPreparation 0 ((tEng 0 0).updEng 0 fun g => {g with pc := BitVec.ofNat 24 (2^20)}) 4 = true ∧
    [5, 7].all (hypHaltAndPreparation 0 ((tEng 0 (0)).put (ENG_STATE_STATE 0) 1)) = true ∧
    hypHaltAndPreparation 0 (((tEng 0 (0)).put (ENG_STATE_STATE 0) 1).updEng 0 fun g =>
        {g with startWait := some 44}) 6 = true ∧
    hypHaltAndPreparation 0 (((tEng 0 (0)).put (ENG_STATE_STATE 0) 1).updEng 0 fun g =>
        {g with desc := {g.desc with ldiLen := 64, ldiSrc := (2^20)}}) 8 = true := by
  decide +kernel

/-- What clause k of `Obligations.EngineControl` assumes. -/
def hypEngineControl (e : Eng) (s : State) : Nat → Bool := fun clause =>
    let g := s.eng e
    let awake := ∃ p, s.engPart e = some p ∧ s.pmode p ≠ 6
    let clocked := s.flag (CLKPWR_GATE_GATED e) = false
    decide (s.regsOk) && match clause with
    | 0 => decide (s.flag (CLKPWR_GATE_GATED e) = true)
    | 1 => decide (clocked ∧ s.aux e = true ∧ awake ∧ s.engState e = 2)
    | 2 => decide (clocked ∧ s.aux e = true ∧ awake ∧ s.engState e = 1)
    | 3 => decide (clocked ∧ (s.aux e = false ∨ ¬ awake ∨ (s.engState e ≠ 1 ∧ s.engState e ≠ 2)))
    | 4 => decide (clocked ∧ s.engState e = 3 ∧ g.wait = .none ∧ g.async = [] ∧ g.drqs = [] ∧ s.pureActive e = false)
    | 5 => decide (clocked ∧ s.engState e = 1 ∧ g.startWait.isSome)
    | 6 => decide (clocked ∧ s.engState e ≠ 3 ∧ ((s.engState e ≠ 1 ∨ g.startWait = none)))
    | 7 => decide (clocked ∧ s.engState e = 4)
    | 8 => decide (clocked ∧ s.engState e ≠ 4)
    | 9 => decide (s.flag (ENG_STG_CFG_FLUSH_EN e) = true ∧ g.stg.cur ≠ [] ∧ s.paused = false ∧
        vtGe s.vt.vt (g.stg.curVt + 2 ^ 48 - g.stg.lead) = true)
    | 10 => (match g.wait with
   | .emit a b c d k => decide (g.stg.held = true ∧ s.engHeld e = false ∧
       (s.faults.queue.filter fun x => x.src = e.val).length < 4)
   | _ => false)
    | _ => false
theorem witness_EngineControl :
    hypEngineControl 0 (((tEng 0 0).put (CLKPWR_GATE_GATED 0) 1)) 0 = true ∧
    hypEngineControl 1 ((tEng 1 0).put (ENG_STATE_STATE 1) 2) 1 = true ∧
    hypEngineControl 1 ((tEng 1 0).put (ENG_STATE_STATE 1) 1) 2 = true ∧
    [3, 6, 8].all (hypEngineControl 0 ((tEng 0 0).put (ENG_STATE_STATE 0) 0)) = true ∧
    hypEngineControl 0 ((tEng 0 0).put (ENG_STATE_STATE 0) 3) 4 = true ∧
    hypEngineControl 0 (((tEng 0 0).put (ENG_STATE_STATE 0) 1).updEng 0 fun g => {g with startWait := some 0}) 5 =
        true ∧
    hypEngineControl 0 ((tEng 0 0).put (ENG_STATE_STATE 0) 4) 7 = true ∧
    hypEngineControl 0 (({(tEng 0 0).on (ENG_STG_CFG_FLUSH_EN 0) with vt := {vt := 50}} : State).updEng 0 fun g =>
        {g with stime := 44, stg := {g.stg with cur := [{ nibs := 5, stamp := 7 }], curVt := 50}}) 9 = true ∧
    hypEngineControl 0 ((tEng 0 0).updEng 0 fun g =>
        {g with wait := .emit 28 0 0 0 1, stg := {g.stg with fill := 512, mark := some 0}}) 10 = true := by
  decide +kernel

end Eng

/-! Witnesses: vector lanes -/

namespace Lane

/-- A lane pair in a state, and in a mode of the field VLANE_STATE. -/
def tLane (k st : Nat) (s : State) : State := s.pairState k st
/-- A capability block. -/
def tBlk (ver ps pool lb : Nat) : BitVec 128 := BitVec.ofNat 128 (ver + ps * 2 ^ 32 + lb * 2 ^ 40 + pool * 2 ^ 48)
/-- What clause k of `Obligations.LaneFrames` assumes. -/
def hypLaneFrames (k : Fin 100) (count : BitVec 8) (vt : BitVec 24) (credit : BitVec 4) (payload : BitVec 1024) (ups
    : List (Nat × BitVec 256 × BitVec 56)) (s : State) : Nat → Bool := fun clause =>
    let x := s.lane k
    let p := s.txOf k
    let live := s.paused = false ∧ s.rxState k = 5
    decide (s.regsOk) && match clause with
    | 0 => (match s.txReady k with
   | some (d, m, g) => (match (s.stgUpset d g.row.num ups).txReady k with
   | some (e, n, f) => (match (s.stgUpset d g.row.num ups).replayEcho e f with
   | some u => decide (u.regsOk)
   | _ => false)
   | _ => false)
   | _ => false)
    | 1 => (match s.txReady k with
   | some (d, m, g) => (match (s.stgUpset d g.row.num ups).txReady k with
   | some (e, n, f) => decide ((s.stgUpset d g.row.num ups).replayEcho e f = none)
   | _ => false)
   | _ => false)
    | 2 => decide (s.paused = false ∧ x.gatedIdle = false ∧ (s.txState k = 5 ∨ (s.txState k = 6 ∧ x.lb = none)) ∧
        s.txReady k = none)
    | 3 => (decide (s.paused = false ∧ x.gatedIdle = false ∧ (s.txState k = 7 ∨ s.txState k = 6)) && (match x.lb with
   | some l => decide (l.mode ≠ 0 ∧ (l.frames = 0 ∨ l.sent < l.frames))
   | _ => false))
    | 4 => decide (live ∧ s.rxC k < count.toNat ∧ s.rd (VLANE_CFG_ERR_LIMIT k) = 0)
    | 5 => decide (live ∧ count = 0)
    | 6 => decide (live ∧ count ≠ 0 ∧ count.toNat ≤ s.rxC k)
    | 7 => decide (live)
    | 8 => decide (live ∧ s.rd (VLANE_CFG_ERR_LIMIT k) = 0)
    | 9 => decide (live ∧ s.rd (VLANE_CFG_ERR_LIMIT k) = 0 ∧ x.noComma ≠ 3)
    | 10 => decide (live ∧ s.rd (VLANE_CFG_ERR_LIMIT k) = 0 ∧ x.noComma = 3)
    | 11 => decide (live ∧ s.txState p ≠ 8 ∧ s.rxState (s.rxOf p) ≠ 8)
    | _ => false
theorem witness_LaneFrames :
    hypLaneFrames 0 0 0 0 0 [(0, 5,
        6)] ((((((tLane 0 5 (tEng 0 0))).updEng 0 fun g =>
        { g with stime := 600, stg := { g.stg with fill := 1, rows := [⟨0, 40, [{nibs := 5, stamp := 7},{nibs := 5, stamp := 7},{nibs := 5, stamp := 7},{nibs := 5, stamp := 7},{nibs := 5, stamp := 7},{nibs := 5, stamp := 7},{nibs := 5, stamp := 7},{nibs := 5, stamp := 7},{nibs := 5, stamp := 7},{nibs := 5, stamp := 7},{nibs := 5, stamp := 7},{nibs := 5, stamp := 7},{nibs := 5, stamp := 7},{nibs := 5, stamp := 7},{nibs := 5, stamp := 7},{nibs := 5, stamp := 7}]⟩], segs := [⟨0,1,0,40,16,none⟩] } })).put (VLANE_CREDIT_POOL 0) 9).put (VLANE_CREDIT_AVAIL 0) 5) 0 = true ∧
    hypLaneFrames 0 0 0 0 0 []
        ({((((((tLane 0 5 tRun)).updEng 0 fun g => { g with stime := 600, stg := { g.stg with fill := 1, rows := [⟨0, 40, [{nibs := 5, stamp := 7},{nibs := 5, stamp := 7},{nibs := 5, stamp := 7},{nibs := 5, stamp := 7},{nibs := 5, stamp := 7},{nibs := 5, stamp := 7},{nibs := 5, stamp := 7},{nibs := 5, stamp := 7},{nibs := 5, stamp := 7},{nibs := 5, stamp := 7},{nibs := 5, stamp := 7},{nibs := 5, stamp := 7},{nibs := 5, stamp := 7},{nibs := 5, stamp := 7},{nibs := 5, stamp := 7},{nibs := 5, stamp := 7}]⟩], segs := [⟨0,1,2,40,16,none⟩] } })).put (VLANE_CREDIT_POOL 0) 9).put (VLANE_CREDIT_AVAIL 0) 5) with caps := tRun.caps.set 0 { ring := [{engine := 0, part := 0, vt := 3, expects := 0, stamp := 0, cycle := 0, slots := 1, size := 10000000}] }}:State) 1 = true ∧
    [2, 5, 7, 11].all (hypLaneFrames 0 0 0x123456 0 0x5A5A [] (tLane 0 5 tRun)) = true ∧
    hypLaneFrames 0 1 5 0 0 [] ((tLane 0 7 tRun).updLane 0 fun x =>
        {x with lb := some { mode := 1, frames := 0, waiting := false, prbs := 77, sent := 3}}) 3 = true ∧
    hypLaneFrames 0 64 0x123456 0 0x5A5A [] ((tLane 0 5 tRun).put (VLANE_CFG_ERR_LIMIT 0) 0) 4 = true ∧
    hypLaneFrames 0 1 0x123456 0 0x5A5A [] (tLane 0 5 tRun) 6 = true ∧
    [8, 9].all (hypLaneFrames 0 0 0x123456 0 0x5A5A [] ((tLane 0 5 tRun).put (VLANE_CFG_ERR_LIMIT 0) 0)) = true ∧
    hypLaneFrames 0 5 0x123456 2 0x5A5A [] ((tLane 0 5 tRun).put (VLANE_CFG_ERR_LIMIT 0) 0 |>.updLane 0 fun x =>
        {x with noComma := 3}) 10 = true := by
  decide +kernel

/-- What clause k of `Obligations.LaneControl` assumes. -/
def hypLaneControl (k : Fin 100) (tag status : BitVec 8) (total : BitVec 16) (late discards gaps : BitVec 32) (credit
    : BitVec 4) (r : CtrlReq) (s : State) : Nat → Bool := fun clause =>
    let p := s.txOf k
    let x := s.lane p
    let live := s.paused = false ∧ s.rxState k = 5
    decide (s.regsOk) && match clause with
    | 0 => decide (live ∧ x.answered 1 tag.toNat = none)
    | 1 => decide (live ∧ x.answered 1 tag.toNat = some r ∧ status = 0)
    | 2 => decide (live ∧ x.answered 1 tag.toNat = some r ∧ status ≠ 0)
    | 3 => (match x.lb with
   | some l => decide (s.rxState k = 7 ∧ l.mode ≠ 2)
   | _ => false)
    | 4 => (match x.lb with
   | some l => decide (s.paused = false ∧ (s.rxState k = 5 ∨ (s.rxState k = 7 ∧ l.mode = 2)) ∧
       x.answered 2 tag.toNat = some r ∧ l.waiting = true ∧ status = 0 ∧ s.logTx p ≠ 255 ∧ s.txState p ≠ 8 ∧
       s.rxState (s.rxOf p) ≠ 8)
   | _ => false)
    | 5 => (match x.lb with
   | some l => decide (s.paused = false ∧ (s.rxState k = 5 ∨ (s.rxState k = 7 ∧ l.mode = 2)) ∧
       x.answered 2 tag.toNat = some r ∧ l.waiting = true ∧ status ≠ 0)
   | _ => false)
    | 6 => (decide (live) && (let out := (x.sent + 65536 - total.toNat) % 65536
       decide (out ≤ s.rd (VLANE_CREDIT_POOL p) ∧ out ≤ x.sent ∧ credit = 0)))
    | 7 => (decide (live) && (let out := (x.sent + 65536 - total.toNat) % 65536
       decide ((s.rd (VLANE_CREDIT_POOL p) < out ∨ x.sent < out) ∧ credit = 0)))
    | 8 => (match x.moltTx with
   | some sp => decide (live ∧ (∀ j : Nat, j < 100 → (s.lane j).moltRx ≠ some k.val) ∧
       x.answered 4 tag.toNat = some r ∧ r.args.headD 1 = 0 ∧ sp < 100 ∧ sp ≠ p ∧ s.txState sp = 6)
   | _ => false)
    | 9 => (match x.moltTx with
   | some sp => decide (live ∧ (∀ j : Nat, j < 100 → (s.lane j).moltRx ≠ some k.val) ∧
       x.answered 4 tag.toNat = some r ∧ r.args.headD 1 = 0 ∧ s.txState sp ≠ 6 ∧ s.restarting = false ∧
       s.logTx p < 96 ∧ s.txState (96 + s.logTx p / 24) ≠ 6)
   | _ => false)
    | 10 => ((List.range (min (100) 200)).any fun j => decide (s.paused = false ∧ s.rxState k = 6 ∧ j < 100 ∧
        j ≠ k.val ∧ (s.lane j).moltRx = some k.val ∧ (∀ i : Nat, i < j → (s.lane i).moltRx ≠ some k.val) ∧
        (s.lane (s.txOf j)).answered 4 tag.toNat = some r))
    | 11 => decide (live ∧ s.rd (VLANE_CFG_ERR_LIMIT p) = 0)
    | 12 => (let rs := (s.lane k).reqs.filter fun y => y.sends < 64
       decide (s.paused = false ∧ rs.getLast? = some r ∧ r.on < 100))
    | 13 => decide (s.paused = false ∧ (s.lane k).reqs.find? (fun y => 64 ≤ y.sends) = some r ∧ s.txState k ≠ 8 ∧
        s.rxState (s.rxOf k) ≠ 8)
    | _ => false
theorem witness_LaneControl :
    hypLaneControl 0 7 0 3 1 2 3 0 ⟨2,7,[],0,1⟩ ((tLane 96 6 (tLane 0 5 tRun)).updLane 0 fun x =>
        {x with sent := 5, freed := 1, reqs := [⟨2,7,[],0,1⟩,⟨9,9,[],0,1⟩], lb := none, cfgTag := none, moltTx := none}) 0 = true ∧
    [1, 7].all (hypLaneControl 0 7 0 3 1 2 3 0 ⟨1,7,[],0,1⟩ ((tLane 96 6 (tLane 0 5 tRun)).updLane 0 fun x =>
        {x with sent := 5, freed := 1, reqs := [⟨1,7,[],0,1⟩,⟨9,9,[],0,1⟩], lb := none, cfgTag := none, moltTx := none})) = true ∧
    hypLaneControl 0 7 1 3 1 2 3 0 ⟨1,7,[],0,1⟩ ((tLane 96 6 (tLane 0 5 tRun)).updLane 0 fun x =>
        {x with sent := 5, freed := 1, reqs := [⟨1,7,[],0,1⟩,⟨9,9,[],0,1⟩], lb := none, cfgTag := none, moltTx := none}) 2 = true ∧
    hypLaneControl 0 7 0 3 1 2 3 0 ⟨2,7,[],0,1⟩ ((tLane 0 7 tRun).updLane 0 fun x =>
        {x with reqs := [⟨2,7,[],0,1⟩], lb := some {mode := 0, frames := 4, done := 0, waiting := true}}) 3 = true ∧
    hypLaneControl 0 7 0 3 1 2 3 0 ⟨2,7,[],0,1⟩ ((tLane 96 6 (tLane 0 5 tRun)).updLane 0 fun x =>
        {x with sent := 5, freed := 1, reqs := [⟨2,7,[],0,1⟩,⟨9,9,[],0,1⟩], lb := some {mode := 1, frames := 4, done := 0, waiting := true}, cfgTag := none, moltTx := none}) 4 = true ∧
    hypLaneControl 0 7 1 3 1 2 3 0 ⟨2,7,[],0,1⟩ ((tLane 96 6 (tLane 0 5 tRun)).updLane 0 fun x =>
        {x with sent := 5, freed := 1, reqs := [⟨2,7,[],0,1⟩,⟨9,9,[],0,1⟩], lb := some {mode := 1, frames := 4, done := 0, waiting := true}, cfgTag := none, moltTx := none}) 5 = true ∧
    hypLaneControl 0 7 0 0 1 2 3 0 ⟨3,7,[],0,1⟩ (((tLane 0 5 tRun).put (VLANE_CREDIT_POOL 0) 9).updLane 0 fun x =>
        {x with sent := 5, freed := 1, reqs := [⟨3,7,[],0,1⟩]}) 6 = true ∧
    hypLaneControl 0 7 0 3 1 2 3 0 ⟨4,7,[0,0,96,0],96,1⟩ ((tLane 96 6 (tLane 0 5 tRun)).updLane 0 fun x =>
        {x with sent := 5, freed := 1, reqs := [⟨4,7,[0,0,96,0],96,1⟩,⟨9,9,[],0,1⟩], lb := none, cfgTag := none, moltTx := some 96}) 8 = true ∧
    hypLaneControl 0 7 0 3 1 2 3 0 ⟨4,7,[0,0,96,0],96,1⟩ ((tLane 96 5 (tLane 0 5 tRun)).updLane 0 fun x =>
        {x with sent := 5, reqs := [⟨4,7,[0,0,96,0],96,1⟩], moltTx := some 96}) 9 = true ∧
    hypLaneControl 96 7 0 0 0 0 0 2 ⟨4,7,[1,3,96,3],3,1⟩ ((tLane 3 5 (tLane 96 6 tRun)).updLane 3 fun x =>
        {x with moltRx := some 96, reqs := [⟨4,7,[1,3,96,3],3,1⟩]}) 10 = true ∧
    hypLaneControl 0 7 0 0 5 70000 8 3 ⟨1,7,[1,2],0,64⟩ ((tLane 0 5 tRun).put (VLANE_CFG_ERR_LIMIT 0) 0) 11 = true ∧
    hypLaneControl 0 7 0 0 1 2 3 0 ⟨3,7,[],0,1⟩ (((tLane 0 5 tRun).put (VLANE_CREDIT_POOL 0) 0).updLane 0 fun x =>
        {x with sent := 5, freed := 1, reqs := [⟨3,7,[],0,1⟩]}) 12 = true ∧
    hypLaneControl 0 7 0 0 0 0 0 0 ⟨1,7,[1,2],0,64⟩ ((tLane 0 5 tRun).updLane 0 fun x =>
        {x with reqs := [⟨1,7,[1,2],0,64⟩]}) 13 = true := by
  decide +kernel

/-- What clause k of `Obligations.LaneBringUp` assumes. -/
def hypLaneBringUp (k : Fin 100) (tb valid : Bool) (cubeId : BitVec 3) (logical : BitVec 8) (payload : BitVec 1024)
    (p : Nat) (s : State) : Nat → Bool := fun clause =>
    let b := payload.setWidth 128
    let x := s.lane p
    let cube := s.pins.straps % 8
    let good := cubeId.toNat = cube ∧ logical.toNat = s.logTx p
    let blockOk := blockByte b 0 = 1 ∧ 8 ≤ blockByte b 6 ∧ blockByte b 6 ≤ 200 ∧ blockByte b 4 % 8 ≠ 0
    let clocked := s.flag (CLKPWR_GATE_GATED (srcLane k)) = false
    decide (s.regsOk) && match clause with
    | 0 => decide (s.paused = false ∧ s.trainOf k = none)
    | 1 => decide (s.paused = false ∧ s.trainOf k = some p ∧ s.rxState (s.rxOf p) ≠ 8 ∧ s.rxState (s.rxOf k) ≠ 8)
    | 2 => decide (s.paused = false ∧ s.trainOf k = some p ∧ s.rxState (s.rxOf p) ≠ 8 ∧ s.rxState (s.rxOf k) ≠ 8 ∧
        s.txState k = 1 ∧ s.leads k = true ∧ (s.lane k).gatedIdle = false)
    | 3 => decide (s.paused = false ∧ s.trainOf k = some p ∧ s.rxState (s.rxOf p) ≠ 8 ∧ s.rxState (s.rxOf k) ≠ 8 ∧
        s.txState p = 2)
    | 4 => decide (s.paused = false ∧ s.trainOf k = some p ∧ s.rxState (s.rxOf p) ≠ 8 ∧ s.rxState (s.rxOf k) ≠ 8 ∧
        s.txState p = 3 ∧ valid = true)
    | 5 => decide (s.paused = false ∧ s.trainOf k = some p ∧ s.rxState (s.rxOf p) ≠ 8 ∧ s.rxState (s.rxOf k) ≠ 8 ∧
        s.txState p = 3 ∧ valid = false)
    | 6 => decide (s.paused = false ∧ s.trainOf k = some p ∧ s.rxState (s.rxOf p) ≠ 8 ∧ s.rxState (s.rxOf k) ≠ 8 ∧
        s.txState p = 3 ∧ valid = true ∧ tb = true ∧ good ∧ x.symLock = true ∧ 7 ≤ x.tbs ∧ 15 ≤ x.tbSent)
    | 7 => decide (s.paused = false ∧ s.trainOf k = some p ∧ s.rxState (s.rxOf p) ≠ 8 ∧ s.rxState (s.rxOf k) ≠ 8 ∧
        s.txState p = 4 ∧ blockOk ∧ (x.block ≠ some b ∨ x.blocks < 3))
    | 8 => decide (s.paused = false ∧ s.trainOf k = some p ∧ s.rxState (s.rxOf p) ≠ 8 ∧ s.rxState (s.rxOf k) ≠ 8 ∧
        s.txState p = 4 ∧ blockOk ∧ x.block = some b ∧ 3 ≤ x.blocks ∧ s.logTx p = 255)
    | 9 => decide (s.paused = false ∧ s.trainOf k = some p ∧ s.rxState (s.rxOf p) ≠ 8 ∧ s.rxState (s.rxOf k) ≠ 8 ∧
        s.txState p = 4 ∧ blockOk ∧ x.block = some b ∧ 3 ≤ x.blocks ∧ s.logTx p ≠ 255 ∧ x.wantTx = false ∧
        x.wantRx = false ∧ (s.lane (s.rxOf p)).wantRx = false ∧ (s.lane (s.rxOf p)).wantTx = false)
    | 10 => decide (s.paused = false ∧ s.trainOf k = some p ∧ s.rxState (s.rxOf p) ≠ 8 ∧ s.rxState (s.rxOf k) ≠ 8 ∧
        s.txState p = 4)
    | 11 => (decide (s.paused = false ∧ s.trainOf k = some p ∧ s.rxState (s.rxOf p) ≠ 8 ∧ s.rxState (s.rxOf k) ≠ 8 ∧
        (s.txState p = 7 ∨ s.txState p = 6)) && (match x.lb with
   | some l => (match l.flying.head? with
   | some f => true
   | _ => false)
   | _ => false))
    | 12 => (decide (s.paused = false ∧ s.trainOf k = some p ∧ s.rxState (s.rxOf p) ≠ 8 ∧ s.rxState (s.rxOf k) ≠ 8 ∧ (s.txState k = 2 ∨ s.txState k = 3 ∨ s.txState k = 4) ∧ s.leads k = true) && (let n := s.rd (VLANE_STATE_ATTEMPTS k) + 1
       decide (n < 3 ∧ (∀ j : Nat, j < 100 → (s.lane j).wantTx = false ∧ (s.lane j).wantRx = false ∧
           (s.lane j).moltTx = none ∧ (s.lane j).moltRx = none))))
    | 13 => (decide (s.paused = false ∧ s.trainOf k = some p ∧ s.rxState (s.rxOf p) ≠ 8 ∧ s.rxState (s.rxOf k) ≠ 8 ∧ (s.txState k = 2 ∨ s.txState k = 3 ∨ s.txState k = 4) ∧ s.leads k = true) && (let n := s.rd (VLANE_STATE_ATTEMPTS k) + 1
       decide (3 ≤ n ∧ (s.lane k).failCause = 3)))
    | 14 => decide (s.paused = false ∧ s.trainOf k = some p ∧ s.rxState (s.rxOf p) ≠ 8 ∧ s.rxState (s.rxOf k) ≠ 8 ∧
        s.txState k = 1 ∧ s.leads k = true ∧ s.flag (VLANE_STATE_ABSENT k) = false)
    | 15 => decide (s.paused = false ∧ s.trainOf k = some p ∧ s.rxState (s.rxOf p) ≠ 8 ∧ s.rxState (s.rxOf k) ≠ 8 ∧
        clocked ∧ s.txState k ≠ 0 ∧ s.txState k ≠ 8 ∧ s.leads k = true)
    | 16 => decide (s.paused = false ∧ s.trainOf k = some p ∧ s.rxState (s.rxOf p) ≠ 8 ∧ s.rxState (s.rxOf k) ≠ 8 ∧
        clocked ∧ (s.txState k = 0 ∨ s.txState k = 8 ∨ s.leads k = false))
    | _ => false
theorem witness_LaneBringUp :
    hypLaneBringUp 0 true true 0 0 (((tBlk 1 7 16 1)).setWidth 1024) 0 (((tLane 0 8 tRun).put (VLANE_STATE_ATTEMPTS
        0) 0).updLane 0 fun x => {x with tbs := 0}) 0 = true ∧
    [1, 4, 12, 15].all (hypLaneBringUp 0 true true 0 0 (((tBlk 1 7 16 1)).setWidth 1024) 0 ((tLane 0 3 tRun).updLane
        0 fun x => {x with  attempts := 0})) = true ∧
    [2, 14].all (hypLaneBringUp 0 true true 0 0 (((tBlk 1 7 16 1)).setWidth 1024) 0 (((tLane 0 1 tRun).put
        (VLANE_STATE_ATTEMPTS 0) 0).updLane 0 fun x => {x with tbs := 0})) = true ∧
    hypLaneBringUp 0 true true 0 0 (((tBlk 1 7 16 1)).setWidth 1024) 0 (((tLane 0 2 tRun).put (VLANE_STATE_ATTEMPTS
        0) 0).updLane 0 fun x => {x with tbs := 0}) 3 = true ∧
    hypLaneBringUp 0 true false 0 0 (((tBlk 1 7 16 1)).setWidth 1024) 0 ((tLane 0 3 tRun).updLane 0 fun x =>
        {x with  attempts := 0}) 5 = true ∧
    hypLaneBringUp 0 true true 0 0 (((tBlk 1 7 16 1)).setWidth 1024) 0 ((tLane 0 3 tRun).updLane 0 fun x =>
        {x with symLock := true, tbs := 7, tbSent := 15,  attempts := 0}) 6 = true ∧
    [7, 10].all (hypLaneBringUp 0 true true 0 0 (((tBlk 1 7 16 1)).setWidth 1024) 0 ((tLane 0 4 tRun).updLane 0 fun x
        => {x with blocks := 2})) = true ∧
    hypLaneBringUp 97 true true 0 0 (((tBlk 1 7 16 1)).setWidth 1024) 97 ((tLane 97 4 tRun).updLane 97 fun x =>
        {x with block := some (tBlk 1 7 16 1), blocks := 3}) 8 = true ∧
    hypLaneBringUp 0 true true 0 0 (((tBlk 1 7 16 1)).setWidth 1024) 0 ((tLane 0 4 tRun).updLane 0 fun x =>
        {x with block := some (tBlk 1 7 16 1), blocks := 3}) 9 = true ∧
    hypLaneBringUp 0 true true 0 0 5 0 ((tLane 0 7 tRun).updLane 0 fun x =>
        {x with lb := some {mode := 1, frames := 9, waiting := false, flying := [5, 8]}}) 11 = true ∧
    hypLaneBringUp 0 true true 0 0 (((tBlk 1 7 16 1)).setWidth 1024) 0 (((tLane 0 2 tRun).put (VLANE_STATE_ATTEMPTS
        0) 2).updLane 0 fun x => {x with mismatch := true}) 13 = true ∧
    hypLaneBringUp 0 true true 0 0 (((tBlk 1 7 16 1)).setWidth 1024) 0 (((tLane 0 0 tRun).put (VLANE_STATE_ATTEMPTS
        0) 0).updLane 0 fun x => {x with tbs := 0}) 16 = true := by
  decide +kernel

/-- What clause k of `Obligations.LaneMoltsAndLoopback` assumes. -/
def hypLaneMoltsAndLoopback (k : Fin 100) (mode : BitVec 2) (frames : BitVec 16) (s : State) : Nat →
    Bool := fun clause =>
    let x := s.lane k
    let l := s.logTx k
    let m := s.logRx k
    let may := s.txState k = 5 ∧ s.rxState (s.rxOf k) = 5 ∧ s.laneInRun l = false ∧ mode ≠ 3 ∧ s.paused = false ∧
      (mode = 2 → s.flag (VLANE_PEER_FAR_LB k) = true) ∧ x.lb = none
    let mayEnd := s.txState k ≠ 8 ∧ s.rxState (s.rxOf k) ≠ 8 ∧ x.wantTx = false ∧ (s.lane (s.rxOf k)).wantRx = false
    let clocked := s.flag (CLKPWR_GATE_GATED (srcLane k)) = false
    let freeTx := fun (sp : Nat) => ∀ j : Nat, j < 100 → (s.lane j).moltTx ≠ some sp
    let freeRx := fun (sp : Nat) => ∀ j : Nat, j < 100 → (s.lane j).moltRx ≠ some sp
    decide (s.regsOk) && match clause with
    | 0 => decide (s.flag (CLKPWR_GATE_GATED (srcLane k)) = true)
    | 1 => decide (clocked ∧ (l = 255 ∨ s.txState k = 0 ∨ s.txState k = 8))
    | 2 => decide (clocked ∧ (m = 255 ∨ s.rxState k = 0 ∨ s.rxState k = 8))
    | 3 => decide (clocked ∧ l ≠ 255 ∧ s.txState k ≠ 0 ∧ s.txState k ≠ 5 ∧ s.txState k ≠ 8)
    | 4 => decide (clocked ∧ m ≠ 255 ∧ s.rxState k ≠ 0 ∧ s.rxState k ≠ 5 ∧ s.rxState k ≠ 8)
    | 5 => decide (clocked ∧ l ≠ 255 ∧ s.txState k = 5 ∧ x.moltTx = none ∧ s.restarting = true)
    | 6 => decide (clocked ∧ m ≠ 255 ∧ s.rxState k = 5 ∧ x.moltRx = none ∧ s.restarting = true)
    | 7 => decide (clocked ∧ l < 96 ∧ s.txState k = 5 ∧ x.moltTx = none ∧ s.restarting = false ∧
        s.txState (96 + l / 24) = 6 ∧ s.logTx (96 + l / 24) = 255 ∧ freeTx (96 + l / 24))
    | 8 => decide (clocked ∧ m < 96 ∧ s.rxState k = 5 ∧ x.moltRx = none ∧ s.restarting = false ∧
        s.rxState (96 + m / 24) = 6 ∧ s.logRx (96 + m / 24) = 255 ∧ freeRx (96 + m / 24))
    | 9 => decide (clocked ∧ l < 96 ∧ s.txState k = 5 ∧ x.moltTx = none ∧ s.restarting = false ∧
        (s.txState (96 + l / 24) ≠ 6 ∨ ¬ freeTx (96 + l / 24)))
    | 10 => decide (clocked ∧ ¬ may)
    | 11 => decide (clocked ∧ may ∧ mode = 0)
    | 12 => decide (clocked ∧ may ∧ mode ≠ 0)
    | 13 => decide (clocked ∧ x.lb = none)
    | 14 => (decide (clocked) && (match x.lb with
   | some y => decide (y.waiting = true)
   | _ => false))
    | 15 => (decide (clocked ∧ mayEnd) && (match x.lb with
   | some y => decide (y.waiting = false)
   | _ => false))
    | 16 => (decide (mayEnd) && (match x.lb with
   | some y => decide (y.waiting = false ∧ y.frames ≠ 0 ∧ y.frames ≤ y.done)
   | _ => false))
    | _ => false
theorem witness_LaneMoltsAndLoopback :
    hypLaneMoltsAndLoopback 0 0 4 ((tLane 96 6 (tLane 0 5 tRun)).on (CLKPWR_GATE_GATED (srcLane 0))) 0 = true ∧
    [1, 2, 10, 13].all (hypLaneMoltsAndLoopback 0 0 4 ((tLane 0 0 (tLane 96 6 (tLane 99 6 tRun))).updLane 0 fun x =>
        {x with tbs := 0})) = true ∧
    [3, 4].all (hypLaneMoltsAndLoopback 0 1 4 ((tLane 0 1 (tLane 96 6 (tLane 99 6 tRun))).updLane 0 fun x =>
        {x with tbs := 0})) = true ∧
    [5, 6].all (hypLaneMoltsAndLoopback 0 0 4 ((tLane 96 6 (tLane 0 5 tRun)).put ALM_STATUS_STATE 3)) = true ∧
    [7, 8].all (hypLaneMoltsAndLoopback 0 1 4 ((tLane 0 5 (tLane 96 6 (tLane 99 6 tRun))).updLane 0 fun x =>
        {x with tbs := 0})) = true ∧
    hypLaneMoltsAndLoopback 0 1 4 ((tLane 0 5 (tLane 96 1 (tLane 99 1 tRun))).updLane 0 fun x => {x with tbs := 0}) 9
        = true ∧
    hypLaneMoltsAndLoopback 0 0 4 ((tLane 0 5 tRun).put (GLOBAL_PMODE_MODE 0) 4) 11 = true ∧
    hypLaneMoltsAndLoopback 95 1 4 ((tLane 95 5 (tLane 96 6 (tLane 99 6 tRun))).updLane 95 fun x =>
        {x with tbs := 0}) 12 = true ∧
    hypLaneMoltsAndLoopback 0 0 4 ((tLane 0 0 (tLane 96 6 (tLane 99 6 tRun))).updLane 0 fun x =>
        {x with lb := some {mode := 1, frames := 4, done := 3, waiting := true}}) 14 = true ∧
    [15, 16].all (hypLaneMoltsAndLoopback 0 0 4 ((tLane 0 0 (tLane 96 6 (tLane 99 6 tRun))).updLane 0 fun x =>
        {x with lb := some {mode := 0, frames := 4, done := 4, waiting := false}})) = true := by
  decide +kernel

end Lane

/-! Witnesses: capture units -/

namespace Cap

/-- The test image with a capture record and the three kinds of region for partition 0. -/
def tCapImg (en : Nat) : Img := { tImg with
  caps := [⟨0, 0, 0, en, 100, 4, 4, 2, 16, 1⟩]
  regions := [⟨0, 0, 0, 1, 0, 2 ^ 20⟩, ⟨0, 1, 0, 1, 2 ^ 20, 2 ^ 16⟩, ⟨0, 2, 0, 1, 2 ^ 21, 2 ^ 16⟩] }
/-- RUN with that image, and capture unit 0 as given. -/
def tCap (en : Nat) (c : CaptureUnit) : State :=
  let s := { tRun with caps := tRun.caps.set 0 c, clk := { uptime := 50 }, vt := { vt := 1000 } }
  { s with img := { s.img with active := tCapImg en }, modes := { s.modes with memReady := true } }
/-- An echo entry of engine 0 at a Vector Time that expects drive level 1 on the even pins and nothing on the odd. -/
def tEcho (vt ans : Nat) : EchoEnt :=
  { engine := 0, part := 0, vt := vt, expects := 0xDDDDDDDD, stamp := 0x5, cycle := 3, slots := 1, answered := ans, size := 11 }
/-- A queued record. -/
def tRec : FailRec := failRec 40 0 0 0 3 1 5 2 0 false 0 0
/-- A map line. -/
def tLine (g : Nat) (dirty : Option Nat) (fill : Bool) : MapLine :=
  { gran := g, part := 0, data := 7, filling := fill, dirty := dirty, range := some (40, 44) }
/-- What clause k of `Obligations.ReturnedSamples` assumes. -/
def hypReturnedSamples (u : Fin 9) (lane e slot p v : Nat) (nib : Nat → Nat) (s : State) : Nat → Bool := fun clause =>
    let pp := s.pPart p
    let held := fun (x : EchoEnt) => (s.cap u).ring.find? (fun x => x.engine = e && x.vt = v) = some x
    let fails := fun (x : EchoEnt) (i : Nat) =>
      x.expect (slot * pp + i) ≠ 3 ∧ nib i % 4 ≠ 3 ∧ nib i % 4 ≠ x.expect (slot * pp + i)
    let sampled := fun (x : EchoEnt) => ∀ i : Nat, i < pp → x.expect (slot * pp + i) = 3 ∨ nib i % 4 ≠ 3
    decide (s.regsOk) && decide (lane < 96) && decide (p < 16) && match clause with
    | 0 => decide ((∀ x ∈ (s.cap u).ring, ¬ (x.engine = e ∧ x.vt = v)) ∧ (∀ n ∈ (s.cap u).newest, n.1 ≠ e))
    | 1 => (decide ((∀ x ∈ (s.cap u).ring, ¬ (x.engine = e ∧ x.vt = v))) &&
        (match (s.cap u).newest.find? (fun n => n.1 = e) with
   | some n => decide (vtGe n.2 v = false)
   | _ => false))
    | 2 => (decide ((∀ x ∈ (s.cap u).ring, ¬ (x.engine = e ∧ x.vt = v))) &&
        (match (s.cap u).newest.find? (fun n => n.1 = e) with
   | some n => decide (vtGe n.2 v = true)
   | _ => false))
    | 3 => (((s.cap u).ring).any fun x => decide (held x ∧ x.stale = true))
    | 4 => (((s.cap u).ring).any fun x => decide (held x ∧ x.stale = false ∧ bit x.answered slot = true))
    | 5 => (((s.cap u).ring).any fun x => decide (held x ∧ x.stale = false ∧ bit x.answered slot = false ∧
        s.winOpen p v = false))
    | 6 => (((s.cap u).ring).any fun x => decide (held x ∧ x.stale = false ∧ bit x.answered slot = false ∧
        s.winOpen p v = true ∧ pp ≤ 16 ∧ sampled x ∧ s.capEn p 0 = false ∧ s.capEn p 1 = false ∧ s.capEn p 2 = false))
    | 7 => (((s.cap u).ring).any fun x => (decide (held x ∧ x.stale = false ∧ bit x.answered slot = false ∧
        s.winOpen p v = true ∧ pp ≤ 16 ∧ sampled x ∧ s.capEn p 0 = false ∧ s.capEn p 1 = false ∧
        s.capEn p 2 = false) && ((List.range (min (pp) 200)).any fun i => decide (i < pp))))
    | 8 => (match s.seg u p with
   | some g => (((s.cap u).ring).any fun x => decide (held x ∧ x.stale = false ∧ bit x.answered slot = false ∧
       s.winOpen p v = true ∧ pp ≤ 16 ∧ sampled x ∧ (∃ i : Nat, i < pp ∧ fails x i) ∧ s.capEn p 0 = true ∧
       s.capEn p 1 = false ∧ s.capEn p 2 = false ∧ s.segFull u p = false ∧ (s.cap u).queue.length < 512 ∧
       x.vt < 2 ^ 48 ∧ s.groupOf u < 8))
   | _ => false)
    | _ => false
theorem witness_ReturnedSamples :
    hypReturnedSamples 0 3 0 0 0 40 (fun _ => 1) (tCap 0 { ring := [], newest := [] }) 0 = true ∧
    hypReturnedSamples 0 3 0 0 0 44 (fun _ => 1) (tCap 0 { ring := [tEcho 40 0], newest := [(0,40)] }) 1 = true ∧
    hypReturnedSamples 0 3 0 0 0 44 (fun _ => 1) (tCap 0
        { ring := [{tEcho 40 0 with slots := 2}, tEcho 48 0], newest := [(0,48)] }) 2 = true ∧
    hypReturnedSamples 0 3 0 0 0 40 (fun i => i%3) (tCap 1
        { ring := [{tEcho 40 0 with stale := true}], newest := [(0,40)]}) 3 = true ∧
    hypReturnedSamples 0 3 0 0 0 40 (fun _ => 1) (tCap 0 { ring := [tEcho 40 1], newest := [(0,40)] }) 4 = true ∧
    hypReturnedSamples 0 3 0 0 0 40 (fun i => i%3) (tCal 4 ⟨39,8,0,0⟩ 1000 (tCap 0 {ring := [tEcho 40 0]})) 5 = true ∧
    [6, 7].all (hypReturnedSamples 0 3 0 0 0 40 (fun _ => 1) (tCap 0 { ring := [tEcho 40 0], newest := [(0,40)] })) =
        true ∧
    hypReturnedSamples 0 3 0 0 0 40 (fun _ => 0) (tCap 1
        { ring := [tEcho 40 0], newest := [(0,40)], segs := [{part := 0}] }) 8 = true := by
  decide +kernel

/-- What clause k of `Obligations.CaptureEvidence` assumes. -/
def hypCaptureEvidence (u : Fin 9) (p : Fin 16) (s : State) : Nat → Bool := fun clause =>
    let c := s.cap u
    let clocked := s.flag (CLKPWR_GATE_GATED (srcCap u)) = false
    let runs := s.paused = false ∧ s.rd (CAP_STATUS_STATE u) < 2 ∧ clocked
    let run := runs ∧ s.flag (CAP_STATUS_DMA_HALT u) = false
    decide (s.regsOk) && match clause with
    | 0 => decide (runs ∧ (∀ x ∈ c.ring, x.part < 16))
    | 1 => decide (¬ runs)
    | 2 => decide (runs)
    | 3 => (match c.segDue with
   | some y => (decide (run ∧ s.seg u y.part = some y ∧ y.zeroDue = true ∧ s.memHeld (s.capAcc u y.part 2) (s.segAddr u y.part 0) 64 = false) && (let w := s.writeAll (s.capAcc u y.part 2) (s.segAddr u y.part 0) (List.replicate 64 0)
       decide (w.2 = none)))
   | _ => false)
    | 4 => (match c.segDue with
   | some y => (decide (run ∧ s.seg u y.part = some y ∧ y.zeroDue = true ∧ s.memHeld (s.capAcc u y.part 2) (s.segAddr u y.part 0) 64 = false) && (let w := s.writeAll (s.capAcc u y.part 2) (s.segAddr u y.part 0) (List.replicate 64 0)
       decide (w.2 ≠ none)))
   | _ => false)
    | 5 => (match c.segDue with
   | some y => (decide (run ∧ s.seg u y.part = some y ∧ y.zeroDue = false) && (let q := y.part
       (decide (y.adopt = 1 ∧ s.memHeld (s.capAcc u q 1) (s.segAddr u q 0) 24 = false) && (let r := s.readMem (s.capAcc u q 1) (s.segAddr u q 0) 24
       decide (r.2.2 = none)))))
   | _ => false)
    | 6 => (match c.segDue with
   | some y => (decide (run ∧ s.seg u y.part = some y ∧ y.zeroDue = false) && (let q := y.part
       (decide (y.adopt = 1 ∧ s.memHeld (s.capAcc u q 1) (s.segAddr u q 0) 24 = false) && (let r := s.readMem (s.capAcc u q 1) (s.segAddr u q 0) 24
       decide (r.2.2 ≠ none)))))
   | _ => false)
    | 7 => (match c.segDue with
   | some y => (decide (run ∧ s.seg u y.part = some y ∧ y.zeroDue = false) && (let q := y.part
       (let n := y.written % s.nrec q
       (decide (y.adopt = 2 ∧ s.memHeld (s.capAcc u q 1) (s.segAddr u q (64 + 32 * (n - 1))) 32 = false) && (let r := s.readMem (s.capAcc u q 1) (s.segAddr u q (64 + 32 * (n - 1))) 32
       decide (r.2.2 = none))))))
   | _ => false)
    | 8 => (match c.segDue with
   | some y => (decide (run ∧ s.seg u y.part = some y ∧ y.zeroDue = false) && (let q := y.part
       (let n := y.written % s.nrec q
       (decide (y.adopt = 2 ∧ s.memHeld (s.capAcc u q 1) (s.segAddr u q (64 + 32 * (n - 1))) 32 = false) && (let r := s.readMem (s.capAcc u q 1) (s.segAddr u q (64 + 32 * (n - 1))) 32
       decide (r.2.2 ≠ none))))))
   | _ => false)
    | 9 => (decide (c.segDue = none ∧ run) && (match c.queue with
   | r :: rest => (match s.seg u r.part with
   | some y => (let n := y.written % s.nrec r.part
       (let bs := if n % 2 = 0 then natLe 32 r.bits.toNat ++ List.replicate 32 0 else natLe 32 y.half.toNat ++ natLe 32 r.bits.toNat
       (let w := s.writeAll (s.capAcc u r.part 2) (s.segAddr u r.part (64 + 32 * (n - n % 2))) bs
       decide (s.memHeld (s.capAcc u r.part 2) (s.segAddr u r.part (64 + 32 * (n - n % 2))) 64 = false ∧
           w.2 = none))))
   | _ => false)
   | _ => false))
    | 10 => (decide (c.segDue = none ∧ run) && (match c.queue with
   | r :: rest => (match s.seg u r.part with
   | some y => (let n := y.written % s.nrec r.part
       (let bs := if n % 2 = 0 then natLe 32 r.bits.toNat ++ List.replicate 32 0 else natLe 32 y.half.toNat ++ natLe 32 r.bits.toNat
       (let w := s.writeAll (s.capAcc u r.part 2) (s.segAddr u r.part (64 + 32 * (n - n % 2))) bs
       decide (s.memHeld (s.capAcc u r.part 2) (s.segAddr u r.part (64 + 32 * (n - n % 2))) 64 = false ∧
           w.2 ≠ none))))
   | _ => false)
   | _ => false))
    | 11 => (decide (run) && (match s.seg u p with
   | some y => (decide (y.zeroDue = false ∧ y.adopt = 0 ∧ ((y.hdrAt ≠ s.now ∨ y.hdrAt = 0)) ∧ s.memHeld (s.capAcc u p 2) (s.segAddr u p 0) 16 = false) && (let w := s.writeAll (s.capAcc u p 2) (s.segAddr u p 0) (natLe 8 y.written ++ natLe 8 y.dropped)
       decide (w.2 = none)))
   | _ => false))
    | 12 => (decide (run) && (match s.seg u p with
   | some y => (decide (y.zeroDue = false ∧ y.adopt = 0 ∧ ((y.hdrAt ≠ s.now ∨ y.hdrAt = 0)) ∧ s.memHeld (s.capAcc u p 2) (s.segAddr u p 0) 16 = false) && (let w := s.writeAll (s.capAcc u p 2) (s.segAddr u p 0) (natLe 8 y.written ++ natLe 8 y.dropped)
       decide (w.2 ≠ none)))
   | _ => false))
    | 13 => (decide (run) && (match s.seg u p with
   | some y => (decide (y.adopt = 0 ∧ s.nrec p ≤ y.queued - y.rd ∧ ((y.readAt < s.now ∨ y.readAt = 0)) ∧ s.memHeld (s.capAcc u p 1) (s.segAddr u p 16) 8 = false) && (let r := s.readMem (s.capAcc u p 1) (s.segAddr u p 16) 8
       decide (r.2.2 = none)))
   | _ => false))
    | 14 => (decide (run) && (match s.seg u p with
   | some y => (decide (y.adopt = 0 ∧ s.nrec p ≤ y.queued - y.rd ∧ ((y.readAt < s.now ∨ y.readAt = 0)) ∧ s.memHeld (s.capAcc u p 1) (s.segAddr u p 16) 8 = false) && (let r := s.readMem (s.capAcc u p 1) (s.segAddr u p 16) 8
       decide (r.2.2 ≠ none)))
   | _ => false))
    | 15 => decide (¬ clocked)
    | 16 => decide (clocked)
    | _ => false
theorem witness_CaptureEvidence :
    [0, 2, 3, 16].all (hypCaptureEvidence 0 0 ((tCap 1
        { ring := [tEcho 100 0, tEcho 950 0], segs := [{part := 0}] }).put (CAP_STATUS_STATE 0) 0)) = true ∧
    hypCaptureEvidence 0 0 ((tCap 1 { ring := [tEcho 100 0, tEcho 950 0], segs := [{part := 0}] }).put
        (CAP_STATUS_STATE 0) 2) 1 = true ∧
    hypCaptureEvidence 0 0
        ({(tCap 1 {queue := [], segs := [{part := 0, zeroDue := true, written := 4, queued := 5}]}) with mcs := tRun.mcs.set 0 {dead := true}}:State) 4 = true ∧
    hypCaptureEvidence 0 0 (tCap 1
        {queue := [tRec], segs := [{part := 0, zeroDue := false, adopt := 1, written := 5, queued := 5}]}) 5 = true ∧
    hypCaptureEvidence 0 0
        ({(tCap 1 {queue := [tRec], segs := [{part := 0, zeroDue := false, adopt := 1, written := 5, queued := 5}]}) with mcs := tRun.mcs.set 0 {dead := true}}:State) 6 = true ∧
    hypCaptureEvidence 0 0 (tCap 1
        {queue := [tRec], segs := [{part := 0, zeroDue := false, adopt := 2, written := 5, queued := 5}]}) 7 = true ∧
    hypCaptureEvidence 0 0
        ({(tCap 1 {queue := [tRec], segs := [{part := 0, zeroDue := false, adopt := 2, written := 5, queued := 5}]}) with mcs := tRun.mcs.set 0 {dead := true}}:State) 8 = true ∧
    hypCaptureEvidence 0 0 ((tCap 1
        {queue := [tRec], segs := [{part := 0, zeroDue := false, written := 0, queued := 2, hdrAt := 0, readAt := 0}]})) 9 = true ∧
    hypCaptureEvidence 0 0
        ({(tCap 1 {queue := [tRec], segs := [{part := 0, zeroDue := false, written := 4, queued := 5}]}) with mcs := tRun.mcs.set 0 {dead := true}}:State) 10 = true ∧
    hypCaptureEvidence 0 0 ((tCap 1
        {queue := [], segs := [{part := 0, zeroDue := false, written := 0, queued := 2, hdrAt := 0, readAt := 0}]}))
        11 = true ∧
    hypCaptureEvidence 0 0
        ({(tCap 1 {queue := [], segs := [{part := 0, zeroDue := false, written := 4, queued := 5}]}) with mcs := tRun.mcs.set 0 {dead := true}}:State) 12 = true ∧
    hypCaptureEvidence 0 0 ((tCap 1
        {queue := [], segs := [{part := 0, zeroDue := true, written := 2045, queued := 2047, hdrAt := 0, readAt := 0}]})) 13 = true ∧
    hypCaptureEvidence 0 0
        ({(tCap 1 {segs := [{part := 0, zeroDue := false, written := 4, queued := 5000}]}) with mcs := tRun.mcs.set 0 {dead := true}}:State) 14 = true ∧
    hypCaptureEvidence 0 0 ((tCap 7 {rc := [(3,7)], segs := [{part := 0}]}).on (CLKPWR_GATE_GATED (srcCap 0))) 15 =
        true := by
  decide +kernel

/-- What clause k of `Obligations.CaptureMap` assumes. -/
def hypCaptureMap (u : Fin 9) (p : Fin 16) (s : State) : Nat → Bool := fun clause =>
    let c := s.cap u
    let clocked := s.flag (CLKPWR_GATE_GATED (srcCap u)) = false
    let runs := s.paused = false ∧ s.rd (CAP_STATUS_STATE u) < 2 ∧ clocked
    let dump := s.rd (CAP_RC_DUMP_LO_ADDR u) * 64 + s.rd (CAP_RC_DUMP_HI_ADDR u) * 2 ^ 32
    decide (s.regsOk) && match clause with
    | 0 => decide (¬ runs)
    | 1 => (decide (runs) && (match c.lines.find? (fun l => l.filling) with
   | some l => (decide (s.memHeld (s.mapAcc u l.part 4) l.gran 64 = false ∧ (∀ w ∈ c.wbs, w.gran ≠ l.gran)) && (let r := (s.portTake (s.mapAcc u l.part 4) l.gran 64).readGran (s.mapAcc u l.part 4) (chanOf l.gran) (granOf l.gran)
       (match r.2 with
   | .data d => decide ((∀ x ∈ c.upds, x.gran ≠ l.gran))
   | _ => false)))
   | _ => false))
    | 2 => (decide (runs) && (match c.lines.find? (fun l => l.filling) with
   | some l => (decide (s.memHeld (s.mapAcc u l.part 4) l.gran 64 = false ∧ (∀ w ∈ c.wbs, w.gran ≠ l.gran)) && (let r := (s.portTake (s.mapAcc u l.part 4) l.gran 64).readGran (s.mapAcc u l.part 4) (chanOf l.gran) (granOf l.gran)
       decide (r.2 = .uncorrectable ∧ l.part < 16 ∧ l.gran < 2 ^ 36)))
   | _ => false))
    | 3 => (decide (runs) && (match c.lines.find? (fun l => l.filling) with
   | some l => (decide (s.memHeld (s.mapAcc u l.part 4) l.gran 64 = false ∧ (∀ w ∈ c.wbs, w.gran ≠ l.gran)) && (let r := (s.portTake (s.mapAcc u l.part 4) l.gran 64).readGran (s.mapAcc u l.part 4) (chanOf l.gran) (granOf l.gran)
       decide (r.2 = .error ∧ (∀ x ∈ c.upds, x.gran ≠ l.gran))))
   | _ => false))
    | 4 => decide (¬ clocked)
    | 5 => decide (clocked)
    | 6 => decide (runs)
    | 7 => (decide (runs) && (match s.img.flushFrom.find? (fun x => x.1 = p.val) with
   | some f => decide ((∀ x ∈ c.ring, x.part = p.val → vtGe x.vt f.2 = true))
   | _ => false))
    | 8 => (decide (runs) && (match c.wbs with
   | w :: rest => (decide (s.memHeld (s.mapAcc u w.part 2) w.gran 64 = false) && (let r := s.writeAll (s.mapAcc u w.part 2) w.gran (natLe 64 w.data.toNat)
       decide (r.2 = none)))
   | _ => false))
    | 9 => (decide (runs) && (match c.wbs with
   | w :: rest => (decide (s.memHeld (s.mapAcc u w.part 2) w.gran 64 = false) && (let r := s.writeAll (s.mapAcc u w.part 2) w.gran (natLe 64 w.data.toNat)
       (match w.range with
   | some a => decide (r.2 ≠ none ∧ w.part < 16 ∧ (∀ l ∈ c.lines, l.gran ≠ w.gran))
   | _ => false)))
   | _ => false))
    | 10 => decide (clocked ∧ s.serves u p = true ∧ s.rcK p ≠ 0 ∧ s.inRegion p 0 dump (2 * s.rcK p) = true ∧
        c.dump = none ∧ s.flag (CAP_STATUS_DMA_HALT u) = false)
    | 11 => decide (clocked ∧ (s.serves u p = false ∨ s.rcK p = 0 ∨ s.inRegion p 0 dump (2 * s.rcK p) = false ∨
        c.dump ≠ none ∨ s.flag (CAP_STATUS_DMA_HALT u) = true))
    | 12 => (decide (runs) && (match c.dump with
   | some (q, a) => (decide (s.flag (CAP_STATUS_DMA_HALT u) = false ∧ s.memHeld (s.capAcc u q 2) a (2 * s.rcK q) = false) && (let w := s.writeAll (s.capAcc u q 2) a ((upFrom 0 (s.rcK q)).flatMap fun i => natLe 2 (s.rcGet u q i))
       decide (w.2 = none)))
   | _ => false))
    | 13 => (decide (runs) && (match c.dump with
   | some (q, a) => (decide (s.flag (CAP_STATUS_DMA_HALT u) = false ∧ s.memHeld (s.capAcc u q 2) a (2 * s.rcK q) = false) && (let w := s.writeAll (s.capAcc u q 2) a ((upFrom 0 (s.rcK q)).flatMap fun i => natLe 2 (s.rcGet u q i))
       decide (w.2 ≠ none)))
   | _ => false))
    | 14 => decide (clocked ∧ s.serves u p = true ∧ s.rcK p ≠ 0)
    | 15 => decide (clocked ∧ (s.serves u p = false ∨ s.rcK p = 0))
    | _ => false
theorem witness_CaptureMap :
    hypCaptureMap 0 0 ((tCap 1 {runs := [], segs := [{part := 0}]}).put (CAP_STATUS_STATE 0) 2) 0 = true ∧
    [1, 5, 6, 10, 14].all (hypCaptureMap 0 0 (tCap 7
        {lines := [(tLine 0 none true), (tLine 128 (some 2) false)], wbs := [], upds := [], rc := [(3,7),(65537,2)], ring := [tEcho 40 0]})) = true ∧
    hypCaptureMap 0 0
        ({tCap 7 {lines := [(tLine 0 (some 45) true), (tLine 128 (some 2) false)], wbs := [], upds := [], rc := [(3,7),(65537,2)], ring := [tEcho 40 0]} with masks := [(0,0xF0F0F)]}:State) 2 = true ∧
    hypCaptureMap 0 0
        ({tCap 7 {lines := [(tLine 0 none true), (tLine 128 (some 2) false)], wbs := [], upds := [], rc := [(3,7),(65537,2)], ring := [tEcho 40 0]} with mcs := tRun.mcs.set 0 {dead := true}}:State) 3 = true ∧
    hypCaptureMap 0 0 ((tCap 7 {rc := [(3,7)], segs := [{part := 0}]}).on (CLKPWR_GATE_GATED (srcCap 0))) 4 = true ∧
    hypCaptureMap 0 0 (let s := tCap 7 {lines := [(tLine 0 (some 45) true), (tLine 128 (some 2) false)], wbs := [(tLine 2097152 (some 3) false)], upds := [], rc := [(3,7),(65537,2)], ring := [tEcho 40 0]}; {s with img := {s.img with flushFrom := [(0,30)]}}) 7 = true ∧
    hypCaptureMap 0 0 (tCap 7
        {lines := [(tLine 0 none true), (tLine 128 (some 2) false)], wbs := [(tLine 2097152 (some 3) false)], upds := [], rc := [(3,7),(65537,2)], ring := [tEcho 40 0]}) 8 = true ∧
    hypCaptureMap 0 0 ((tCap 7 {wbs := [tLine 2097152 none false]}).put (MC_STATE_STATE 0) 4) 9 = true ∧
    hypCaptureMap 0 0 (((tCap 7 {rc := [(3,7),(65537,2)], dump := none}).put (CAP_RC_DUMP_LO_ADDR 0) 0).on
        (CAP_STATUS_DMA_HALT 0)) 11 = true ∧
    hypCaptureMap 0 0 (tPaid (fun s => [(s.capAcc 0 0 2, 64,
        8192)]) (tCap 7 {rc := [(3,7),(65537,2)], dump := some (0,64)})) 12 = true ∧
    hypCaptureMap 0 0 ({tCap 7 {dump := some (0,64)} with mcs := tRun.mcs.set 0 {dead := true}}:State) 13 = true ∧
    hypCaptureMap 0 1 (tCap 7 {rc := [(3,7),(65537,2)]}) 15 = true := by
  decide +kernel

end Cap

/-! Witnesses: memory -/

namespace Mem

/-- READY, memory served, with channel 0 as given. -/
def tMc (m : Mc) : State :=
  { tRun.put BW_CLASSMAP_HOSTDMA_CLASS 0 with mcs := tRun.mcs.set 0 m, clk := { fclk := 5000, uptime := 50 }, modes := { tRun.modes with memReady := true } }
/-- A read request of the host for a granule of channel 0. -/
def tReq (g : Nat) (write : Bool) (n : Nat) : McReq :=
  { acc := { master := 0x281, kind := if ! write then 1 else if n < 64 then 4 else 2 }, chan := 0, gran := g, write := write
    data := List.replicate n 5, stamp := 100 }
/-- A granule in a write buffer. -/
def tWb (g : Nat) : WbEnt := ⟨g, List.replicate 64 9, 100, 0⟩
/-- What clause k of `Obligations.MemoryRequests` assumes. -/
def hypMemoryRequests (k : Fin 32) (master : BitVec 10) (port write : Bool) (gran : BitVec 25) (off : BitVec 6) (data
    : List Byte) (cls : Nat) (cl : Fin 8) (s : State) : Nat → Bool := fun clause =>
    let c := s.physOf k
    let bs := data.take (64 - off.toNat)
    let r : McReq := {
      acc := { master := master.toNat, port := port,
               kind := if ! write then 1 else if bs.length < 64 then 4 else 2, cls := cls }
      chan := k, gran := gran.toNat, write := write, off := off.toNat, data := bs, stamp := s.clk.live }
    let out := s.mcState c = 4 ∨ (s.mc c).dead = true
    let p := pairN cls k
    let takes := s.portClass master.toNat port k gran.toNat
    let enters := s.paused = false ∧ takes = some cls ∧ ¬ out ∧ s.accHeld r.acc k = false ∧ s.bw.held = [] ∧
        (s.mc c).rq = [] ∧
      s.olderWaits r = false ∧
      cwf (fun _ => 0) s.bw.tokens = true ∧ 65536 ≤ s.tokens p ∧ 0 < s.bwEff.reserve p ∧ (s.mc c).migTo = none
    let pid := r.acc.portId
    decide (s.regsOk) && decide (s.effOk) && match clause with
    | 0 => decide (c < 34 ∧ (s.paused = true ∨ takes = none))
    | 1 => decide (c < 34 ∧ master.toNat < 72 ∧ port = false)
    | 2 => decide (c < 34 ∧ master.toNat = 0x281 ∧ port = false)
    | 3 => decide (c < 34 ∧ s.paused = false ∧ takes = some cls ∧ out)
    | 4 => decide (c < 34 ∧ s.paused = false ∧ takes = some cls ∧ ¬ out ∧ s.chanHeld k = true)
    | 5 => (decide (c < 34 ∧ enters ∧ write = false) && (match s.wbFind c gran.toNat with
   | some e => decide (e.mask = 0)
   | _ => false))
    | 6 => decide (c < 34 ∧ enters ∧ write = false ∧ s.wbFind c gran.toNat = none)
    | 7 => decide (c < 34 ∧ enters ∧ write = true ∧ bs.length = 64 ∧ s.wbFind c gran.toNat = none ∧
        (s.mc c).wb.length < 32)
    | 8 => decide (c < 34 ∧ enters ∧ write = true ∧ bs.length < 64 ∧ s.wbFind c gran.toNat = none)
    | 9 => decide (c < 34 ∧ (s.paused = true ∨ s.headOf pid cl k = none))
    | 10 => (decide (c < 34) && (match s.headOf pid cl k with
   | some q => decide (s.paused = false ∧ cwf (fun _ => 0) s.bw.tokens = true ∧ (s.accHeld q.acc k = true ∨
       s.queueAdmits k cl = false ∨ s.olderWaits q = true))
   | _ => false))
    | 11 => (decide (c < 34) && (match s.headOf pid cl k with
   | some q => decide (s.paused = false ∧ cwf (fun _ => 0) s.bw.tokens = true ∧ s.accHeld q.acc k = false ∧
       s.queueAdmits k cl = true ∧ s.olderWaits q = false ∧ 65536 ≤ s.tokens (pairN cl k))
   | _ => false))
    | 12 => (decide (c < 34) && (match s.headOf pid cl k with
   | some q => decide (s.paused = false ∧ cwf (fun _ => 0) s.bw.tokens = true ∧ s.accHeld q.acc k = false ∧
       s.queueAdmits k cl = true ∧ s.olderWaits q = false ∧ (∀ d : Nat, d < 8 → s.tokens (pairN d k) < 65536) ∧
       s.lowerWaits q.acc k = false ∧ (∀ x ∈ s.bw.surplusAt, x ≠ ((pid.1, pid.2, k.val), s.clk.live)))
   | _ => false))
    | 13 => (decide (c < 34) && (match s.headOf pid cl k with
   | some q => decide (s.paused = false ∧ cwf (fun _ => 0) s.bw.tokens = true ∧ s.accHeld q.acc k = false ∧
       s.queueAdmits k cl = true ∧ s.olderWaits q = false ∧ (∀ d : Nat, d < 8 → s.tokens (pairN d k) < 65536) ∧
       s.lowerWaits q.acc k = false ∧ (∃ x ∈ s.bw.surplusAt, x = ((pid.1, pid.2, k.val), s.clk.live)))
   | _ => false))
    | _ => false
theorem witness_MemoryRequests :
    hypMemoryRequests 0 0x281 false true 5 0 [] 0 0 (let s := ({tMc {} with pauses := {deep := true}}:State); {s with bw := {tokens := []}}) 0 = true ∧
    hypMemoryRequests 0 3 false false 5 0 [] 0 0 tRun 1 = true ∧
    [2, 9].all (hypMemoryRequests 0 0x281 false true 5 0 [] 0 0 (let s := (tMc {}); {s with bw := {tokens := []}})) = true ∧
    hypMemoryRequests 0 0x281 false true 5 0 [] 0 0 (let s := (tMc {dead := true}); {s with bw := {tokens := []}}) 3 = true ∧
    hypMemoryRequests 0 0x281 false true 5 0 [] 0 0 (let s := (tMc {moving := some 32}); {s with bw := {tokens := []}}) 4 = true ∧
    hypMemoryRequests 0 0x281 false false 5 0 [] 0 0 (let s := (tMc {wb := [tWb 5]}); {s with bw := {tokens := [(0,65536)]}}) 5 = true ∧
    hypMemoryRequests 0 0x281 false false 5 0 [] 0 0 (let s := (tMc {}); {s with bw := {tokens := [(0,65536)]}}) 6 = true ∧
    hypMemoryRequests 0 0x281 false true 5 0 (List.replicate 64 7) 0 0 (let s := (tMc {}); {s with bw := {tokens := [(0,65536)]}}) 7 = true ∧
    hypMemoryRequests 0 0x281 false true 5 0 [] 0 0 (let s := (tMc {}); {s with bw := {tokens := [(0,65536)]}}) 8 = true ∧
    hypMemoryRequests 0 0x281 false false 5 0 [] 0 0 (let s := (tMc {rq := (upFrom 0 64).map fun g => tReq g false 0}); {s with bw := {held := [tReq 7 false 0], tokens := []}}) 10 = true ∧
    hypMemoryRequests 0 0x281 false false 5 0 [] 0 0 (let s := (tMc {}); {s with bw := {held := [tReq 7 false 0], tokens := [(0,65536)]}}) 11 = true ∧
    hypMemoryRequests 0 0x281 false false 5 0 [] 0 0 (let s := (tMc {}); {s with bw := {held := [tReq 7 false 0], tokens := []}}) 12 = true ∧
    hypMemoryRequests 0 0x281 false false 5 0 [] 0 0 (let s := tMc {}; {s with bw := {held := [tReq 7 false 0], surplusAt := [((0x281,false,0),0)]}}) 13 = true := by
  decide +kernel

/-- What clause k of `Obligations.ArrayAndWriteBuffer` assumes. -/
def hypArrayAndWriteBuffer (c : Fin 34) (b : Fin 64) (upset : BitVec 576) (ups : List (Nat × BitVec 576)) (s : State)
    : Nat → Bool := fun clause =>
    let m := s.mc c
    let fine := s.paused = false ∧ s.mcState c ≠ 4 ∧ m.dead = false ∧ m.cq = [] ∧ m.rq = []
    let wb := ((s.wbUpset c ups).mc c).wb
    let aged := fun (e : WbEnt) => e.stamp + 4096 ≤ s.clk.live
    decide (s.regsOk) && decide (s.effOk) && decide (s.dramWf = true) && decide (s.masksWf = true) &&
        match clause with
    | 0 => decide (s.paused = true)
    | 1 => (decide (s.paused = false) && (match m.rq with
   | [r] => (decide (r.write = false ∧ (∀ h ∈ m.hammered, h / 32768 ≠ bankOf r.gran) ∧ s.wbFind c r.gran = none) && (let st := s.stored c r.gran
       (let mask := st.2 ^^^ upset
       decide (mask = 0))))
   | _ => false))
    | 2 => (decide (s.paused = false) && (match m.rq with
   | [r] => (decide (r.write = false ∧ (∀ h ∈ m.hammered, h / 32768 ≠ bankOf r.gran) ∧ s.wbFind c r.gran = none) && (let st := s.stored c r.gran
       (let mask := st.2 ^^^ upset
       (decide (mask ≠ 0) && (match readStored (storedSyms st.1 mask) with
   | .corrected d q => true
   | _ => false)))))
   | _ => false))
    | 3 => (decide (s.paused = false) && (match m.rq with
   | [r] => (decide (r.write = false ∧ (∀ h ∈ m.hammered, h / 32768 ≠ bankOf r.gran) ∧ s.wbFind c r.gran = none) && (let st := s.stored c r.gran
       (let mask := st.2 ^^^ upset
       decide (mask ≠ 0 ∧ readStored (storedSyms st.1 mask) = .uncorrectable))))
   | _ => false))
    | 4 => (decide (s.paused = false) && (match m.rq with
   | [r] => (decide (r.write = false) && (match s.wbFind c r.gran with
   | some e => decide (e.mask = 0)
   | _ => false))
   | _ => false))
    | 5 => (decide (fine) && (match wb with
   | e :: rest => decide (rest.length < 23 ∧ (∀ x ∈ wb, ¬ aged x))
   | _ => false))
    | 6 => (decide (fine) && (match findIx (fun e : WbEnt => e.stamp + 4096 ≤ s.clk.live) wb with
   | some i => (match wb[i]? with
   | some e => decide (wb.length < 24)
   | _ => false)
   | _ => false))
    | 7 => decide (fine ∧ 24 ≤ wb.length)
    | 8 => (decide (s.paused = false) && (let k := s.bank c b
       decide (k.openRow = none)))
    | 9 => (decide (s.paused = false) && (let k := s.bank c b
       (let hit := fun (r : Nat) => ∃ x ∈ m.rq, bankOf x.gran = b.val ∧ rowOf x.gran = r
       (match k.openRow with
   | some r => decide (k.lastUse + 128 ≤ s.clk.live ∨ (k.lastUse < s.clk.live ∧ ¬ hit r))
   | _ => false))))
    | 10 => (decide (s.paused = false) && (let k := s.bank c b
       (let hit := fun (r : Nat) => ∃ x ∈ m.rq, bankOf x.gran = b.val ∧ rowOf x.gran = r
       (match k.openRow with
   | some r => decide (s.clk.live < k.lastUse + 128 ∧ (hit r ∨ s.clk.live ≤ k.lastUse))
   | _ => false))))
    | _ => false
theorem witness_ArrayAndWriteBuffer :
    hypArrayAndWriteBuffer 0 0 3 []
        ({tMc {rq := [tReq 7 false 0], wb := [tWb 7]} with pauses := {deep := true}}:State) 0 = true ∧
    hypArrayAndWriteBuffer 0 0 0 [] ({tMc {rq := [tReq 7 false 0]} with masks := [], clk := {fclk := 127}}:State) 1 =
        true ∧
    hypArrayAndWriteBuffer 0 0 0 []
        ({tMc {rq := [tReq 7 false 0]} with masks := [(7,0x3)], clk := {fclk := 127}}:State) 2 = true ∧
    hypArrayAndWriteBuffer 0 0 0 []
        ({tMc {rq := [tReq 7 false 0]} with masks := [(7,0xF0000F00000F)], clk := {fclk := 127}}:State) 3 = true ∧
    hypArrayAndWriteBuffer 0 0 3 [] (tMc {rq := [tReq 7 false 0], wb := [tWb 7]}) 4 = true ∧
    hypArrayAndWriteBuffer 0 0 0 [] ((tMc {wb := (upFrom 100 1).map tWb})) 5 = true ∧
    hypArrayAndWriteBuffer 0 0 0 [(0,7)]
        ({tMc {wb := (upFrom 100 5).map fun g => {tWb g with stamp := if g = 101 then 50 else 100 + g}} with clk := {live := 4195}}:State) 6 = true ∧
    hypArrayAndWriteBuffer 0 0 0 [] ((tMc {wb := (upFrom 100 24).map tWb})) 7 = true ∧
    hypArrayAndWriteBuffer 0 0 0 [] ({tMc {rq := []} with masks := [], clk := {fclk := 127}}:State) 8 = true ∧
    hypArrayAndWriteBuffer 0 0 0 []
        ({tMc {rq := [], banks := (Vector.replicate 64 {}).set 0 {openRow := some 4, lastUse := 0}} with clk := {live := 100}}:State) 9 = true ∧
    hypArrayAndWriteBuffer 0 0 0 [] (tMc {banks := (Vector.replicate 64 {}).set 0 {openRow := some 4, lastUse := 0}})
        10 = true := by
  decide +kernel

/-- What clause k of `Obligations.Refresh` assumes. -/
def hypRefresh (c : Fin 34) (b : Fin 64) (s : State) : Nat → Bool := fun clause =>
    let k := s.bank c b
    let d := min 8 (k.debt + 1)
    decide (s.regsOk) && decide (s.effOk) && match clause with
    | 0 => decide (s.planned c = false)
    | 1 => decide (s.planned c = true ∧ s.inNoref c = false ∧ d < 2)
    | 2 => decide (s.planned c = true ∧ s.inNoref c = false ∧ 2 ≤ d)
    | 3 => decide (s.planned c = true ∧ s.inNoref c = true ∧ d = 8)
    | 4 => decide (s.planned c = true ∧ s.inNoref c = true ∧ 0 < d ∧ d < 8)
    | 5 => decide (s.planned c = true ∧ s.inNoref c = true ∧ d ≤ 0)
    | 6 => decide (s.planned c = true ∧ s.inNoref c = true)
    | 7 => decide (2 ≤ k.issued)
    | 8 => decide (s.planned c = true ∧ s.inNoref c = false ∧ k.issued < 2 ∧ 0 < k.debt ∧ ((2 ≤ k.debt ∨
        ∀ r ∈ (s.mc c).rq, bankOf r.gran ≠ b.val)))
    | 9 => decide (s.planned c = true ∧ s.inNoref c = false ∧ s.paused = false ∧ s.norefNear c (s.trefi c) = true ∧
        (s.mc c).rq = [] ∧ (∀ i : Nat, i < 64 → -1 ≤ (s.bank c i).debt ∧ (s.bank c i).debt ≤ 8))
    | 10 => decide (s.planned c = false ∨ (s.mc c).hammered = [])
    | 11 => (decide (s.planned c = true) && (match (s.mc c).hammered with
   | key :: rest => decide (key < 2 ^ 21)
   | _ => false))
    | _ => false
theorem witness_Refresh :
    hypRefresh 0 0
        ({(tMc {rq := [], banks := (Vector.replicate 64 {}).set 0 {openRow := some 4, debt := -1, ptr := 5, issued := 2}}).on (MC_STATE_SELFREF 0) with vt := {norefs := []}}:State) 0 = true ∧
    [1, 7, 10].all (hypRefresh 0 0
        ({(tMc {rq := [], banks := (Vector.replicate 64 {}).set 0 {openRow := some 4, debt := -1, ptr := 5, issued := 2}}) with vt := {norefs := []}}:State)) = true ∧
    hypRefresh 0 0
        ({(tMc {rq := [], banks := (Vector.replicate 64 {}).set 0 {openRow := some 4, debt := 1, ptr := 5, issued := 2}}) with vt := {norefs := []}}:State) 2 = true ∧
    hypRefresh 0 0
        ({(tMc {rq := [], banks := (Vector.replicate 64 {}).set 0 {openRow := some 4, debt := 7, ptr := 5, issued := 2}}) with vt := {norefs := [⟨255,9999⟩]}}:State) 3 = true ∧
    hypRefresh 0 0
        ({(tMc {rq := [], banks := (Vector.replicate 64 {}).set 0 {openRow := some 4, debt := 0, ptr := 5, issued := 2}}) with vt := {norefs := [⟨255,9999⟩]}}:State) 4 = true ∧
    [5, 6].all (hypRefresh 0 0
        ({(tMc {rq := [], banks := (Vector.replicate 64 {}).set 0 {openRow := some 4, debt := -1, ptr := 5, issued := 2}}) with vt := {norefs := [⟨255,9999⟩]}}:State)) = true ∧
    hypRefresh 0 0
        ({(tMc {rq := [], banks := (Vector.replicate 64 {}).set 0 {openRow := some 4, debt := 1, ptr := 8191, issued := 1}}) with vt := {norefs := []}}:State) 8 = true ∧
    hypRefresh 0 0 (tCal 4 ⟨10000,6,0,20000⟩ 6000 (tMc
        {rq := [], banks := (Vector.replicate 64 {}).set 3 {openRow := some 4, debt := 2, ptr := 6}})) 9 = true ∧
    hypRefresh 0 0 (tMc
        {hammered := [32768*35+7], banks := (Vector.replicate 64 {openRow := some 3}), acts := [(5,4096)]}) 11 = true
        := by
  decide +kernel

/-- What clause k of `Obligations.LayerTemperatures` assumes. -/
def hypLayerTemperatures (l : List (Option (BitVec 12))) (s : State) : Nat → Bool := fun clause =>

    decide (s.regsOk) && decide (s.effOk) && match clause with
    | 0 => decide (s.rd ALM_STATUS_STATE = 0)
    | 1 => decide (s.rd ALM_STATUS_STATE = 3)
    | 2 => decide (s.rd ALM_STATUS_STATE ≠ 0 ∧ s.rd ALM_STATUS_STATE ≠ 3)
    | 3 => (match s.alm.coolSince with
   | some t0 => decide (s.pauses.trip = true ∧ t0 + 10000 ≤ s.now)
   | _ => false)
    | 4 => decide (s.alm.coolSince = none ∨ s.pauses.trip = false)
    | _ => false
theorem witness_LayerTemperatures :
    [0, 4].all (hypLayerTemperatures (List.replicate 17 none) ((tMc {}).put ALM_STATUS_STATE 0)) = true ∧
    hypLayerTemperatures (List.replicate 17 none) ((tMc {}).put ALM_STATUS_STATE 3) 1 = true ∧
    hypLayerTemperatures (List.replicate 17 none) ((tMc {}).put ALM_STATUS_STATE 1) 2 = true ∧
    hypLayerTemperatures [] (let s := (tMc {}).on (MC_STATE_TRIP 3); {s with alm := {s.alm with coolSince := some 10}, pauses := {trip := true}, clk := {uptime := 10010}}) 3 = true := by
  decide +kernel

/-- What clause k of `Obligations.ChannelMapAndClasses` assumes. -/
def hypChannelMapAndClasses (map : List (BitVec 6)) (s : State) : Nat → Bool := fun clause =>
    let new := map.map (·.toNat)
    let b := s.bwPend
    let alive := (upFrom 0 32).filter s.aliveChan
    let legal := ∀ k : Nat, k < 32 → ∀ c : Nat, c < 8 → b.reserve (pairN c k) ≤ 64 ∧ 0 < b.cap (pairN c k) ∧
        b.cap (pairN c k) ≤ 64 ∧
      b.reserve (pairN c k) ≤ b.cap (pairN c k)
    decide (s.regsOk) && decide (s.effOk) && match clause with
    | 0 => decide (map.length = 32 ∧ chmapOk (fun c => s.mcState c = 4) s.mapEff new = false)
    | 1 => decide (map.length = 32 ∧ chmapOk (fun c => s.mcState c = 4) s.mapEff new = true ∧ s.chmapDue new = false)
    | 2 => decide (map.length = 32 ∧ chmapOk (fun c => s.mcState c = 4) s.mapEff new = true ∧ s.chmapDue new = true ∧
        s.mapEff.Nodup)
    | 3 => decide ((∃ c : Nat, c < 34 ∧ (s.mc c).moving.isSome) ∧ (∀ c : Nat, c < 34 →
        ∀ d ∈ (s.mc c).moving, d < 34 ∧ (s.mc c).rq = [] ∧ (s.mc c).wb = [] ∧ (s.mc c).cq = []) ∧
        (∀ k : Nat, k < 32 → s.physOf k < 34))
    | 4 => decide ((∀ c : Nat, c < 34 → (s.mc c).moving = none) ∨ (∃ c : Nat, c < 34 ∧ (s.mc c).moving.isSome ∧
        (s.mc c).wb ≠ []))
    | 5 => decide (¬ legal)
    | 6 => (match b.shareOver (s.flag BW_STATUS_ADMIT_COLD) alive with
   | some k => decide (legal)
   | _ => false)
    | 7 => (match b.reserveOver (s.rd BW_CLASSMAP_ALMANAC_CLASS) s.aliveChan alive with
   | some k => decide (legal ∧ b.shareOver (s.flag BW_STATUS_ADMIT_COLD) alive = none)
   | _ => false)
    | 8 => decide (legal ∧ b.shareOver (s.flag BW_STATUS_ADMIT_COLD) alive = none ∧
        b.reserveOver (s.rd BW_CLASSMAP_ALMANAC_CLASS) s.aliveChan alive = none)
    | _ => false
theorem witness_ChannelMapAndClasses :
    [0, 4, 8].all (hypChannelMapAndClasses ((upFrom 0 32).map (BitVec.ofNat 6)) (tMc {})) = true ∧
    hypChannelMapAndClasses ((((upFrom 0 32).map (BitVec.ofNat 6)).set 0 32).set 1 33) (tMc {}) 1 = true ∧
    hypChannelMapAndClasses ((((upFrom 0 32).map (BitVec.ofNat 6)).set 0 32).set 1 33) ((tMc
        {migTo := some 32, migEnd := true}).updMc 1 fun m => {m with migTo := some 33, migEnd := true}) 2 = true ∧
    hypChannelMapAndClasses [] ((((tMc {moving := some 32}).updMc 1 fun m => {m with moving := some 33}).put
        (MC_CHMAP_PHYS 0) 32).put (MC_CHMAP_PHYS 1) 33) 3 = true ∧
    hypChannelMapAndClasses [] ((tMc {}).setReg (rsvAddr 3) 16449) 5 = true ∧
    hypChannelMapAndClasses [] ((tMc {}).setReg (shareAddr 7) 40039) 6 = true ∧
    hypChannelMapAndClasses [] ((tMc {}).setReg (rsvAddr 7) 15409) 7 = true := by
  decide +kernel

/-- What clause k of `Obligations.RemapAndCheckerTest` assumes. -/
def hypRemapAndCheckerTest (c : Fin 34) (host : Bool) (s : State) : Nat → Bool := fun clause =>
    let changed := (upFrom 0 16).filter fun n => s.remapEff c n ≠ s.remapPend c n
    let free := fun (n : Nat) => (s.remapEff c n).isNone && (s.remapPend c n).isNone && ! (s.mc c).badSlots.contains n
    let may := (host && s.flag (MC_REMAP_CTRL_AUTO c)) = false
    decide (s.regsOk) && decide (s.effOk) && decide (s.dramWf = true) && match clause with
    | 0 => (let period := s.rd (MC_ECC_CFG_LB_PERIOD c)
       (let since := s.now - (s.mc c).leakAt
       decide (period = 0 ∨ since < period)))
    | 1 => (let period := s.rd (MC_ECC_CFG_LB_PERIOD c)
       (let since := s.now - (s.mc c).leakAt
       decide (period ≠ 0 ∧ period ≤ since)))
    | 2 => decide (s.flag (MC_REMAP_CTRL_AUTO c) = true)
    | 3 => (match s.remapDup c with
   | some n => decide (may)
   | _ => false)
    | 4 => decide (may ∧ s.remapDup c = none ∧ (∀ n ∈ changed, s.remapPend c n = none))
    | 5 => (match changed with
   | [n] => (match s.remapPend c n with
   | some g => (match s.wbFind c g with
   | some e => decide (may ∧ s.remapDup c = none ∧ s.remapEff c n = none ∧ e.mask = 0 ∧ e.data.length = 64 ∧
       s.flag (MC_ECC_FLIP_CTRL_ARMED c) = false)
   | _ => false)
   | _ => false)
   | _ => false)
    | 6 => decide (s.restarting = true)
    | 7 => (match (s.mc c).wanted with
   | g :: rest => decide (s.restarting = false ∧ (s.slotOf c g).isSome)
   | _ => false)
    | 8 => (match (s.mc c).wanted with
   | g :: rest => decide (s.restarting = false ∧ s.slotOf c g = none ∧ s.flag (MC_REMAP_CTRL_AUTO c) = false)
   | _ => false)
    | 9 => (match (s.mc c).wanted with
   | g :: rest => decide (s.restarting = false ∧ s.slotOf c g = none ∧ s.flag (MC_REMAP_CTRL_AUTO c) = true ∧
       ((∀ n : Nat, n < 16 → (s.remapEff c n).isSome ∨ (s.remapPend c n).isSome ∨ n ∈ (s.mc c).badSlots)))
   | _ => false)
    | 10 => (match (s.mc c).wanted with
   | g :: rest => (decide (s.restarting = false ∧ s.slotOf c g = none ∧ g < 2 ^ 25 ∧
       s.flag (MC_REMAP_CTRL_AUTO c) = true) && (match (upFrom 0 16).find? free with
   | some n => (decide (s.remapDup c = none ∧ changed = [] ∧ s.flag (MC_ECC_FLIP_CTRL_ARMED c) = false) &&
       (match s.wbFind c g with
   | some e => decide (e.mask = 0 ∧ e.data.length = 64)
   | _ => false))
   | _ => false))
   | _ => false)
    | 11 => (match (s.mc c).wanted with
   | g :: rest => (decide (s.restarting = false ∧ s.slotOf c g = none ∧ g < 2 ^ 25 ∧
       s.flag (MC_REMAP_CTRL_AUTO c) = true) && (match (upFrom 0 16).find? free with
   | some n => (decide (s.remapDup c = none ∧ changed = [] ∧ s.flag (MC_ECC_FLIP_CTRL_ARMED c) = false) &&
       decide (s.wbFind c g = none ∧ s.arrMask c g = 0))
   | _ => false))
   | _ => false)
    | 12 => (match (s.mc c).wanted with
   | g :: rest => (decide (s.restarting = false ∧ s.slotOf c g = none ∧ g < 2 ^ 25 ∧
       s.flag (MC_REMAP_CTRL_AUTO c) = true) && (match (upFrom 0 16).find? free with
   | some n => (decide (s.remapDup c = none ∧ changed = [] ∧ s.flag (MC_ECC_FLIP_CTRL_ARMED c) = false) &&
       decide (s.wbFind c g = none ∧ s.arrMask c g ≠ 0 ∧
       readStored (storedSyms (s.arrBytes c g) (s.arrMask c g)) = .uncorrectable))
   | _ => false))
   | _ => false)
    | 13 => (decide (s.restarting = false) && (match (s.mc c).repairRows with
   | key :: rest => (match (upFrom 0 16).find? (fun n => ! (s.sparesGone c (key / 32768)).contains n) with
   | some sp => decide (s.paused = false ∧ s.mcState c ≠ 4 ∧ s.rowOpen c 150 = true ∧ (∀ n : Nat, n < 16 →
       s.remapEff c n = none ∧ s.remapPend c n = none) ∧ (s.mc c).repaired.length < 1024)
   | _ => false)
   | _ => false))
    | _ => false
theorem witness_RemapAndCheckerTest :
    [0, 2].all (hypRemapAndCheckerTest 0 true ((tMc {wanted := [], wb := [tWb 77]}))) = true ∧
    hypRemapAndCheckerTest 0 false ((tMc {leakAt := 0}).put (MC_ECC_CFG_LB_PERIOD 0) 10 |>.put (MC_ECC_STAT_LB_COUNT
        0) 3) 1 = true ∧
    hypRemapAndCheckerTest 0 true ((tMc {wanted := [], wb := [tWb 77]}) |>.off (MC_REMAP_CTRL_AUTO 0) |>.setReg
        (MC_REMAP_VALID 0 3).addr (BitVec.ofNat 32 (2^31 + 77)) |>.setReg (MC_REMAP_VALID 0 5).addr (BitVec.ofNat 32
        (2^31 + 77))) 3 = true ∧
    hypRemapAndCheckerTest 0 true ((tMc {wanted := [], wb := [tWb 77]}) |>.off (MC_REMAP_CTRL_AUTO 0)) 4 = true ∧
    hypRemapAndCheckerTest 0 true ((tMc {wanted := [], wb := [tWb 77]}) |>.off (MC_REMAP_CTRL_AUTO 0) |>.setReg
        (MC_REMAP_VALID 0 3).addr (BitVec.ofNat 32 (2^31 + 77))) 5 = true ∧
    hypRemapAndCheckerTest 0 false ((tMc {wanted := [77]}).put ALM_STATUS_STATE 3) 6 = true ∧
    hypRemapAndCheckerTest 0 true ((tMc {wanted := [205]}) |>.setBoth (MC_REMAP_VALID 0 0).addr (BitVec.ofNat 32
        (2^31+200)) |>.setBoth (MC_REMAP_VALID 0 1).addr (BitVec.ofNat 32 (2^31+201)) |>.setBoth (MC_REMAP_VALID 0
        2).addr (BitVec.ofNat 32 (2^31+202)) |>.setBoth (MC_REMAP_VALID 0 3).addr (BitVec.ofNat 32 (2^31+203))
        |>.setBoth (MC_REMAP_VALID 0 4).addr (BitVec.ofNat 32 (2^31+204)) |>.setBoth (MC_REMAP_VALID 0 5).addr
        (BitVec.ofNat 32 (2^31+205)) |>.setBoth (MC_REMAP_VALID 0 6).addr (BitVec.ofNat 32 (2^31+206)) |>.setBoth
        (MC_REMAP_VALID 0 7).addr (BitVec.ofNat 32 (2^31+207)) |>.setBoth (MC_REMAP_VALID 0 8).addr (BitVec.ofNat 32
        (2^31+208)) |>.setBoth (MC_REMAP_VALID 0 9).addr (BitVec.ofNat 32 (2^31+209)) |>.setBoth (MC_REMAP_VALID 0
        10).addr (BitVec.ofNat 32 (2^31+210)) |>.setBoth (MC_REMAP_VALID 0 11).addr (BitVec.ofNat 32 (2^31+211))
        |>.setBoth (MC_REMAP_VALID 0 12).addr (BitVec.ofNat 32 (2^31+212)) |>.setBoth (MC_REMAP_VALID 0 13).addr
        (BitVec.ofNat 32 (2^31+213)) |>.setBoth (MC_REMAP_VALID 0 14).addr (BitVec.ofNat 32 (2^31+214)) |>.setBoth
        (MC_REMAP_VALID 0 15).addr (BitVec.ofNat 32 (2^31+215)) |>.off (MC_REMAP_CTRL_AUTO 0)) 7 = true ∧
    hypRemapAndCheckerTest 0 true ((tMc {wanted := [77], wb := [tWb 77]}) |>.off (MC_REMAP_CTRL_AUTO 0)) 8 = true ∧
    hypRemapAndCheckerTest 0 false ((tMc {wanted := [77]}) |>.setBoth (MC_REMAP_VALID 0 0).addr (BitVec.ofNat 32
        (2^31+200)) |>.setBoth (MC_REMAP_VALID 0 1).addr (BitVec.ofNat 32 (2^31+201)) |>.setBoth (MC_REMAP_VALID 0
        2).addr (BitVec.ofNat 32 (2^31+202)) |>.setBoth (MC_REMAP_VALID 0 3).addr (BitVec.ofNat 32 (2^31+203))
        |>.setBoth (MC_REMAP_VALID 0 4).addr (BitVec.ofNat 32 (2^31+204)) |>.setBoth (MC_REMAP_VALID 0 5).addr
        (BitVec.ofNat 32 (2^31+205)) |>.setBoth (MC_REMAP_VALID 0 6).addr (BitVec.ofNat 32 (2^31+206)) |>.setBoth
        (MC_REMAP_VALID 0 7).addr (BitVec.ofNat 32 (2^31+207)) |>.setBoth (MC_REMAP_VALID 0 8).addr (BitVec.ofNat 32
        (2^31+208)) |>.setBoth (MC_REMAP_VALID 0 9).addr (BitVec.ofNat 32 (2^31+209)) |>.setBoth (MC_REMAP_VALID 0
        10).addr (BitVec.ofNat 32 (2^31+210)) |>.setBoth (MC_REMAP_VALID 0 11).addr (BitVec.ofNat 32 (2^31+211))
        |>.setBoth (MC_REMAP_VALID 0 12).addr (BitVec.ofNat 32 (2^31+212)) |>.setBoth (MC_REMAP_VALID 0 13).addr
        (BitVec.ofNat 32 (2^31+213)) |>.setBoth (MC_REMAP_VALID 0 14).addr (BitVec.ofNat 32 (2^31+214)) |>.setBoth
        (MC_REMAP_VALID 0 15).addr (BitVec.ofNat 32 (2^31+215)) |>.on (MC_REMAP_CTRL_AUTO 0)) 9 = true ∧
    hypRemapAndCheckerTest 0 true ((tMc {wanted := [77], wb := [tWb 77]})) 10 = true ∧
    hypRemapAndCheckerTest 0 false
        ({((tMc {wanted := [77,78], wb := [], badSlots := [2]}) |>.on (MC_REMAP_CTRL_AUTO 0)) with masks := []}:State) 11 = true ∧
    hypRemapAndCheckerTest 0 false
        ({((tMc {wanted := [77,78], wb := [], badSlots := [2]}) |>.on (MC_REMAP_CTRL_AUTO 0)) with masks := [(77,0x10000000100000001)]}:State) 12 = true ∧
    hypRemapAndCheckerTest 0 false
        ({(tMc {repairRows := [70000,70001]}).put (GLOBAL_PMODE_MODE 0) 4 with img := State.reset.img}) 13 = true :=
        by
  decide +kernel

end Mem

/-! Witnesses: training and layers -/

namespace Trn

/-- READY, memory served, with channel 0 as given. -/
def tMc (m : Mc) : State :=
  { tRun.put BW_CLASSMAP_HOSTDMA_CLASS 0 with mcs := tRun.mcs.set 0 m, clk := { fclk := 5000, uptime := 50 }, modes := { tRun.modes with memReady := true } }
/-- A granule in a write buffer. -/
def tWb (g : Nat) : WbEnt := ⟨g, List.replicate 64 9, 100, 0⟩
/-- A map of w clean delay steps from step 3 on. -/
def tMap (w : Nat) : BitVec 128 := BitVec.ofNat 128 ((2 ^ w - 1) * 8)
/-- A sweep with every DQ window of a width and every CA window of a width. -/
def tSweep (dq ca : Nat) : Sweep :=
  ⟨List.replicate 72 (tMap dq), List.replicate 72 (tMap dq), List.replicate 14 (tMap ca)⟩
/-- A full training whose first attempts show such windows. -/
def tRunW (dq ca : Nat) : TrainRun :=
  ⟨[], [(tSweep dq ca).ca], [(tSweep dq ca).rd], [(tSweep dq ca).wr], []⟩
/-- What clause k of `Obligations.TrainingAndRepair` assumes. -/
def hypTrainingAndRepair (c : Fin 34) (run : TrainRun) (sweep : Sweep) (pc : Fin 2) (sound : Bool) (map : BitVec 128)
    (lo len : Nat) (s : State) : Nat → Bool := fun clause =>
    let m := s.mc c
    let boot := s.devMode = 1 ∧ s.rd GLOBAL_BOOT_STEP = 5
    let asked := s.devMode ≠ 1 ∧ (m.fullReq = true ∨ s.flag (MC_TRN_STAT_ESCALATED c) = true) ∧ s.fullOpen c = true ∧
      m.fullRun = false ∧ s.flag (MC_TRN_STAT_RUNNING c) = false
    let first : Sweep := ⟨run.rd.headD [], run.wr.headD [], run.ca.headD []⟩
    let w := sweepWins first
    let noneBad := run.opens.headD ⟨[], []⟩ = ⟨[], []⟩ ∧ blind first.ca 14 = [] ∧ blind first.rd 72 = [] ∧
        blind first.wr 72 = []
    let clean := noneBad ∧ s.dqFails c w = [] ∧ s.caFails c w = []
    let sus := if pc = 0 then s.flag (MC_ECC_DQSUS_VALID0 c) else s.flag (MC_ECC_DQSUS_VALID1 c)
    let j := if pc = 0 then s.rd (MC_ECC_DQSUS_SYM0 c) else s.rd (MC_ECC_DQSUS_SYM1 c)
    let open_ := sus = true ∧ s.paused = false ∧ s.restarting = false ∧ m.migTo = none ∧ s.mcState c ≠ 4 ∧
      s.chanOpen c 100 = true
    let holds := s.dqHolds c (36 * pc.val + j) (sweepWins sweep)
    decide (s.regsOk) && decide (s.effOk) && match clause with
    | 0 => decide (0 < len ∧ lo + len ≤ 128 ∧ (∀ i : Nat, i < 128 → (map.getLsbD i = true ↔ lo ≤ i ∧ i < lo + len)))
    | 1 => decide (s.paused = false ∧ s.restarting = false ∧ s.mcState c ≠ 4 ∧ clean ∧ boot)
    | 2 => decide (s.paused = false ∧ s.restarting = false ∧ s.mcState c ≠ 4 ∧ clean ∧ s.devMode ≠ 1 ∧
        m.fullRun = true ∧ s.fullOpen c = true)
    | 3 => decide (s.paused = false ∧ s.restarting = false ∧ s.mcState c ≠ 4 ∧ asked ∧ m.wb.length ≤ 32 ∧ m.cq = [])
    | 4 => decide (s.paused = false ∧ s.restarting = false ∧ s.mcState c ≠ 4 ∧ s.devMode ≠ 1 ∧ m.fullRun = true ∧
        s.fullOpen c = false)
    | 5 => decide (s.paused = false ∧ s.restarting = false ∧ s.mcState c ≠ 4 ∧ boot ∧ noneBad ∧ s.dqFails c w = [] ∧
        s.caFails c w ≠ [] ∧ s.flag (MC_TSV_STAT_CA_EXH c) = true)
    | 6 => decide (s.paused = true ∨ s.restarting = true ∨ s.mcState c = 4)
    | 7 => decide (s.rd (MC_TRN_CFG_PERIOD_S c) ≠ 0 ∧ m.trainedAt + s.rd (MC_TRN_CFG_PERIOD_S c) * 1000000 ≤ s.now)
    | 8 => decide (s.rd (MC_TRN_CFG_PERIOD_S c) = 0)
    | 9 => decide (s.rd (MC_TRN_CFG_OVERDUE_S c) ≠ 0 ∧ s.flag (MC_TRN_STAT_DUE c) = true ∧ m.overdueMsg = none ∧
        m.dueSince + s.rd (MC_TRN_CFG_OVERDUE_S c) * 1000000 ≤ s.now)
    | 10 => decide (¬ open_)
    | 11 => decide (open_ ∧ sound = true ∧ holds = true)
    | 12 => decide (open_ ∧ ((sound = false ∨ holds = false)) ∧ s.dqReps c pc = [] ∧ (pc.val, j) ∉ m.deadDq ∧
        s.devMode ≠ 1)
    | _ => false
theorem witness_TrainingAndRepair :
    [0, 10].all (hypTrainingAndRepair 0 (tRunW 0 0) (tSweep 100 100) 0 true (tMap 100) 3 100 ((tMc {}).put
        GLOBAL_MODE_MODE 1 |>.put GLOBAL_BOOT_STEP 5)) = true ∧
    hypTrainingAndRepair 0 (tRunW 40 110) (tSweep 100 100) 0 true (tMap 100) 3 100 ((tMc {}).put GLOBAL_MODE_MODE 1
        |>.put GLOBAL_BOOT_STEP 5) 1 = true ∧
    hypTrainingAndRepair 0 (tRunW 40 40) (tSweep 100 100) 0 true (tMap 100) 3 100 (tMc {fullRun := true} |>.put
        (GLOBAL_PMODE_MODE 0) 5 |>.on (MC_TRN_STAT_RUNNING 0)) 2 = true ∧
    hypTrainingAndRepair 0 (tRunW 0 0) (tSweep 100 100) 0 true (tMap 100) 3 100 (tMc {fullReq := true} |>.put
        (GLOBAL_PMODE_MODE 0) 5) 3 = true ∧
    hypTrainingAndRepair 0 (tRunW 0 0) (tSweep 100 100) 0 true (tMap 100) 3 100 (tMc {fullRun := true} |>.on
        (MC_TRN_STAT_RUNNING 0)) 4 = true ∧
    hypTrainingAndRepair 0 (tRunW 40 10) (tSweep 100 100) 0 true (tMap 100) 3 100 (((tMc {}).put GLOBAL_MODE_MODE 1
        |>.put GLOBAL_BOOT_STEP 5).on (MC_TSV_STAT_CA_EXH 0)) 5 = true ∧
    hypTrainingAndRepair 0 (tRunW 0 0) (tSweep 100 100) 0 true (tMap 100) 3 100 (((tMc {}).put GLOBAL_MODE_MODE 1
        |>.put GLOBAL_BOOT_STEP 5).put (MC_STATE_STATE 0) 4) 6 = true ∧
    [7, 9].all (hypTrainingAndRepair 0 (tRunW 0 0) (tSweep 0 0) 0 true 0x7F00F 8 7 (let s := (tMc {dueSince := 0, overdueMsg := none}).put (MC_TRN_CFG_PERIOD_S 0) 1 |>.put (MC_TRN_CFG_OVERDUE_S 0) 1 |>.on (MC_TRN_STAT_DUE 0); {s with clk := {uptime := 1000000}})) = true ∧
    hypTrainingAndRepair 0 (tRunW 0 0) (tSweep 0 0) 0 true 0x7F00F 8 7 (let s := (tMc {dueSince := 0, overdueMsg := none}).put (MC_TRN_CFG_PERIOD_S 0) 0 |>.put (MC_TRN_CFG_OVERDUE_S 0) 0 |>.on (MC_TRN_STAT_DUE 0); {s with clk := {uptime := 0}}) 8 = true ∧
    hypTrainingAndRepair 4 (tRunW 0 0) (tSweep 100 100) 0 true (tMap 128) 3 125 (tMc {} |>.put (GLOBAL_PMODE_MODE 0)
        3 |>.on (MC_ECC_DQSUS_VALID0 4) |>.put (MC_ECC_DQSUS_SYM0 4) 0 |>.on (MC_ECC_DQSUS_VALID1 4) |>.put
        (MC_ECC_DQSUS_SYM1 4) 35) 11 = true ∧
    hypTrainingAndRepair 4 (tRunW 0 0) (tSweep 0 100) 0 true (tMap 128) 3 125 (tMc {} |>.put (GLOBAL_PMODE_MODE 0) 3
        |>.on (MC_ECC_DQSUS_VALID0 4) |>.put (MC_ECC_DQSUS_SYM0 4) 0 |>.on (MC_ECC_DQSUS_VALID1 4) |>.put
        (MC_ECC_DQSUS_SYM1 4) 35) 12 = true := by
  decide +kernel

/-- What clause k of `Obligations.LayersAndMigration` assumes. -/
def hypLayersAndMigration (l : BitVec 5) (n : Fin 17) (c : Fin 34) (even odd dead : Bool) (w0 w1 : Sweep) (upset :
    BitVec 576) (s : State) : Nat → Bool := fun clause =>
    let i := l.toNat
    let free := s.flag MC_LAYER_STAT_SPARE_FREE = true
    let cs := (if even then [2 * n.val] else []) ++ (if odd then [2 * n.val + 1] else [])
    let readies := fun (h : Nat) => s.flag (MC_TRN_STAT_RUNNING (32 + h)) = true ∧ (s.mc (32 + h)).fullRun = false ∧
      (s.mc (32 + h)).reqAgain = false
    let g := s.rd (MC_MIG_PTR_POINTER c)
    decide (s.regsOk) && decide (s.effOk) && decide (s.dramWf = true) && decide (s.masksWf = true) &&
        match clause with
    | 0 => decide (s.flag MC_LAYER_STAT_SPARE_FREE = false ∨ s.migrating = true ∨ 16 ≤ i ∨ s.mcState (2 * i) ≠ 0 ∨
        s.mcState (2 * i + 1) ≠ 0)
    | 1 => decide (free ∧ s.migrating = false ∧ i < 16 ∧ s.mcState (2 * i) = 0 ∧ s.mcState (2 * i + 1) = 0 ∧
        s.restarting = true)
    | 2 => decide (free ∧ s.migrating = false ∧ i < 16 ∧ s.mcState (2 * i) = 0 ∧ s.mcState (2 * i + 1) = 0 ∧
        s.restarting = false)
    | 3 => decide (cs = [] ∧ (s.paused = true ∨ s.migrating = false))
    | 4 => decide (cs = [] ∧ s.paused = false ∧ s.migrating = true ∧ readies 0 ∧ readies 1)
    | 5 => decide (cs ≠ [] ∧ s.restarting = true)
    | 6 => decide (cs ≠ [] ∧ s.restarting = false ∧ n.val < 16 ∧ free ∧ s.migrating = false ∧
        (∃ x ∈ cs, s.mcState x ≠ 2 ∧ s.mcState x ≠ 4))
    | 7 => decide (cs ≠ [] ∧ s.restarting = false ∧ n.val < 16 ∧ ¬ free ∧ (∀ x : Nat, x < 34 →
        (s.mc x).migTo = none) ∧ (∃ x ∈ cs, s.mcState x ≠ 2 ∧ s.mcState x ≠ 4))
    | 8 => decide (cs ≠ [] ∧ s.restarting = false ∧ n.val = 16 ∧ free)
    | 9 => decide (cs ≠ [] ∧ s.restarting = false ∧ n.val = 16 ∧ ¬ free ∧ s.migrating = true)
    | 10 => decide ((s.mc c).migTo = none ∨ s.paused = true)
    | 11 => (match (s.mc c).migTo with
   | some d => decide (s.flag (MC_TRN_STAT_RUNNING d) = true)
   | _ => false)
    | 12 => (match (s.mc c).migTo with
   | some d => (decide ((d = 32 ∨ d = 33) ∧ c.val < 32 ∧ s.paused = false ∧ s.flag (MC_TRN_STAT_RUNNING d) = false ∧
       s.memHeld (s.almAcc 1) (cubeAddr (s.logName c) g) 64 = false ∧ s.flag (MC_ECC_FLIP_CTRL_ARMED d) = false ∧
       (s.mc c).migEnd = false ∧ (s.mc c).lostRun = none ∧ g + 1 < 2 ^ 25) && (match s.wbFind c g with
   | some e => decide ((s.mc c).dead = false ∧ e.mask = 0 ∧ e.data.length = 64)
   | _ => false))
   | _ => false)
    | 13 => (match (s.mc c).migTo with
   | some d => decide ((d = 32 ∨ d = 33) ∧ c.val < 32 ∧ s.paused = false ∧ s.flag (MC_TRN_STAT_RUNNING d) = false ∧
       s.memHeld (s.almAcc 1) (cubeAddr (s.logName c) g) 64 = false ∧ s.flag (MC_ECC_FLIP_CTRL_ARMED d) = false ∧
       (s.mc c).migEnd = false ∧ (s.mc c).lostRun = none ∧ g + 1 < 2 ^ 25 ∧ (s.mc c).dead = true)
   | _ => false)
    | 14 => decide (s.migSources = [] ∨ s.paused = true ∨ (∃ x ∈ s.migSources, (s.mc x).migEnd = false))
    | 15 => (match s.migSources with
   | [a, b] => (decide (b = a + 1) && (decide (a % 2 = 0 ∧ s.paused = false) &&
       ([a, a + 1].all (fun x => decide ((s.mc x).migEnd = true)) && decide (s.logsOf a = [] ∧
       s.logsOf (a + 1) = []))))
   | _ => false)
    | 16 => (match s.migSources with
   | [a, b] => (decide (b = a + 1) && (decide (a % 2 = 0 ∧ s.paused = false) && ([a, a + 1].all (fun x => decide ((s.mc x).migEnd = true)) && (let k0 := s.rd (MC_STATE_LOGICAL a)
       (let k1 := s.rd (MC_STATE_LOGICAL (a + 1))
       (let new := ((s.put (MC_CHMAP_PHYS k0) 32).put (MC_CHMAP_PHYS k1) 33).mapPend
       (decide (k0 < 32 ∧ k1 < 32 ∧ s.physOf k0 = a ∧ s.physOf k1 = a + 1 ∧ s.mapEff.Nodup ∧
           chmapOk (fun c => s.mcState c = 4) s.mapEff new = true ∧ (∀ x : Nat, x < 34 → (s.mc x).moving = none)) &&
           [a, a + 1].all (fun x => decide ((s.mc x).rq = [] ∧ (s.mc x).wb = [] ∧ (s.mc x).cq = [])))))))))
   | _ => false)
    | _ => false
theorem witness_LayersAndMigration :
    [0, 7].all (hypLayersAndMigration 0 0 0 true true true (tSweep 0 0) (tSweep 0 0) 0 (tMc {} |>.off
        MC_LAYER_STAT_SPARE_FREE)) = true ∧
    [1, 5].all (hypLayersAndMigration 0 0 0 true true true (tSweep 0 0) (tSweep 0 0) 0 (tMc {} |>.put
        ALM_STATUS_STATE 3)) = true ∧
    [2, 6, 10, 14].all (hypLayersAndMigration 0 0 0 true true true (tSweep 0 0) (tSweep 0 0) 0 (tMc {})) = true ∧
    hypLayersAndMigration 0 0 0 false false true (tSweep 0 0) (tSweep 0 0) 0 (tMc {}) 3 = true ∧
    [4, 11].all (hypLayersAndMigration 0 0 0 false false false (tSweep 100 100) (tSweep 20 20) 0 ((((upFrom 0 72).foldl (fun s n => (s.put (MC_TRN_DQWIN_RD_CENTER 32 n) 12).put (MC_TRN_DQWIN_WR_CENTER 32 n) 12) (let s := (tMc {migTo := some 32} |>.put (MC_MIG_PTR_POINTER 0) 5 |>.put (MC_STATE_STATE 0) 2 |>.put (MC_STATE_STATE 1) 2 |>.off MC_LAYER_STAT_SPARE_FREE |>.on MC_LAYER_STAT_MIGRATING).updMc 1 fun m => {m with migTo := some 33}; s)).updMc 32 fun m => {m with caWin := []}).on (MC_TRN_STAT_RUNNING 32) |>.on (MC_TRN_STAT_RUNNING 33))) = true ∧
    hypLayersAndMigration 0 16 0 true true true (tSweep 0 0) (tSweep 0 0) 0 (tMc {}) 8 = true ∧
    hypLayersAndMigration 0 16 0 true true false (tSweep 0 0) (tSweep 0 0) 0 (let s := (tMc {migTo := some 32} |>.put (MC_MIG_PTR_POINTER 0) 5 |>.put (MC_STATE_STATE 0) 2 |>.put (MC_STATE_STATE 1) 2 |>.off MC_LAYER_STAT_SPARE_FREE |>.on MC_LAYER_STAT_MIGRATING).updMc 1 fun m => {m with migTo := some 33}; s) 9 = true ∧
    hypLayersAndMigration 0 0 0 true true false (tSweep 0 0) (tSweep 0 0) 0 (let s := (tMc {migTo := some 32, wb := [tWb 5]} |>.put (MC_MIG_PTR_POINTER 0) 5 |>.put (MC_STATE_STATE 0) 2 |>.put (MC_STATE_STATE 1) 2 |>.off MC_LAYER_STAT_SPARE_FREE |>.on MC_LAYER_STAT_MIGRATING).updMc 1 fun m => {m with migTo := some 33}; s) 12 = true ∧
    hypLayersAndMigration 0 0 0 true true false (tSweep 0 0) (tSweep 0 0) 0 (let s := (tMc {migTo := some 32, dead := true} |>.put (MC_MIG_PTR_POINTER 0) 0 |>.put (MC_STATE_STATE 0) 2 |>.put (MC_STATE_STATE 1) 2 |>.off MC_LAYER_STAT_SPARE_FREE |>.on MC_LAYER_STAT_MIGRATING).updMc 1 fun m => {m with migTo := some 33}; s) 13 = true ∧
    hypLayersAndMigration 0 0 0 true true false (tSweep 0 0) (tSweep 0 0) 0 ((let s := (tMc {migTo := some 32, migEnd := true} |>.put (MC_MIG_PTR_POINTER 0) 33554431 |>.put (MC_STATE_STATE 0) 2 |>.put (MC_STATE_STATE 1) 2 |>.off MC_LAYER_STAT_SPARE_FREE |>.on MC_LAYER_STAT_MIGRATING).updMc 1 fun m => {m with migTo := some 33, migEnd := true}; s) |>.put (MC_CHMAP_PHYS 0) 40 |>.setBoth 0x430000 (0x0302213F) ) 15 = true ∧
    hypLayersAndMigration 0 0 0 true true false (tSweep 0 0) (tSweep 0 0) 0 (let s := (tMc {migTo := some 32, migEnd := true} |>.put (MC_MIG_PTR_POINTER 0) 33554431 |>.put (MC_STATE_STATE 0) 2 |>.put (MC_STATE_STATE 1) 2 |>.off MC_LAYER_STAT_SPARE_FREE |>.on MC_LAYER_STAT_MIGRATING).updMc 1 fun m => {m with migTo := some 33, migEnd := true}; s) 16 = true := by
  decide +kernel

end Trn

/-! Witnesses: the host link -/

namespace HLk

/-- READY with the link UP at width 8, cube 0, credit for what is sent, memory served. -/
def tUp : State :=
  let s := (tRun.put HLINK_STATUS_STATE 2).put HLINK_STATUS_WIDTH 8
  let s := (upFrom 0 8).foldl (fun s n => (((s.put (HLINK_LANE_TX_STATE n) 5).put (HLINK_LANE_RX_STATE n) 5).put
    (HLINK_LANE_LOG_TX n) n).put (HLINK_LANE_LOG_RX n) n) s
  let s := (((s.put (HLINK_LANE_TX_STATE 8) 6).put (HLINK_LANE_RX_STATE 8) 6).put (HLINK_LANE_LOG_TX 8) 255).put
    (HLINK_LANE_LOG_RX 8) 255
  let s := s.put HLINK_PEER_CRED_VC3 300
  { s with hl := { s.hl with fresh := false, cred2 := 300, cred3 := 300, free0 := 4000, free1 := 4000 }
           clk := { s.clk with uptime := 9000 }, modes := { s.modes with memReady := true } }
/-- Frames kept for replay, FSEQs from f on. -/
def tBuf (f : Nat) (tries : List Nat) : List TxLinkFrame :=
  (tries.zip (upFrom 0 tries.length)).map fun x =>
      { fseq := (f + x.2) % 4096, bytes := [BitVec.ofNat 8 x.2], ends := if x.2 = 0 then [1] else [], tries := x.1 }
/-- A request of n bytes. -/
def tPkt (a n len : Nat) (csr : Bool) : Pkt :=
  ⟨7, BitVec.ofNat 16 len, csr, 0, 0, BitVec.ofNat 48 a, false, BitVec.ofNat 16 n,
      (upFrom 0 (16 * len)).map fun i => BitVec.ofNat 8 (i + 1)⟩
/-- A host's block of lane l. -/
def tHBlk (l c2 c3 : Nat) : BitVec 128 := BitVec.ofNat 128 (1 + 2 ^ 8 + l * 2 ^ 16 + (if l = 255 then 8 else l) * 2 ^
    24 + 3 * 2 ^ 40 + c2 * 2 ^ 96 + c3 * 2 ^ 112)
/-- The same as a training frame's payload. -/
def tHB (l c2 c3 : Nat) : BitVec 1024 := (tHBlk l c2 c3).setWidth 1024
def tHReqC (tag on sends : Nat) : CtrlReq := { op := 4, tag := tag, args := [], on := on, sends := sends }
/-- The bytes of a packet that the host sends. -/
def tPack (typ len n : Nat) : List Byte := packet typ 7 len false 0 0 128 0 0 n ((upFrom 0 (16 * len)).map fun i =>
    BitVec.ofNat 8 (i + 1))
/-- A packet of a TYPE is the next one delivered. -/
def tGot (ty : Nat) (p : Pkt) (s : State) : State := { s with hl := { s.hl with rx := { got := [(ty, p)] } } }
/-- What clause k of `Obligations.LinkFrames` assumes. -/
def hypLinkFrames (typ : BitVec 4) (fseq ack : BitVec 12) (bad noComma : BitVec 9) (agree receiver : Bool) (low high
    : List Byte) (s : State) : Nat → Bool := fun clause =>
    let h := s.hl
    let up := s.linkUp = true
    let payload := slice low 0 512 ++ slice high 0 512
    let good := up ∧ bad = 0 ∧ noComma = 0 ∧ agree = true ∧ h.wants = []
    let hit := fun (n : Nat) => bad.getLsbD n || noComma.getLsbD n
    let hurt := ∃ n : Nat, n < 9 ∧ (hit n = true ∧ s.hLogRx n < s.rd HLINK_STATUS_WIDTH)
    let accepted := good ∧ typ = 1 ∧ fseq.toNat = h.rxNext
    let x := h.rx.join fseq.toNat (slice payload 0 (128 * max 4 (s.rd HLINK_STATUS_WIDTH)))
    let sound := (x.frames.map fun f => f.2.2).sum = x.bytes.length
    let head := 16 ≤ x.bytes.length ∧ ∃ b ∈ x.bytes.take 16, b ≠ 0
    let n := 16 * (fieldAt x.bytes 2 2 + 2)
    let complete := head ∧ n ≤ x.bytes.length
    let crcOk := crc32 (x.bytes.take (n - 16)) = fieldAt x.bytes (n - 16) 4
    let idles := fun (l : List Byte) => l.length % 16 = 0 ∧ (l.all fun b => b = 0) = true
    let typ0 := fieldAt x.bytes 0 1
    decide (s.regsOk) && match clause with
    | 0 => decide (¬ up)
    | 1 => decide (¬ up ∧ s.paused = true)
    | 2 => decide (accepted ∧ sound ∧ idles x.bytes)
    | 3 => decide (accepted ∧ sound ∧ complete ∧ crcOk ∧ typeKnown typ0 = true ∧ idles (x.bytes.drop n))
    | 4 => decide (accepted ∧ sound ∧ complete ∧ crcOk ∧ typeKnown typ0 = false ∧ idles (x.bytes.drop n))
    | 5 => (match x.frames.head? with
   | some f => decide (accepted ∧ complete ∧ ¬ crcOk)
   | _ => false)
    | 6 => (match x.frames.head? with
   | some f => decide (accepted ∧ (x.bytes.length < 16 ∨ (head ∧ x.bytes.length < n)))
   | _ => false)
    | 7 => decide (good ∧ typ.toNat < 3 ∧ ((typ ≠ 1 ∨ fseq.toNat ≠ h.rxNext)))
    | 8 => decide (up ∧ ((hurt ∨ agree = false)) ∧ s.rd HLINK_CFG_ERR_LIMIT = 0)
    | 9 => decide (up ∧ h.await = true)
    | 10 => decide (up ∧ h.await = false)
    | 11 => decide (up ∧ h.buf ≠ [])
    | 12 => decide (up ∧ h.buf = [])
    | 13 => (match findIx (fun x : TxLinkFrame => x.fseq = fseq.toNat) h.buf with
   | some i => decide (up)
   | _ => false)
    | 14 => decide (up ∧ (∀ x ∈ h.buf, x.fseq ≠ fseq.toNat) ∧ ((fseq.toNat = h.txNext ∨
        h.acknowledged fseq.toNat = true)))
    | 15 => decide (up ∧ (∀ x ∈ h.buf, x.fseq ≠ fseq.toNat) ∧ fseq.toNat ≠ h.txNext ∧
        h.acknowledged fseq.toNat = false)
    | _ => false
theorem witness_LinkFrames :
    hypLinkFrames 1 10 0 0 0 true false [] [] (tUp.put HLINK_STATUS_STATE 1) 0 = true ∧
    hypLinkFrames 1 10 0 0 0 true false [] [] ({tUp.put HLINK_STATUS_STATE 0 with pauses := {deep := true}}:State) 1
        = true ∧
    hypLinkFrames 1 5 4095 0 0 true true [] []
        ({(tUp.put HLINK_STATUS_WIDTH 4) with hl := {(tUp.put HLINK_STATUS_WIDTH 4).hl with rxNext := 5}}:State) 2 =
        true ∧
    hypLinkFrames 1 5 11 0 0 true false [16,242,241,228,0,0,0,0,0,0,0,0,0,0,0,0] []
        ({(tUp.put HLINK_STATUS_WIDTH 4) with hl := {(tUp.put HLINK_STATUS_WIDTH 4).hl with rxNext := 5, rx := {bytes := [1,7,0,0,0,128,0,0,0,0,0,0,0,0,16,0], frames := [(4,512,16)]}}}:State) 3 = true ∧
    hypLinkFrames 1 5 11 0 0 true false [9,7,0,0,0,128,0,0,0,0,0,0,0,0,16,0,95,109,226,151,0,0,0,0,0,0,0,0,0,0,0,0]
        [] ({(tUp.put HLINK_STATUS_WIDTH 4) with hl := {(tUp.put HLINK_STATUS_WIDTH 4).hl with rxNext := 5}}:State) 4
        = true ∧
    hypLinkFrames 1 5 11 0 0 true false [1,7,0,0,0,1,0,0,0,0,0,0,0,0,16,0,16,242,241,228,0,0,0,0,0,0,0,0,0,0,0,0] []
        ({(tUp.put HLINK_STATUS_WIDTH 4) with hl := {(tUp.put HLINK_STATUS_WIDTH 4).hl with rxNext := 5}}:State) 5 =
        true ∧
    hypLinkFrames 1 5 11 0 0 true false [] []
        ({(tUp.put HLINK_STATUS_WIDTH 4) with hl := {(tUp.put HLINK_STATUS_WIDTH 4).hl with rxNext := 5, rx := {bytes := (tPack 2 300 4800).take 32, frames := [(4,512,32)]}}}:State) 6 = true ∧
    hypLinkFrames 1 6 10 0 0 true true [] []
        (({tUp with hl := {tUp.hl with buf := [], await := true, rxNext := 5, txNext := 13, acked := 3}}:State)) 7 =
        true ∧
    hypLinkFrames 1 10 0 1 0 true false [] [] ((tUp.put (HLINK_LANE_ERR 0) 255).put HLINK_CFG_ERR_LIMIT 0) 8 = true ∧
    [9, 12, 15].all (hypLinkFrames 1 5 11 0 0 true true [] []
        (({tUp with hl := {tUp.hl with buf := [], await := true, rxNext := 5, txNext := 13, acked := 3}}:State))) =
        true ∧
    hypLinkFrames 1 5 11 0 0 true true [] []
        (({tUp with hl := {tUp.hl with buf := [], await := false, rxNext := 5, txNext := 13, acked := 3}}:State)) 10
        = true ∧
    hypLinkFrames 1 5 11 0 0 true true [] []
        (({tUp with hl := {tUp.hl with buf := tBuf 10 [0,0,0], await := true, rxNext := 5, txNext := 13, acked := 3}}:State)) 11 = true ∧
    hypLinkFrames 1 4095 0 511 0 true true [] []
        (({tUp with hl := {tUp.hl with buf := tBuf 4094 [0,6,0], await := true, rxNext := 5, txNext := 13, acked := 3}}:State)) 13 = true ∧
    hypLinkFrames 2 9 10 256 0 true true [] []
        (({tUp with hl := {tUp.hl with buf := tBuf 10 [0,0,0], await := true, rxNext := 5, txNext := 13, acked := 3}}:State)) 14 = true := by
  decide +kernel

/-- What clause k of `Obligations.HostRequests` assumes. -/
def hypHostRequests (p : Pkt) (s : State) : Nat → Bool := fun clause =>
    let h : Hlink := { s.hl with rx := { s.hl.rx with got := s.hl.rx.got.tail } }
    let n := p.len.toNat + 2
    let a := p.addr.toNat
    let k := p.count.toNat
    let up := fun (ty : Nat) => s.linkUp = true ∧ s.hl.rx.got.head? = some (ty, p)
    let here := fun (ty : Nat) => up ty ∧ p.cube.toNat = s.rd HLINK_STATUS_CUBE_ID ∧ s.modes.resetDue ≠ some true
    let req := fun (ty : Nat) => here ty ∧ p.vc = 0 ∧ n ≤ h.free0 ∧ h.tagOpen p.tag.toNat = false ∧ h.waiting = []
    let post := here 3 ∧ p.vc = 1 ∧ n ≤ h.free1 ∧ h.waiting = []
    let dram := fun (kind : Nat) => s.paused = false ∧ p.csr = false ∧ s.modes.memReady = true ∧ a < 2 ^ 36 ∧
      s.flag HLINK_DMA_HALTED = false ∧ k ≠ 0 ∧ s.memHeld (s.hostDmaAcc kind) a k = false
    let s1 := ({ s with hl := { h with free0 := h.free0 - n } }).wake 641
    let s2 := ({ s with hl := { h with free1 := h.free1 - n } }).wake 641
    decide (s.regsOk) && decide (s.effOk) && match clause with
    | 0 => (([(1, Instr.linkRead p), (2, .linkWrite p), (3, .linkWritePosted p), (6, .linkVtset p), (7,
        .linkCredit p)]).any fun x => decide (¬ up x.1))
    | 1 => (([(1, Instr.linkRead p), (2, .linkWrite p), (3, .linkWritePosted p), (6, .linkVtset p), (7,
        .linkCredit p)]).any fun x => decide (up x.1 ∧ (p.vc ≠ if x.1 = 3 then 1 else 0)))
    | 2 => decide (up 1 ∧ p.vc = 0 ∧ p.cube.toNat ≠ s.rd HLINK_STATUS_CUBE_ID ∧ n ≤ h.free0)
    | 3 => decide (here 1 ∧ p.vc = 0 ∧ h.free0 < n)
    | 4 => (decide (req 1 ∧ p.csr = false) && (match s.dramRefusal ⟨.read, p, false⟩ with
   | some st => decide (st ≠ 3)
   | _ => false))
    | 5 => (decide (req 1 ∧ dram 1 ∧ dramOk p false = true) && (let r := s1.readMem (s1.hostDmaAcc 1) a k
       decide (r.2.2 = none)))
    | 6 => (decide (req 1 ∧ dram 1 ∧ dramOk p false = true) && (let r := s1.readMem (s1.hostDmaAcc 1) a k
       (match r.2.2 with
   | some x => true
   | _ => false)))
    | 7 => (decide (req 2 ∧ dram 2 ∧ dramOk p true = true ∧ inSysRegion (offOf a) = false) && (let r := s1.writeAll (s1.hostDmaAcc 2) a (slice p.data 0 k)
       decide (r.2 = none)))
    | 8 => decide (req 2 ∧ p.csr = false ∧ s.modes.memReady = true ∧ dramOk p true = true ∧ a < 2 ^ 36 ∧ k ≠ 0 ∧
        inSysRegion (offOf a) = true)
    | 9 => (decide (post ∧ dram 2 ∧ dramOk p true = true ∧ inSysRegion (offOf a) = false) && (let r := s2.writeAll (s2.hostDmaAcc 2) a (slice p.data 0 k)
       decide (r.2 = none)))
    | 10 => (decide (post ∧ p.csr = false) && (match s.dramRefusal ⟨.posted, p, false⟩ with
   | some st => decide (st ≠ 0)
   | _ => false))
    | 11 => decide (req 1 ∧ p.csr = true ∧ csrOk p false = false)
    | 12 => (match s.csrFirstBad true false a (wordsOf (k / 4) p.data) with
   | some (st, b) => decide (req 2 ∧ p.csr = true ∧ csrOk p true = true ∧ st ≠ 8)
   | _ => false)
    | 13 => (decide (req 1 ∧ p.csr = true ∧ csrOk p false = true) &&
        decide (s.csrFirstBad false false a (List.replicate (k / 4) 0) = none))
    | 14 => decide (req 6 ∧ ((p.len ≠ 0 ∨ p.count ≠ 0)))
    | 15 => decide (req 6 ∧ p.len = 0 ∧ p.count = 0 ∧ a % 65536 ≠ 0)
    | 16 => decide (req 6 ∧ p.len = 0 ∧ p.count = 0 ∧ a % 65536 = 0 ∧ s.rd VT_STATUS_STATE = 0)
    | 17 => decide (up 7 ∧ p.vc = 0)
    | _ => false
theorem witness_HostRequests :
    hypHostRequests ((tPkt 0 0 0 false)) (tGot 1 ((tPkt 0 0 0 false)) tUp) 0 = true ∧
    hypHostRequests ((tPkt 0 0 0 false)) (tGot 3 ((tPkt 0 0 0 false)) tUp) 1 = true ∧
    hypHostRequests ((tPkt 128 64 4 false)) (tGot 1 ((tPkt 128 64 4 false)) (tUp.put HLINK_STATUS_CUBE_ID 3)) 2 =
        true ∧
    hypHostRequests ((tPkt 128 64 4 false)) (tGot 1 ((tPkt 128 64 4 false))
        ({tUp with hl := {tUp.hl with free0 := 5, free1 := 5}}:State)) 3 = true ∧
    hypHostRequests ((tPkt 0 20 2 false)) (tGot 1 ((tPkt 0 20 2 false)) tUp) 4 = true ∧
    hypHostRequests ((tPkt 0 16 0 false)) (tGot 1 ((tPkt 0 16 0 false)) tUp) 5 = true ∧
    hypHostRequests ((tPkt 128 64 4 false)) (tGot 1 ((tPkt 128 64 4 false))
        ({tUp with masks := [(2, 0xF0F0F0F),(3,0x1)]}:State)) 6 = true ∧
    hypHostRequests ((tPkt 0 16 1 false)) (tGot 2 ((tPkt 0 16 1 false)) tUp) 7 = true ∧
    hypHostRequests ((tPkt 2147483632 16 1 false)) (tGot 2 ((tPkt 2147483632 16 1 false)) tUp) 8 = true ∧
    hypHostRequests ({(tPkt 128 64 4 false) with vc := 1, cube := 0}) (tGot 3
        ({(tPkt 128 64 4 false) with vc := 1, cube := 0}) tUp) 9 = true ∧
    hypHostRequests ({(tPkt 128 64 0 false) with vc := 1, cube := 0}) (tGot 3
        ({(tPkt 128 64 0 false) with vc := 1, cube := 0}) tUp) 10 = true ∧
    hypHostRequests ((tPkt 0 0 0 true)) (tGot 1 ((tPkt 0 0 0 true)) tUp) 11 = true ∧
    hypHostRequests ((tPkt 4390912 16 1 true)) (tGot 2 ((tPkt 4390912 16 1 true)) tUp) 12 = true ∧
    hypHostRequests ((tPkt 0 4 0 true)) (tGot 1 ((tPkt 0 4 0 true)) tUp) 13 = true ∧
    hypHostRequests ((tPkt 0 64 0 false)) (tGot 6 ((tPkt 0 64 0 false)) tUp) 14 = true ∧
    hypHostRequests ((tPkt 16 0 0 false)) (tGot 6 ((tPkt 16 0 0 false)) tUp) 15 = true ∧
    hypHostRequests ((tPkt 0 0 0 false)) (tGot 6 ((tPkt 0 0 0 false)) tUp) 16 = true ∧
    hypHostRequests ((tPkt 0 0 0 false)) (tGot 7 ((tPkt 0 0 0 false)) tUp) 17 = true := by
  decide +kernel

/-- What clause k of `Obligations.HostSends` assumes. -/
def hypHostSends (s : State) : Nat → Bool := fun clause =>
    let h := s.hl
    let up := s.linkUp = true
    let quiet := h.waiting = [] ∧ h.owe0 = 0 ∧ h.owe1 = 0 ∧ s.modes.resetDue ≠ some true
    decide (s.regsOk) && match clause with
    | 0 => decide (¬ up)
    | 1 => decide (h.evq = [])
    | 2 => decide (up ∧ quiet ∧ h.rsp = [])
    | 3 => (match h.rsp with
   | r :: rest => (decide (up ∧ quiet ∧ h.txNext < 4096) && (let len := ceilDiv r.data.length 16
       decide (h.cred2 < len + 2 ∨ s.bufRoom (16 * len + 32) = false)))
   | _ => false)
    | 4 => (match h.rsp with
   | r :: rest => (decide (up ∧ quiet ∧ h.txNext < 4096) && (let len := ceilDiv r.data.length 16
       decide (len + 2 ≤ h.cred2 ∧ s.bufRoom (16 * len + 32) = true)))
   | _ => false)
    | 5 => decide (up ∧ h.waiting = [] ∧ s.modes.resetDue ≠ some true ∧ h.rsp = [] ∧ h.owe0 + h.owe1 ≠ 0 ∧
        h.owe0 ≤ 4095 ∧ h.owe1 ≤ 4095 ∧ h.txNext < 4096 ∧ s.bufRoom 32 = true)
    | 6 => (match h.evq with
   | e :: rest => decide (up ∧ h.txNext < 4096 ∧ (s.rd HLINK_PEER_CRED_VC3 = 0 ∨ h.cred3 < 4 ∨ s.bufRoom 64 = false))
   | _ => false)
    | 7 => (match h.evq with
   | e :: rest => decide (up ∧ h.txNext < 4096 ∧ s.rd HLINK_PEER_CRED_VC3 ≠ 0 ∧ 4 ≤ h.cred3 ∧ s.bufRoom 64 = true ∧
       rest.length < 256)
   | _ => false)
    | _ => false
theorem witness_HostSends :
    hypHostSends
        ({(tUp.put HLINK_STATUS_STATE 0) with hl := {(tUp.put HLINK_STATUS_STATE 0).hl with rsp := []}}:State) 0 =
        true ∧
    [1, 2].all (hypHostSends ({tUp with hl := {tUp.hl with rsp := [], cred2 := 300}}:State)) = true ∧
    hypHostSends ({tUp with hl := {tUp.hl with rsp := [⟨7,0,false,5,0,[]⟩], cred2 := 1}}:State) 3 = true ∧
    hypHostSends ({tUp with hl := {tUp.hl with rsp := [⟨7,0,false,5,0,[]⟩], cred2 := 300}}:State) 4 = true ∧
    hypHostSends ({tUp with hl := {tUp.hl with rsp := [], owe0 := 5}}:State) 5 = true ∧
    hypHostSends ({tUp with hl := {tUp.hl with evq := [⟨300,5,1,2,3,4,5⟩], cred3 := 3}}:State) 6 = true ∧
    hypHostSends ({tUp with hl := {tUp.hl with evq := [⟨300,5,1,2,3,4,5⟩], cred3 := 4}}:State) 7 = true := by
  decide +kernel

/-- What clause k of `Obligations.HostLanes` assumes. -/
def hypHostLanes (ack : BitVec 12) (n : Fin 9) (l : Fin 8) (logical new old tag : BitVec 8) (tx : Bool) (cubeId :
    BitVec 3) (payload : BitVec 1024) (s : State) : Nat → Bool := fun clause =>
    let run := s.paused = false
    let b := payload.setWidth 128
    let carries := fun (k l : Nat) => k < 8 ∧ s.hLogTx k = l ∧ ∀ j : Nat, j < k → s.hLogTx j ≠ l
    let spare := s.linkUp = true ∧ s.hTx 8 = 6 ∧ s.hLogTx 8 = 255
    let can := spare ∧ s.hl.molt = none ∧ s.restarting = false
    let w := s.hWidth
    let on := fun (l : Nat) => (upFrom 0 9).find? fun k => s.hLogTx k = l
    let key := fun (l : Nat) => ((on l).bind fun k => (s.hlane k).block).map fun (b : BitVec 128) => b.toNat / 2 ^ 32
    let ready := fun (l : Nat) => (on l).any fun k => s.hTx k = 5 && s.hRx (s.hRxOf k) = 5
    decide (s.regsOk) && match clause with
    | 0 => decide (run ∧ s.linkUp = false ∧ s.hl.wants = [] ∧ w ≠ 0 ∧ (∀ l : Nat, l < w → ready l = true ∧
        (key l).isSome ∧ key l = key 0))
    | 1 => decide (run ∧ s.hTx n = 1 ∧ s.hLeads n = true ∧ s.hRx (s.hRxOf n) ≠ 8)
    | 2 => (match s.hTrainOf n with
   | some p => decide (run ∧ s.hTx p = 2)
   | _ => false)
    | 3 => (match s.hTrainOf n with
   | some p => decide (run ∧ s.hTx p = 3 ∧ (s.hlane p).symLock = true ∧ 7 ≤ (s.hlane p).tbs ∧
       15 ≤ (s.hlane p).tbSent ∧ cubeId.toNat = s.rd HLINK_STATUS_CUBE_ID ∧ logical.toNat = s.hLogTx p)
   | _ => false)
    | 4 => (match s.hTrainOf n with
   | some p => decide (run ∧ s.hTx p = 4 ∧ hBlockBad b (s.hLogTx p) (s.hRxOf p) = false ∧
       (((s.hlane p).block ≠ some b ∨ (s.hlane p).blocks < 3)))
   | _ => false)
    | 5 => (match s.hTrainOf n with
   | some p => decide (run ∧ s.hTx p = 4 ∧ hBlockBad b (s.hLogTx p) (s.hRxOf p) = false ∧
       (s.hlane p).block = some b ∧ 3 ≤ (s.hlane p).blocks)
   | _ => false)
    | 6 => decide (run ∧ (s.hTx n = 2 ∨ s.hTx n = 3 ∨ s.hTx n = 4) ∧ s.hLeads n = true ∧ (s.hlane n).attempts < 2)
    | 7 => decide (run ∧ (s.hTx n = 2 ∨ s.hTx n = 3 ∨ s.hTx n = 4) ∧ s.hLeads n = true ∧ 2 ≤ (s.hlane n).attempts ∧
        s.restarting = true)
    | 8 => decide (run ∧ (s.hTx n = 2 ∨ s.hTx n = 3 ∨ s.hTx n = 4) ∧ s.hLeads n = true ∧ 2 ≤ (s.hlane n).attempts ∧
        s.restarting = false ∧ (s.hlane n).failCause = 3)
    | 9 => decide (run ∧ (s.hRx n = 5 ∨ s.hRx n = 6) ∧ s.hLogRx n < s.rd HLINK_STATUS_WIDTH)
    | 10 => (decide (run ∧ (s.hRx n = 5 ∨ s.hRx n = 6)) && (match s.hTrainOf n with
   | some p => decide (s.rd HLINK_STATUS_WIDTH ≤ s.hLogRx n ∧ s.hTx p ≠ 8)
   | _ => false))
    | 11 => (match s.hl.molt with
   | some (r, m, o, d) => decide (run ∧ r.on = n.val ∧ r.sends < 64)
   | _ => false)
    | 12 => (match s.hl.molt with
   | some (r, m, o, d) => decide (run ∧ r.on = n.val ∧ 64 ≤ r.sends)
   | _ => false)
    | 13 => ((List.range 8).any fun k => decide (can ∧ carries k l))
    | 14 => (let k := old.toNat; decide (can ∧ new = 8 ∧ logical.toNat < 8 ∧ carries k logical.toNat))
    | 15 => ((List.range 8).any fun k => decide (s.linkUp = true ∧ s.hRx 8 = 6 ∧ s.hLogRx 8 = 255 ∧
        s.hl.molt = none ∧ s.restarting = false ∧ k < 8 ∧ s.hLogRx k = l ∧ (∀ j : Nat, j < k → s.hLogRx j ≠ l)))
    | 16 => ((List.range 8).any fun k => decide (spare ∧ carries k l ∧ s.hl.molt = none ∧ s.restarting = true))
    | 17 => ((List.range 8).any fun k => decide (spare ∧ carries k l ∧ s.hl.molt ≠ none))
    | 18 => decide (s.linkUp = false ∨ s.hTx 8 ≠ 6)
    | 19 => decide (s.linkUp = false ∨ s.hRx 8 ≠ 6)
    | 20 => (match s.hl.molt with
   | some m => decide (s.hl.wants = [] ∧ s.linkUp = true ∧ tag.toNat = m.1.tag ∧ m.2.2.1 < 8 ∧ m.2.1 < 256)
   | _ => false)
    | 21 => decide (s.linkUp = true ∧ (if tx then s.hLogTx n else s.hLogRx n) ≠ 255 ∧ s.hSpareGone tx = true)
    | 22 => decide (s.linkUp = false ∧ run)
    | 23 => decide (s.linkUp = true ∨ s.paused = true)
    | 24 => decide (run)
    | 25 => decide (s.paused = true)
    | _ => false
theorem witness_HostLanes :
    hypHostLanes 7 2 2 2 8 2 5 true 0 0
        ({((upFrom 0 8).foldl (fun s n => s.updHlane n fun x => {x with block := some (tHBlk n 300 4 + 0 * 2 ^ 32), blocks := 4}) (tUp.put HLINK_STATUS_STATE 1)) with hl := {((upFrom 0 8).foldl (fun s n => s.updHlane n fun x => {x with block := some (tHBlk n 300 4 + 0 * 2 ^ 32), blocks := 4}) (tUp.put HLINK_STATUS_STATE 1)).hl with fresh := true, lastWidth := 0, buf := tBuf 5 [0,0], ackOut := 77, rxNext := 78, txNext := 7}}:State) 0 = true ∧
    [1, 18, 19, 22, 24].all (hypHostLanes 7 0 0 0 8 0 5 true 0 (tHB 0 300 4) ((((tUp.put HLINK_STATUS_STATE 1).put
        (HLINK_LANE_TX_STATE 0) 1).put (HLINK_LANE_RX_STATE 0) 1).updHlane 0 fun x => {x with attempts := 0})) = true
        ∧
    [2, 6].all (hypHostLanes 7 0 0 0 8 0 5 true 0 (tHB 0 300 4) ((((tUp.put HLINK_STATUS_STATE 1).put
        (HLINK_LANE_TX_STATE 0) 2).put (HLINK_LANE_RX_STATE 0) 2).updHlane 0 fun x => {x with attempts := 0})) = true
        ∧
    hypHostLanes 7 0 0 0 8 0 5 true 0 (tHB 0 300 4) ((((tUp.put HLINK_STATUS_STATE 1).put (HLINK_LANE_TX_STATE 0)
        3).put (HLINK_LANE_RX_STATE 0) 3).updHlane 0 fun x => {x with symLock := true, tbs := 7, tbSent := 15}) 3 =
        true ∧
    hypHostLanes 7 0 0 0 8 0 5 true 0 (tHB 0 300 4) ((((tUp.put HLINK_STATUS_STATE 1).put (HLINK_LANE_TX_STATE 0)
        4).put (HLINK_LANE_RX_STATE 0) 4).updHlane 0 fun x => {x with attempts := 0}) 4 = true ∧
    hypHostLanes 7 0 0 0 8 0 5 true 0 (tHB 0 300 4) ((((tUp.put HLINK_STATUS_STATE 1).put (HLINK_LANE_TX_STATE 0)
        4).put (HLINK_LANE_RX_STATE 0) 4).updHlane 0 fun x => {x with block := some (tHBlk 0 300 4), blocks := 3}) 5
        = true ∧
    hypHostLanes 7 2 2 2 8 2 5 true 0 0 (((((tUp.put HLINK_STATUS_STATE 1).put (HLINK_LANE_TX_STATE 2) 3).put
        (HLINK_LANE_RX_STATE 2) 3).updHlane 2 fun x => {x with attempts := 2}).put ALM_STATUS_STATE 3) 7 = true ∧
    hypHostLanes 7 0 0 0 8 0 5 true 0 (tHB 0 300 4) ((((tUp.put HLINK_STATUS_STATE 1).put (HLINK_LANE_TX_STATE 0)
        2).put (HLINK_LANE_RX_STATE 0) 2).updHlane 0 fun x => {x with attempts := 2, mismatch := true}) 8 = true ∧
    hypHostLanes 7 0 0 0 8 0 5 true 0 (tHB 0 300 4) ((((tUp.put HLINK_STATUS_STATE 1).put (HLINK_LANE_TX_STATE 0)
        5).put (HLINK_LANE_RX_STATE 0) 5).updHlane 0 fun x => {x with attempts := 0}) 9 = true ∧
    hypHostLanes 7 8 0 255 8 8 5 true 0 (tHB 255 300 4) ((((tUp.put HLINK_STATUS_STATE 1).put (HLINK_LANE_TX_STATE 8)
        5).put (HLINK_LANE_RX_STATE 8) 5).updHlane 8 fun x => {x with attempts := 0}) 10 = true ∧
    [11, 17, 20, 23].all (hypHostLanes 7 3 3 3 8 3 5 true 0 0
        ({tUp with hl := {tUp.hl with molt := some (tHReqC 5 3 0, 3, 3, true)}}:State)) = true ∧
    hypHostLanes 7 3 3 3 8 3 5 true 0 0
        ({tUp with hl := {tUp.hl with molt := some (tHReqC 5 3 64, 3, 3, true)}}:State) 12 = true ∧
    [13, 14, 15].all (hypHostLanes 7 0 0 0 8 0 5 true 0 0 tUp) = true ∧
    hypHostLanes 7 3 3 3 8 3 5 true 0 0 (tUp.put ALM_STATUS_STATE 3) 16 = true ∧
    hypHostLanes 7 0 0 0 8 0 5 false 0 0 (tUp.put (HLINK_LANE_RX_STATE 8) 8) 21 = true ∧
    hypHostLanes 7 0 0 0 8 0 5 true 0 0 ({tUp with pauses := {deep := true}}:State) 25 = true := by
  decide +kernel

end HLk

/-! Witnesses: fuses -/

namespace Fuses

/-- Fuse contents without seals. -/
def tFw0 (w : Nat) : Word :=
  if w = 3 then 0x400 else if w = 4 then 0x23 else if 16 ≤ w ∧
      w < 28 then BitVec.ofNat 32 (7919 * w) else if w = 28 then 3
  else if w = 64 ∨ w = 80 ∨ w = 96 then 0x1234 else 0
/-- A whole fuse array, with the seals of blocks 0, 1, 4, 5, 6. -/
def tFw : Vector Word 128 :=
  Vector.ofFn fun w => if w.val % 16 = 15 ∧
      [0, 1, 4, 5, 6].contains (w.val / 16) then blockSeal tFw0 (w.val / 16) else tFw0 w.val
/-- HOLD, RESET_N released, those fuses; locks. -/
def tFz (ws : Vector Word 128) (locks : Nat) : State :=
  { State.reset with fuses := { State.reset.fuses with words := ws, twins := ws, locks := locks, lockTwins := locks }, pins := { straps := 5, resetN := true, pwrok := true } }
/-- After sensing, VIN good, those locks in effect. -/
def tFs (ws : Vector Word 128) (locks : Nat) : State :=
  let s := ((tFz ws locks).on FUSE_STATUS_SENSED).put FUSE_LOCKS_IN_EFFECT (locks ||| 3)
  { s with alm := { s.alm with vin := 1800, vinNow := 1800 } }
/-- With a command in the registers. -/
def tFr (lock w set data : Nat) (s : State) : State :=
  (((s.put FUSE_PGM_ADDR_TARGET lock).put FUSE_PGM_ADDR_WORD w).put FUSE_PGM_ADDR_SETTING set).put FUSE_PGM_DATA_DATA
      data
def tFc (op : Nat) (l : Bool) (w st data : Nat) : FuseCmd := ⟨op, l, w, st, data, false⟩
/-- What clause k of `Obligations.Fuses` assumes. -/
def hypFuses (weak tight : List (BitVec 7 × Word)) (lockWeak lockTight : BitVec 8) (f hold enable : Bool) (most : Fin
    5) (good : BitVec 7) (blown : Bool) (unread faint : Word) (c : FuseCmd) (s : State) : Nat → Bool := fun clause =>
    let due := s.devMode = 0 ∧ s.rd GLOBAL_BOOT_STEP = 0 ∧ s.flag FUSE_STATUS_SENSED = false ∧ s.pins.pwrok = true ∧
      s.pins.resetN = true
    let port := f = true ∧ s.factoryPort = true
    let idle := port ∧ s.fuses.cmd = none
    let limit := s.rd FUSE_LIMITS_ARB_VERSION
    decide (s.regsOk) && decide (s.effOk) && match clause with
    | 0 => decide (¬ due)
    | 1 => decide (due ∧ s.fuses.held = false)
    | 2 => decide (due ∧ s.fuses.held = true)
    | 3 => decide (due ∧ s.flag FUSE_STATUS_T_FAIL = false)
    | 4 => (([(Instr.fuseProgram f, 1), (Instr.fuseStrengthen f, 2), (Instr.fuseAdvance f,
        3)]).any fun x => decide (¬ port))
    | 5 => (([(Instr.fuseProgram f, 1), (Instr.fuseStrengthen f, 2), (Instr.fuseAdvance f,
        3)]).any fun x => decide (port ∧ s.fuses.cmd ≠ none))
    | 6 => (([(Instr.fuseProgram f, 1), (Instr.fuseStrengthen f, 2), (Instr.fuseAdvance f,
        3)]).any fun x => decide (idle ∧ s.fuseConditions = false))
    | 7 => (([(Instr.fuseProgram f, 1), (Instr.fuseStrengthen f, 2), (Instr.fuseAdvance f, 3)]).any fun x => (let k := s.fuseRegs x.2
       (let code := if x.2 = 1 then s.programRefused k else if x.2 = 3 then s.advanceRefused k else 0
       decide (idle ∧ s.fuseConditions = true ∧ code ≠ 0))))
    | 8 => (([(Instr.fuseProgram f, 1), (Instr.fuseStrengthen f, 2), (Instr.fuseAdvance f, 3)]).any fun x => (let k := s.fuseRegs x.2
       (let code := if x.2 = 1 then s.programRefused k else if x.2 = 3 then s.advanceRefused k else 0
       decide (idle ∧ s.fuseConditions = true ∧ code = 0))))
    | 9 => decide (s.fuses.cmd = none)
    | 10 => decide (s.fuses.cmd = some c ∧ c.op = 1 ∧ c.lockRow = false ∧ c.word < 128)
    | 11 => decide (s.fuses.cmd = some c ∧ c.op = 1 ∧ c.lockRow = false ∧ c.word < 128 ∧
        good.toNat < (s.fuseBits c).length)
    | 12 => decide (s.fuses.cmd = some c ∧ c.op = 1 ∧ c.lockRow = true ∧ c.word < 8)
    | 13 => (([none, some good]).any fun g => decide (s.fuses.cmd = some c ∧ c.op = 2 ∧ c.lockRow = false ∧
        c.word < 128))
    | 14 => decide (s.fuses.cmd = some c ∧ c.op = 3 ∧ c.setting = 0 ∧ limit ≤ c.data % 128 ∧ c.data % 128 ≤ 64)
    | 15 => (match s.freeIdSlot with
   | some i => decide (s.fuses.cmd = some c ∧ c.op = 3 ∧ c.setting = 1)
   | _ => false)
    | 16 => decide (¬ port)
    | 17 => decide (port)
    | _ => false
theorem witness_Fuses :
    hypFuses [] [] 0 0 true true true 2 3 true 0 0 (tFc 1 false 5 0 9) ({(tFz tFw 1) with pins := {resetN := false}})
        0 = true ∧
    [1, 3, 4, 9, 16].all (hypFuses [] [] 0 0 true true true 2 3 true 0 0 (tFc 1 false 5 0 9) (tFz tFw 0)) = true ∧
    hypFuses [] [] 0 0 true true true 2 3 true 0 0 (tFc 1 false 5 0 9)
        ({tFz tFw 3 with fuses := {(tFz tFw 3).fuses with held := true}}) 2 = true ∧
    hypFuses [] [] 0 0 true true true 2 3 true 0 0 (tFc 1 false 5 0 9) (tFr 0 40 0 5
        ({tFs tFw 3 with fuses := {(tFs tFw 3).fuses with cmd := some (tFc 1 false 40 0 5)}})) 5 = true ∧
    hypFuses [] [] 0 0 true true true 2 3 true 0 0 (tFc 1 false 5 0 9) (tFr 0 40 0 5
        ({tFs tFw 3 with alm := {(tFs tFw 3).alm with vinNow := 1745}})) 6 = true ∧
    [7, 8, 17].all (hypFuses [] [] 0 0 true true true 2 3 true 0 0 (tFc 1 false 5 0 9) (tFr 0 5 0 9 (tFs tFw 0))) =
        true ∧
    [10, 11].all (hypFuses [] [] 0 0 true true true 2 0 false 0 0 (tFc 1 false 40 0 5)
        ({tFs tFw 3 with fuses := {(tFs tFw 3).fuses with cmd := some (tFc 1 false 40 0 5)}})) = true ∧
    hypFuses [] [] 0 0 true true true 2 0 false 0 0 (tFc 1 true 2 0 0)
        ({tFs tFw 3 with fuses := {(tFs tFw 3).fuses with cmd := some (tFc 1 true 2 0 0)}}) 12 = true ∧
    hypFuses [] [] 0 0 true true true 2 0 false 0 0 (tFc 2 false 64 0 0)
        ({tFs tFw 3 with fuses := {(tFs tFw 3).fuses with cmd := some (tFc 2 false 64 0 0)}}) 13 = true ∧
    hypFuses [] [] 0 0 true true true 2 0 false 0 0 (tFc 3 false 0 0 0)
        ({tFs tFw 3 with fuses := {(tFs tFw 3).fuses with cmd := some (tFc 3 false 0 0 0)}}) 14 = true ∧
    hypFuses [] [] 0 0 true true true 2 0 false 0 0 (tFc 3 false 0 1 5)
        ({tFs tFw 3 with fuses := {(tFs tFw 3).fuses with cmd := some (tFc 3 false 0 1 5)}}) 15 = true := by
  decide +kernel

end Fuses

/-! Witnesses: the Almanac -/

namespace Alm

def tHdr0 : List Byte := [0x57, 0x46, 0x51, 0x58] ++ List.replicate 508 0
def tHdr1 : List Byte := [0x57, 0x46, 0x51, 0x58, 1] ++ List.replicate 507 0
def tFs3 : State :=
    { (State.reset.on FUSE_STATUS_SENSED) with pins := { straps := 5, resetN := true, pwrok := true }, alm := { State.reset.alm with vin := 1800, vinNow := 1800 } }
/-- Firmware images. -/
def tFw0Img : List Byte := tHdr0
def tFw1Img : List Byte := tHdr1
/-- Start-up step 4, fuses sensed, the window open on bs. -/
def tOpen (bs : List Byte) : State :=
  let s := tFs3.put GLOBAL_BOOT_STEP 4
  { s with alm := { s.alm with fwOpen := true, fwIn := bs }, clk := { s.clk with uptime := 9000 } }
/-- Memory trained, the Almanac in state st with header h, the image at 0x10000. -/
def tAlm (st : Nat) (h img : List Byte) : State :=
  let s := ((tFs3.put GLOBAL_BOOT_STEP 6).put ALM_STATUS_STATE st).put GLOBAL_MODE_MODE 1
  let s :=
      { s with alm := { s.alm with hdr := h }, clk := { s.clk with uptime := 900000 }, modes := { s.modes with memReady := true } }
  tPaid (fun s => s.jobXfers (.update 0x10000 img.length false))
    (((s.writeAll (s.almAcc 2) 0x10000 img).1.put ALM_FW_LEN_LEN img.length).put ALM_FW_SRC_LO_ADDR 0x400)
def tUpd (r : Option Nat) : FwUpd := ⟨tHdr1, 1, 850000, false, r⟩
/-- A request of the sideband is submitted: opcode, tag 9, payload. -/
def tSb (op : Nat) (bs : List Byte) (s : State) : State :=
  { s with alm := { s.alm with sb := { s.alm.sb with busy := true, cur := slice ([BitVec.ofNat 8 op, 9, BitVec.ofNat 8 bs.length, 0] ++ bs) 0 64 } } }
/-- It stands in SB_REQ. -/
def tReqB (op n : Nat) (s : State) : State :=
  { s with alm := { s.alm with sb := { s.alm.sb with req := slice [BitVec.ofNat 8 op, 9, BitVec.ofNat 8 n, 0] 0 64 } } }
def tLog (q : Nat) : LogEnt := ⟨5, 6, 0x101, 7, q, 8⟩
/-- A response and a pointer. -/
def tRsp (p : Nat) (s : State) : State :=
  { s with alm := { s.alm with sb := { s.alm.sb with ptr := p, ready := true, resp := (List.range 64).map (BitVec.ofNat 8), req := (List.range 64).map fun i => BitVec.ofNat 8 (i + 100) } } }
def tA2 : State := tAlm 2 tHdr0 []
/-- Every coefficient: slope sl, offset off. -/
def tCoef (sl off : Nat) (s : State) : State :=
  let s := (upFrom 0 96).foldl (fun s n => s.setReg (0x900100 + 4 * n) (BitVec.ofNat 32 (sl * 65536 + off))) s
  (upFrom 0 6).foldl (fun s n => s.setReg (0x900280 + 4 * n) (BitVec.ofNat 32 (sl * 65536 + off))) s
def tA3 : State := tCoef 0x8000 0 tA2
/-- What clause k of `Obligations.Firmware` assumes. -/
def hypFirmware (data : List Byte) (u : FwUpd) (v since : Nat) (s : State) : Nat → Bool := fun clause =>
    let a := s.alm
    let st := s.rd ALM_STATUS_STATE
    let len := s.rd ALM_FW_LEN_LEN
    let held := s.modes.kept
    let fetched := s.readMem (s.almAcc 1) s.fwSrc len
    let m := fetched.1
    let img := fetched.2.1
    let slot := 1 - m.rd ALM_STATUS_SLOT
    let sized := 512 ≤ len ∧ len ≤ 1048576
    let usable := hostUsable s.fwSrc len = true
    let go := fun (j : FwJob) => sized ∧ usable ∧ s.paused = false ∧ s.restarting = false ∧
      ∀ x ∈ s.jobXfers j, s.memHeld x.1 x.2.1 x.2.2 = false
    let ovl := FwJob.overlay s.fwSrc len
    let upd := FwJob.update s.fwSrc len false
    let idle := a.upd = none ∧ a.job = none
    let room := a.fwIn.length < 512 ∨ a.fwIn.length + 64 ≤ 512 + fwRes a.fwIn
    let waits := a.upd = some u ∧ u.restarted = none
    let restarted := a.upd = some u ∧ u.restarted = some since ∧ a.later = []
    decide (s.regsOk) && decide (s.effOk) && match clause with
    | 0 => decide (st ≠ 0 ∨ s.rd GLOBAL_BOOT_STEP ≠ 4)
    | 1 => decide (st = 0 ∧ s.rd GLOBAL_BOOT_STEP = 4)
    | 2 => decide (a.fwOpen = false ∨ data.length ≠ 64 ∨ ¬ room)
    | 3 => decide (a.fwOpen = true ∧ data.length = 64 ∧ room)
    | 4 => decide (st ≠ 0)
    | 5 => decide (st = 0 ∧ a.fwOpen = false)
    | 6 => decide (st = 0 ∧ a.fwOpen = true ∧ s.fwCheck a.fwIn ≠ 0)
    | 7 => (decide (st = 0 ∧ a.fwOpen = true ∧ s.fwCheck a.fwIn = 0 ∧ (∀ x ∈ held.regs, 0x400000 ≤ x.1 ∧
        x.1 < 0x422000) ∧ (∀ c ∈ held.chans, c < 34)) && held.subst.all (fun n => decide (n < 17)))
    | 8 => decide (st ≠ 1 ∨ s.modes.memReady = false)
    | 9 => decide (st = 1 ∧ s.modes.memReady = true ∧ ¬ idle)
    | 10 => decide (st = 1 ∧ s.modes.memReady = true ∧ idle ∧ ¬ sized)
    | 11 => decide (st = 1 ∧ s.modes.memReady = true ∧ idle ∧ sized ∧ ¬ usable)
    | 12 => decide (st = 1 ∧ s.modes.memReady = true ∧ idle ∧ go ovl ∧ fetched.2.2 = none ∧
        slice img 0 0x1C0 ≠ slice a.hdr 0 0x1C0)
    | 13 => decide (st = 1 ∧ s.modes.memReady = true ∧ idle ∧ go ovl ∧ fetched.2.2 = none ∧
        slice img 0 0x1C0 = slice a.hdr 0 0x1C0 ∧ len = fwTotal a.hdr ∧ ((fwOvl a.hdr = 0 ∨
        (m.overlayCopy (m.rd ALM_STATUS_SLOT) img).2 = 0)))
    | 14 => decide (st ≠ 2)
    | 15 => decide (st = 2 ∧ ¬ idle)
    | 16 => decide (st = 2 ∧ idle ∧ go upd ∧ fetched.2.2 = none ∧ m.fwCheck img ≠ 0)
    | 17 => decide (st = 2 ∧ idle ∧ go upd ∧ fetched.2.2 = none ∧ m.fwCheck img = 0 ∧ len = fwTotal img ∧
        ovlDigestOk img (slice img (512 + fwRes img) (fwOvl img)) = true ∧ (m.storeWrite slot 0 img).2 = true)
    | 18 => decide (s.paused = true ∧ st = 2 ∧ idle ∧ sized ∧ usable)
    | 19 => decide (a.upd = none)
    | 20 => decide (waits ∧ u.since + 100000 < s.now)
    | 21 => decide (waits ∧ s.now ≤ u.since + 100000 ∧ s.fwQuiet = false)
    | 22 => decide (waits ∧ s.now ≤ u.since + 100000 ∧ s.fwQuiet = true)
    | 23 => decide (restarted ∧ s.now ≤ since + 100000)
    | 24 => decide (restarted ∧ since + 100000 ≤ s.now)
    | 25 => decide (a.advance = none ∨ st ≠ 2 ∨ s.fuses.cmd ≠ none)
    | 26 => (decide (a.advance = some v ∧ st = 2 ∧ s.fuses.cmd = none ∧ s.fuseConditions = true) && (let c := FuseCmd.mk 3 false 0 0 v true
       decide (s.advanceRefused c = 0)))
    | _ => false
theorem witness_Firmware :
    [0, 4].all (hypFirmware (List.replicate 64 3) (tUpd none) 5 0 ((tOpen []).put ALM_STATUS_STATE 2)) = true ∧
    [1, 3, 6, 8, 14, 19, 25].all (hypFirmware (List.replicate 64 3) (tUpd none) 5 0 (tOpen [])) = true ∧
    hypFirmware (List.replicate 64 3) (tUpd none) 5 0 (tOpen tFw0Img) 2 = true ∧
    hypFirmware (List.replicate 64 3) (tUpd none) 5 0
        ({(tOpen []) with alm := {(tOpen []).alm with fwOpen := false}}:State) 5 = true ∧
    [9, 22].all (hypFirmware (List.replicate 64 3) (tUpd none) 5 0
        ({(tAlm 1 tHdr0 tFw0Img) with alm := {(tAlm 1 tHdr0 tFw0Img).alm with upd := some (tUpd none)}}:State)) =
        true ∧
    hypFirmware (List.replicate 64 3) (tUpd none) 5 0 ((tAlm 1 tHdr0 tFw0Img).put ALM_FW_LEN_LEN 511) 10 = true ∧
    hypFirmware (List.replicate 64 3) (tUpd none) 5 0 (((tAlm 1 tHdr0 tFw0Img).put ALM_FW_SRC_HI_ADDR 15).put
        ALM_FW_SRC_LO_ADDR 0x3FFFFFF) 11 = true ∧
    hypFirmware (List.replicate 64 3) (tUpd none) 5 0 (tAlm 1 tHdr0 tFw1Img) 12 = true ∧
    hypFirmware (List.replicate 64 3) (tUpd none) 5 0 (tAlm 1 tHdr0 tFw0Img) 13 = true ∧
    hypFirmware (List.replicate 64 3) (tUpd none) 5 0
        ({(tAlm 2 tHdr0 tFw0Img) with alm := {(tAlm 2 tHdr0 tFw0Img).alm with upd := some (tUpd none)}}:State) 15 =
        true ∧
    hypFirmware (List.replicate 64 3) (tUpd none) 5 0 (tAlm 2 tHdr0 tFw0Img) 16 = true ∧
    hypFirmware (List.replicate 64 3) (tUpd none) 5 0 ((tAlm 2 tHdr1 tFw1Img).put GLOBAL_MODE_MODE 0) 18 = true ∧
    hypFirmware (List.replicate 64 3) {tUpd none with since := 799999} 5 0
        ({tA2 with alm := {tA2.alm with upd := some {tUpd none with since := 799999}}}:State) 20 = true ∧
    hypFirmware (List.replicate 64 3) (tUpd none) 5 0
        ({({tAlm 2 tHdr0 [] with st := {slices := [⟨1,0,0,0,0,false,0⟩]}}:State) with alm := {({tAlm 2 tHdr0 [] with st := {slices := [⟨1,0,0,0,0,false,0⟩]}}:State).alm with upd := some (tUpd none)}}:State) 21 = true ∧
    hypFirmware (List.replicate 64 3) (tUpd (some 850000)) 5 850000
        (({(tAlm 3 tHdr0 []) with alm := {(tAlm 3 tHdr0 []).alm with upd := some (tUpd (some 850000))}}:State)) 23 =
        true ∧
    hypFirmware (List.replicate 64 3) (tUpd (some 0)) 5 0
        (({(tAlm 3 tHdr0 []) with alm := {(tAlm 3 tHdr0 []).alm with upd := some (tUpd (some 0))}}:State)) 24 = true ∧
    hypFirmware (List.replicate 64 3) (tUpd none) 5 0
        (({(tAlm 2 tHdr1 []) with alm := {(tAlm 2 tHdr1 []).alm with advance := some 5, vin := 1800, vinNow := 1800}}:State).put FUSE_LIMITS_ARB_VERSION 0) 26 = true := by
  decide +kernel

/-- What clause k of `Obligations.SensorsAndLog` assumes. -/
def hypSensorsAndLog (elems : List (BitVec 16 × BitVec 16 × BitVec 16)) (rails phases : List (BitVec 16)) (vin power
    : BitVec 16) (siteDiff voltDiff : Nat) (coef vcoef : List (BitVec 32)) (pairs : List (Fin 3)) (deltas : List
    (BitVec 12)) (x : Slice) (e : LogEnt) (s : State) : Nat → Bool := fun clause =>
    let el := fun (n : Nat) (raw : BitVec 16) =>
      raw.toInt * (s.rd (ALM_CAL_COEF_SLOPE n) : Int) + sextInt 16 (s.rd (ALM_CAL_COEF_OFFSET n)) * 2 ^ 15
    let hot := 840 * 2 ^ 18
    let cool := (List.range 32).all fun n => elems[n]?.all fun y => decide (el (3 * n) y.1 < hot - 2 ^ 18 ∧
        el (3 * n + 1) y.2.1 < hot - 2 ^ 18 ∧ el (3 * n + 2) y.2.2 < hot - 2 ^ 18)
    let runs := s.st.slices.find? (fun x => x.kind = 8) = some x ∧ s.paused = false
    let copies := s.modes.memReady = true ∧ s.paused = false ∧ s.rd ALM_STATUS_STATE ≠ 0 ∧ s.restarting = false
    let base := logAddr e.seq / 64 * 64
    let next := s.alm.log.find? (fun e => s.alm.copied ≤ e.seq) = some e
    let w := s.writeAll (s.almAcc 2) base (s.logGranule e)
    decide (s.regsOk) && match clause with
    | 0 => decide (s.sensed = false)
    | 1 => decide (s.sensed = true ∧ cool)
    | 2 => ((List.range (min (32) 200)).any fun n => (decide (n < 32) && (match elems[n]? with
   | some y => decide (s.sensed = true ∧ hot ≤ el (3 * n) y.1 ∧ hot ≤ el (3 * n + 1) y.2.1 ∧
       hot ≤ el (3 * n + 2) y.2.2 ∧ s.st.slices = [] ∧ s.pauses.trip = false)
   | _ => false)))
    | 3 => decide (s.flag ALM_CAL_CTRL_BUSY = true)
    | 4 => decide (s.flag ALM_CAL_CTRL_BUSY = false)
    | 5 => decide (runs ∧ siteDiff ≤ 4 ∧ voltDiff ≤ 5)
    | 6 => decide (runs ∧ (4 < siteDiff ∨ 5 < voltDiff))
    | 7 => decide (s.st.slices.find? (fun x => x.kind = 8) = none ∨ s.paused = true)
    | 8 => decide (¬ copies)
    | 9 => decide (next ∧ copies ∧ s.memHeld (s.almAcc 2) base 64 = false ∧ s.alm.gap = none ∧ w.2 = none)
    | 10 => decide (next ∧ copies ∧ s.memHeld (s.almAcc 2) base 64 = true)
    | 11 => decide (e.seq % 2 = 0)
    | 12 => (match s.alm.lastCopied with
   | some p => decide (e.seq % 2 = 1 ∧ p.seq + 1 = e.seq)
   | _ => false)
    | _ => false
theorem witness_SensorsAndLog :
    hypSensorsAndLog (List.replicate 32 (400,402,404)) [900,901,902,903,904] (List.replicate 28 77) 1800 55 4 5
        (List.replicate 96 0xABCD) (List.replicate 6 7) (List.replicate 32 2) (List.replicate 17 9)
        ⟨8,768,0,0,0,false,0⟩ (tLog 4) (tA2.put FUSE_STATUS_SENSED 0) 0 = true ∧
    [1, 4, 7, 11].all (hypSensorsAndLog (List.replicate 32 (3200,3216,3232)) [900,901,902,903,904] (List.replicate 28
        77) 1800 55 4 5 (List.replicate 96 0xABCD) (List.replicate 6 7) (List.replicate 32 2) (List.replicate 17 9)
        ⟨8,768,0,0,0,false,0⟩ (tLog 4) tA3) = true ∧
    hypSensorsAndLog (List.replicate 32 (6720,6720,6720)) [900,901,902,903,904] (List.replicate 28 77) 1800 55 4 5
        (List.replicate 96 0xABCD) (List.replicate 6 7) (List.replicate 32 2) (List.replicate 17 9)
        ⟨8,768,0,0,0,false,0⟩ (tLog 4) tA3 2 = true ∧
    hypSensorsAndLog [] [] [] 1800 55 4 5 [7,8] [9] [2] (List.replicate 17 9) ⟨8,768,0,0,0,false,0⟩ (tLog 4)
        ({(tA2.on ALM_CAL_CTRL_BUSY) with st := {slices := [⟨1,3,0,0,0,false,0⟩,⟨8,768,0,0,0,false,0⟩]}}) 3 = true ∧
    hypSensorsAndLog [] [] [] 1800 55 4 5 [7,8] [9] [2] (List.replicate 17 9) ⟨8,768,0,0,0,false,0⟩ (tLog 4)
        ({tA2 with st := {slices := [⟨1,3,0,0,0,false,0⟩,⟨8,768,0,0,0,false,0⟩]}}) 5 = true ∧
    hypSensorsAndLog [] [] [] 1800 55 5 5 [7,8] [9] [2] (List.replicate 17 9) ⟨8,768,0,0,0,false,0⟩ (tLog 4)
        ({tA2 with st := {slices := [⟨1,3,0,0,0,false,0⟩,⟨8,768,0,0,0,false,0⟩]}}) 6 = true ∧
    hypSensorsAndLog [] [] [] 1800 55 4 5 [7,8] [9] [2] (List.replicate 17 9) ⟨8,768,0,0,0,false,0⟩ (tLog 4)
        ({(tA2.put ALM_STATUS_STATE 3) with st := {slices := [⟨1,3,0,0,0,false,0⟩,⟨8,768,0,0,0,false,0⟩]}}) 8 = true ∧
    hypSensorsAndLog [] [] [] 1800 55 4 5 (List.replicate 96 0xABCD) (List.replicate 6 7) (List.replicate 32 2)
        (List.replicate 17 9) ⟨8,768,0,0,0,false,0⟩ (tLog 3)
        ({tA2 with alm := {tA2.alm with copied := 0, log := [tLog 3,tLog 4], lastCopied := none}}:State) 9 = true ∧
    hypSensorsAndLog [] [] [] 1800 55 4 5 (List.replicate 96 0xABCD) (List.replicate 6 7) (List.replicate 32 2)
        (List.replicate 17 9) ⟨8,768,0,0,0,false,0⟩ (tLog 4)
        (({tA2 with alm := {tA2.alm with copied := 0, log := [tLog 4]}}:State).put (MC_STATE_STATE 1) 3) 10 = true ∧
    hypSensorsAndLog [] [] [] 1800 55 4 5 (List.replicate 96 0xABCD) (List.replicate 6 7) (List.replicate 32 2)
        (List.replicate 17 9) ⟨8,768,0,0,0,false,0⟩ (tLog 5)
        ({tA2 with alm := {tA2.alm with copied := 0, log := [], lastCopied := some (tLog 4)}}:State) 12 = true := by
  decide +kernel

/-- What clause k of `Obligations.SidebandRegisters` assumes. -/
def hypSidebandRegisters (a st : BitVec 7) (on : Bool) (p b : Byte) (data : List Byte) (code : I3cCcc) (s : State) :
    Nat → Bool := fun clause =>
    let sb := s.alm.sb
    let i3c := s.flag ALM_SB_I3C
    let op := fieldAt sb.req 0 1
    let known := op ∈ [1, 2, 3, 4, 5, 6, 0x10, 0x11, 0x12]
    let served := s.rd ALM_STATUS_STATE ≠ 0 ∨ op ≤ 5
    let fits := fieldAt sb.req 2 1 ≤ 60 ∧ fieldAt sb.req 3 1 = 0
    let free := s.sensed = true ∧ sb.busy = false ∧ s.restarting = false
    let barred := op ∈ [0x10, 0x11, 0x12] ∧ s.flag FUSE_LIMITS_SB_FW_UPDATE = false
    decide (s.regsOk) && match clause with
    | 0 => (decide (s.sensed = false) &&
        (([Instr.i3cCcc code, .sbPointerWrite p data, .sbRespLastRead, .sbDoorbell]).any fun c => true))
    | 1 => (([I3cCcc.enec false, .disec false]).any fun c => true)
    | 2 => (decide (s.sensed = true) &&
        (([(I3cCcc.getpid, 6), (.getbcr, 1), (.getdcr, 1), (.getstatus, 2), (.getmwl, 2), (.getmrl,
        3)]).any fun x => true))
    | 3 => decide (s.sensed = true)
    | 4 => decide (i3c = true)
    | 5 => decide (s.sensed = true ∧ i3c = false)
    | 6 => decide (s.sensed = true ∧ i3c = false ∧ st.toNat = s.rd ALM_SB_STATIC_ADDR)
    | 7 => decide (s.sensed = true ∧ i3c = false ∧ st.toNat ≠ s.rd ALM_SB_STATIC_ADDR)
    | 8 => decide (s.sensed = true ∧ sb.ptr < 256 ∧ sb.ptr ≠ 0x8F)
    | 9 => decide (s.sensed = true ∧ sb.ptr = 0x8F ∧ s.modes.resetDue ≠ some false)
    | 10 => decide (s.sensed = true ∧ sb.ptr = 0x8F ∧ s.modes.resetDue = some false ∧ s.fuses.cmd = none)
    | 11 => decide (s.sensed = true ∧ p = 8 ∧ b = 1)
    | 12 => decide (s.sensed = true ∧ 0x10 ≤ p.toNat ∧ p.toNat < 0x50)
    | 13 => decide (s.sensed = true ∧ ((p ≠ 8 ∧ (p.toNat < 0x10 ∨ 0x50 ≤ p.toNat)) ∨ (p = 8 ∧ b ≠ 1)))
    | 14 => decide (sb.busy = true)
    | 15 => decide (free ∧ known ∧ served ∧ ¬ barred ∧ fits)
    | 16 => decide (s.sensed = true ∧ sb.busy = false ∧ s.restarting = true)
    | 17 => decide (free ∧ ¬ known)
    | 18 => decide (free ∧ known ∧ ¬ served)
    | 19 => decide (free ∧ known ∧ served ∧ barred)
    | 20 => decide (free ∧ known ∧ served ∧ ¬ barred ∧ ¬ fits)
    | _ => false
theorem witness_SidebandRegisters :
    hypSidebandRegisters 64 80 true 8 1 [] .getbcr ((tA2.put ALM_SB_STATIC_ADDR 0x50).put FUSE_STATUS_SENSED 0) 0 =
        true ∧
    [1, 2, 3, 5, 6, 8, 11,
        17].all (hypSidebandRegisters 0 80 true 8 1 [] .getbcr (tA2.put ALM_SB_STATIC_ADDR 0x50)) = true ∧
    hypSidebandRegisters 0 80 true 8 1 [] .getbcr ((tA2.put ALM_SB_STATIC_ADDR 0x50).on ALM_SB_I3C) 4 = true ∧
    hypSidebandRegisters 0 80 true 8 1 [] .getbcr ((tA2.put ALM_SB_STATIC_ADDR 0x50).put ALM_SB_STATIC_ADDR 0x51) 7 =
        true ∧
    hypSidebandRegisters 64 80 true 8 1 [] .getbcr (tRsp 143 (tA2.put ALM_SB_STATIC_ADDR 0x50)) 9 = true ∧
    hypSidebandRegisters 64 80 true 8 1 [] .getbcr
        ({tRsp 0x8F (tA2.put ALM_SB_STATIC_ADDR 0x50) with modes := {(tA2.put ALM_SB_STATIC_ADDR 0x50).modes with resetDue := some false}}) 10 = true ∧
    hypSidebandRegisters 64 80 true 16 0 [3] .getbcr (tA2.put ALM_SB_STATIC_ADDR 0x50) 12 = true ∧
    hypSidebandRegisters 64 80 true 0 0 [3] .getbcr (tA2.put ALM_SB_STATIC_ADDR 0x50) 13 = true ∧
    hypSidebandRegisters 64 80 true 8 1 [] .getbcr
        ({(tA2.put ALM_SB_STATIC_ADDR 0x50) with alm := {(tA2.put ALM_SB_STATIC_ADDR 0x50).alm with sb := {busy := true}}}:State) 14 = true ∧
    hypSidebandRegisters 64 80 true 8 1 [] .getbcr (tReqB 1 0 ((tA2.put ALM_SB_STATIC_ADDR 0x50).put ALM_STATUS_STATE
        0)) 15 = true ∧
    hypSidebandRegisters 64 80 true 8 1 [] .getbcr (tReqB 0 0 ((tA2.put ALM_SB_STATIC_ADDR 0x50).put ALM_STATUS_STATE
        3)) 16 = true ∧
    hypSidebandRegisters 64 80 true 8 1 [] .getbcr (tReqB 6 0 ((tA2.put ALM_SB_STATIC_ADDR 0x50).put ALM_STATUS_STATE
        0)) 18 = true ∧
    hypSidebandRegisters 64 80 true 8 1 [] .getbcr (tReqB 16 0 ((tA2.put ALM_SB_STATIC_ADDR 0x50).put
        ALM_STATUS_STATE 1)) 19 = true ∧
    hypSidebandRegisters 64 80 true 8 1 [] .getbcr (tReqB 1 61 ((tA2.put ALM_SB_STATIC_ADDR 0x50).put
        ALM_STATUS_STATE 0)) 20 = true := by
  decide +kernel

/-- What clause k of `Obligations.SidebandRequests` assumes. -/
def hypSidebandRequests (e : LogEnt) (len next : Nat) (s : State) : Nat → Bool := fun clause =>
    let a := s.alm
    let arg := leNat s.sbArg
    let on := fun (op n : Nat) => a.sb.busy = true ∧ s.sbOp = op ∧ s.restarting = false ∧ s.sbLen = n
    let may := s.flag FUSE_LIMITS_SB_FW_UPDATE = true
    let idle := a.upd = none ∧ a.job = none
    let off := fieldAt s.sbArg 0 4
    let bs := s.sbArg.drop 4
    let staged := s.writeAll (s.almAcc 2) (0x17F200000 + off) bs
    let held := s.memHeld (s.almAcc 2) (0x17F200000 + off) bs.length
    let takes := a.sb.fw = some (len, next) ∧ 4 ≤ s.sbLen ∧ bs.length % 8 = 0 ∧ bs.length ≤ 56 ∧ off = next ∧
      off + bs.length ≤ len
    let open_ := s.modes.memReady = true ∧ s.paused = false
    let newest := s.rd ALM_LOG_NEXT
    let job := FwJob.update 0x17F200000 len true
    decide (s.regsOk) && match clause with
    | 0 => (([(Instr.readSensors, 1, 0), (.readSites, 2, 1), (.readLog, 3, 4), (.readStatus, 4, 0), (.reqReset, 5, 1),
        (.reqDeep, 6, 1), (.fwBegin, 0x10, 4), (.fwData, 0x11, s.sbLen), (.fwEnd, 0x12,
            0)]).any fun x => decide (a.sb.busy = false ∨ s.sbOp ≠ x.2.1))
    | 1 => (([(Instr.readSensors, 1, 0), (.readSites, 2, 1), (.readLog, 3, 4), (.readStatus, 4, 0), (.reqReset, 5, 1),
        (.reqDeep, 6, 1), (.fwBegin, 0x10, 4), (.fwData, 0x11, s.sbLen), (.fwEnd, 0x12,
            0)]).any fun x => decide (a.sb.busy = true ∧ s.sbOp = x.2.1 ∧ s.restarting = true))
    | 2 => (([(Instr.readSensors, 1, 0), (.readSites, 2, 1), (.readLog, 3, 4), (.readStatus, 4, 0), (.reqReset, 5, 1),
        (.reqDeep, 6, 1), (.fwBegin, 0x10, 4), (.fwData, 0x11, s.sbLen), (.fwEnd, 0x12,
            0)]).any fun x => decide (a.sb.busy = true ∧ s.sbOp = x.2.1 ∧ s.restarting = false ∧ (x.2.1 < 0x10 ∨
            may) ∧ s.sbLen ≠ x.2.2))
    | 3 => (([(Instr.readSensors, 1, 0), (.readSites, 2, 1), (.readLog, 3, 4), (.readStatus, 4, 0), (.reqReset, 5, 1),
        (.reqDeep, 6, 1), (.fwBegin, 0x10, 4), (.fwData, 0x11, s.sbLen), (.fwEnd, 0x12,
            0)]).any fun x => decide (a.sb.busy = true ∧ s.sbOp = x.2.1 ∧ s.restarting = false ∧ 0x10 ≤ x.2.1 ∧
            ¬ may))
    | 4 => decide (on 1 0)
    | 5 => decide (on 2 1 ∧ arg ≠ 0 ∧ arg ≠ 16)
    | 6 => decide (on 2 1 ∧ (arg = 0 ∨ arg = 16))
    | 7 => decide (on 3 4 ∧ newest ≤ arg)
    | 8 => decide (on 3 4 ∧ arg < newest ∧ a.log.find? (fun e => e.seq = arg) = some e)
    | 9 => decide (on 3 4 ∧ arg < newest ∧ (∀ x ∈ a.log, x.seq ≠ arg) ∧ s.modes.memReady = false ∧
        a.log.head? = some e)
    | 10 => decide (on 4 0)
    | 11 => decide (on 5 1 ∧ arg ≠ 0x5E)
    | 12 => decide (on 5 1 ∧ arg = 0x5E)
    | 13 => decide (on 6 1 ∧ 1 < arg)
    | 14 => decide (on 6 1 ∧ ((arg = 0 ∧ s.deepCheck ≠ 0) ∨ (arg = 1 ∧ s.devMode ≠ 7)))
    | 15 => decide (on 6 1 ∧ ((arg = 0 ∧ s.deepCheck = 0) ∨ (arg = 1 ∧ s.devMode = 7)))
    | 16 => decide (on 0x10 4 ∧ may ∧ (arg < 512 ∨ 1048576 < arg))
    | 17 => decide (on 0x10 4 ∧ may ∧ 512 ≤ arg ∧ arg ≤ 1048576 ∧ ¬ idle)
    | 18 => decide (on 0x10 4 ∧ may ∧ 512 ≤ arg ∧ arg ≤ 1048576 ∧ idle)
    | 19 => decide (on 0x11 s.sbLen ∧ may ∧ takes ∧ idle ∧ open_ ∧ held = false ∧ staged.2 = none)
    | 20 => decide (on 0x11 s.sbLen ∧ may ∧ takes ∧ idle ∧ open_ ∧ held = true)
    | 21 => decide (on 0x11 s.sbLen ∧ may ∧ takes ∧ ¬ idle)
    | 22 => decide (on 0x11 s.sbLen ∧ may ∧ (a.sb.fw = none ∨ (a.sb.fw = some (len, next) ∧ (off ≠ next ∨
        len < off + bs.length ∨ bs.length % 8 ≠ 0))))
    | 23 => decide (on 0x12 0 ∧ may ∧ (a.sb.fw = none ∨ (a.sb.fw = some (len, next) ∧ next ≠ len)))
    | 24 => decide (on 0x12 0 ∧ may ∧ a.sb.fw = some (len, len) ∧ ¬ idle)
    | 25 => decide (on 0x12 0 ∧ may ∧ a.sb.fw = some (len, len) ∧ idle ∧ s.rd ALM_STATUS_STATE ≠ 2)
    | 26 => decide (on 0x12 0 ∧ may ∧ a.sb.fw = some (len, len) ∧ idle ∧ s.rd ALM_STATUS_STATE = 2 ∧ s.paused = true)
    | 27 => decide (on 0x12 0 ∧ may ∧ a.sb.fw = some (len, len) ∧ idle ∧ s.rd ALM_STATUS_STATE = 2 ∧
        s.paused = false ∧ (∀ x ∈ s.jobXfers job, s.memHeld x.1 x.2.1 x.2.2 = false))
    | _ => false
theorem witness_SidebandRequests :
    [0, 4].all (hypSidebandRequests (tLog 4) 1000 0 (tSb 1 []
        ((({tA2 with alm := {tA2.alm with log := [tLog 3, tLog 4]}}:State).put ALM_STATUS_STATE 0).put ALM_LOG_NEXT 5
        |>.on FUSE_LIMITS_SB_FW_UPDATE))) = true ∧
    hypSidebandRequests (tLog 4) 1000 0 (tSb 1 []
        ((({tA2 with alm := {tA2.alm with log := [tLog 3, tLog 4]}}:State).put ALM_STATUS_STATE 3).put ALM_LOG_NEXT 5
        |>.on FUSE_LIMITS_SB_FW_UPDATE)) 1 = true ∧
    hypSidebandRequests (tLog 4) 1000 0 (tSb 1 [0]
        ((({tA2 with alm := {tA2.alm with log := [tLog 3, tLog 4]}}:State).put ALM_STATUS_STATE 0).put ALM_LOG_NEXT 5
        |>.on FUSE_LIMITS_SB_FW_UPDATE)) 2 = true ∧
    hypSidebandRequests (tLog 4) 1000 0 (tSb 16 [0,2,0,0] (tA2.off FUSE_LIMITS_SB_FW_UPDATE)) 3 = true ∧
    hypSidebandRequests (tLog 4) 1000 0 (tSb 2 [1]
        ((({tA2 with alm := {tA2.alm with log := [tLog 3, tLog 4]}}:State).put ALM_STATUS_STATE 0).put ALM_LOG_NEXT 5
        |>.on FUSE_LIMITS_SB_FW_UPDATE)) 5 = true ∧
    hypSidebandRequests (tLog 4) 1000 0 (tSb 2 [0]
        ((({tA2 with alm := {tA2.alm with log := [tLog 3, tLog 4]}}:State).put ALM_STATUS_STATE 0).put ALM_LOG_NEXT 5
        |>.on FUSE_LIMITS_SB_FW_UPDATE)) 6 = true ∧
    hypSidebandRequests (tLog 4) 1000 0 (tSb 3 [5,0,0,0]
        ((({tA2 with alm := {tA2.alm with log := [tLog 3, tLog 4]}}:State).put ALM_STATUS_STATE 0).put ALM_LOG_NEXT 5
        |>.on FUSE_LIMITS_SB_FW_UPDATE)) 7 = true ∧
    hypSidebandRequests (tLog 4) 1000 0 (tSb 3 [4,0,0,0]
        ((({tA2 with alm := {tA2.alm with log := [tLog 3, tLog 4]}}:State).put ALM_STATUS_STATE 0).put ALM_LOG_NEXT 5
        |>.on FUSE_LIMITS_SB_FW_UPDATE)) 8 = true ∧
    hypSidebandRequests (tLog 4) 1000 0
        ({tSb 3 [3,0,0,0] (({tA2 with alm := {tA2.alm with log := [tLog 4]}}:State).put ALM_LOG_NEXT 5) with modes := {}}) 9 = true ∧
    hypSidebandRequests (tLog 4) 1000 0 (tSb 4 []
        ((({tA2 with alm := {tA2.alm with log := [tLog 3, tLog 4]}}:State).put ALM_STATUS_STATE 0).put ALM_LOG_NEXT 5
        |>.on FUSE_LIMITS_SB_FW_UPDATE)) 10 = true ∧
    hypSidebandRequests (tLog 4) 1000 0 (tSb 5 [0]
        ((({tA2 with alm := {tA2.alm with log := [tLog 3, tLog 4]}}:State).put ALM_STATUS_STATE 0).put ALM_LOG_NEXT 5
        |>.on FUSE_LIMITS_SB_FW_UPDATE)) 11 = true ∧
    hypSidebandRequests (tLog 4) 1000 0 (tSb 5 [0x5E]
        ((({tA2 with alm := {tA2.alm with log := [tLog 3, tLog 4]}}:State).put ALM_STATUS_STATE 0).put ALM_LOG_NEXT 5
        |>.on FUSE_LIMITS_SB_FW_UPDATE)) 12 = true ∧
    hypSidebandRequests (tLog 4) 1000 0 (tSb 6 [16]
        ((({tA2 with alm := {tA2.alm with log := [tLog 3, tLog 4]}}:State).put ALM_STATUS_STATE 0).put ALM_LOG_NEXT 5
        |>.on FUSE_LIMITS_SB_FW_UPDATE)) 13 = true ∧
    hypSidebandRequests (tLog 4) 1000 0 (tSb 6 [0]
        ((({tA2 with alm := {tA2.alm with log := [tLog 3, tLog 4]}}:State).put ALM_STATUS_STATE 0).put ALM_LOG_NEXT 5
        |>.on FUSE_LIMITS_SB_FW_UPDATE)) 14 = true ∧
    hypSidebandRequests (tLog 4) 1000 0 (tSb 6 [0] ((tA2.put GLOBAL_MODE_MODE 2).put ALM_STATUS_STATE 2)) 15 = true ∧
    hypSidebandRequests (tLog 4) 1000 0 (tSb 16 [4,0,0,0]
        ((({tA2 with alm := {tA2.alm with log := [tLog 3, tLog 4]}}:State).put ALM_STATUS_STATE 0).put ALM_LOG_NEXT 5
        |>.on FUSE_LIMITS_SB_FW_UPDATE)) 16 = true ∧
    hypSidebandRequests (tLog 4) 1000 0 (tSb 16 [0,2,0,0]
        (({tA2 with alm := {tA2.alm with upd := some (tUpd none)}}:State).on FUSE_LIMITS_SB_FW_UPDATE)) 17 = true ∧
    hypSidebandRequests (tLog 4) 1000 0 (tSb 16 [0,2,0,0]
        ((({tA2 with alm := {tA2.alm with log := [tLog 3, tLog 4]}}:State).put ALM_STATUS_STATE 0).put ALM_LOG_NEXT 5
        |>.on FUSE_LIMITS_SB_FW_UPDATE)) 18 = true ∧
    hypSidebandRequests (tLog 4) 1000 0 (tSb 0x11 (natLe 4 0 ++ List.replicate 0 3)
        (({tA2 with alm := {tA2.alm with sb := {fw := some (1000,0)}}}:State).on FUSE_LIMITS_SB_FW_UPDATE)) 19 = true
        ∧
    hypSidebandRequests (tLog 4) 1000 16 (tSb 0x11 (natLe 4 16 ++ List.replicate 56 3)
        (({tA2 with alm := {tA2.alm with sb := {fw := some (1000,16)}}}:State).on FUSE_LIMITS_SB_FW_UPDATE)) 20 =
        true ∧
    hypSidebandRequests (tLog 4) 8 0 (tSb 17 (natLe 4 0 ++ List.replicate 8 3)
        (({tA2 with alm := {tA2.alm with sb := {fw := some (8,0)}, job := some (.overlay 5 6)}}:State).put
        ALM_LOG_NEXT 5 |>.on FUSE_LIMITS_SB_FW_UPDATE)) 21 = true ∧
    hypSidebandRequests (tLog 4) 1000 0 (tSb 17 []
        ((({tA2 with alm := {tA2.alm with log := [tLog 3, tLog 4]}}:State).put ALM_STATUS_STATE 0).put ALM_LOG_NEXT 5
        |>.on FUSE_LIMITS_SB_FW_UPDATE)) 22 = true ∧
    hypSidebandRequests (tLog 4) 1000 0 (tSb 18 []
        ((({tA2 with alm := {tA2.alm with log := [tLog 3, tLog 4]}}:State).put ALM_STATUS_STATE 0).put ALM_LOG_NEXT 5
        |>.on FUSE_LIMITS_SB_FW_UPDATE)) 23 = true ∧
    hypSidebandRequests (tLog 4) 1000 1000 (tSb 0x12 []
        (({(tAlm 0 tHdr0 []) with alm := {(tAlm 0 tHdr0 []).alm with sb := {fw := some (1000,1000)}, upd := some (tUpd none)}}:State).on FUSE_LIMITS_SB_FW_UPDATE)) 24 = true ∧
    hypSidebandRequests (tLog 4) 1000 1000 (tSb 0x12 []
        (({(tAlm 0 tHdr0 []) with alm := {(tAlm 0 tHdr0 []).alm with sb := {fw := some (1000,1000)}, upd := none}}:State).on FUSE_LIMITS_SB_FW_UPDATE)) 25 = true ∧
    hypSidebandRequests (tLog 4) 1000 1000
        ({tSb 0x12 [] (({(tAlm 2 tHdr0 []) with alm := {(tAlm 2 tHdr0 []).alm with sb := {fw := some (1000,1000)}}}:State).on FUSE_LIMITS_SB_FW_UPDATE) with pauses := {deep := true}}) 26 = true ∧
    hypSidebandRequests (tLog 4) 1000 1000 (tPaid (fun s => s.jobXfers (.update 0x17F200000 1000 true)) (tSb 0x12 []
        (({(tAlm 2 tHdr0 []) with alm := {(tAlm 2 tHdr0 []).alm with sb := {fw := some (1000,1000)}}}:State).on
        FUSE_LIMITS_SB_FW_UPDATE))) 27 = true := by
  decide +kernel

end Alm

/-! Witnesses: faults, self-test, the test port -/

namespace Flt

/-- The test machine with uptime 9000 µs, FCLK 7, firmware RUNNING, FAULT_CFG as reset. -/
def tRunF : State :=
    { (tRun.put ALM_STATUS_STATE 2).put FAULT_CFG_QUIET_US 300 with clk := { tRun.clk with uptime := 9000, fclk := 7 } }
/-- Partition 0 in MAINT, slices of every kind enabled with a budget of 500 µs. -/
def tStM : State :=
  let s := (tRunF.put (GLOBAL_PMODE_MODE 0) 5).put (ENG_STATE_STATE 0) 0
  (upFrom 1 8).foldl (fun s k => (s.on (ST_KIND_ENABLE k)).put (ST_KIND_BUDGET_US k) 500) s
/-- Start-up step 7, memory served; the set not begun, or in progress since 50 µs, or with nothing left to run. -/
def tStN : State :=
  let s := ((tStM.put GLOBAL_MODE_MODE 1).put GLOBAL_BOOT_STEP 7)
  { s with modes := { s.modes with memReady := true } }
/-- Fuses sensed, factory access open. -/
def tFac : State := (tRunF.on FUSE_STATUS_SENSED).off FUSE_LIMITS_FACTORY_LOCK
/-- Slices of kind 1 alone are enabled. -/
def tStO : State := (upFrom 2 7).foldl (fun s k => s.off (ST_KIND_ENABLE k))
  ((((tRunF.put (GLOBAL_PMODE_MODE 0) 5).put (ENG_STATE_STATE 0) 0).on (ST_KIND_ENABLE 1)).put (ST_KIND_BUDGET_US 1)
      500)
/-- The start-up set with every engine at work and every other slice done. -/
def tStE : State :=
  let s := (upFrom 0 72).foldl (fun s e => s.put (ENG_STATE_STATE e) 3) tRunF
  { s with st := { s.st with setRuns := some 50,
                             setDone := (8, srcSensors,
                                 0) :: ((upFrom 0x80 9).flatMap fun u => (upFrom 0 5).map fun i => (2, u, i)) } }
/-- Lane pair k runs a loopback, or none; n frames compared, e errors. -/
def tLb (k : Nat) (l : Option Loop) (n e : Nat) (s : State) : State :=
  ((s.updLane k fun x => { x with lb := l }).put (VLANE_LB_FRAMES k) n).put (VLANE_LB_ERRORS k) e
/-- VALID set or not, 3 later messages, nothing of this FCLK cycle noted but the message counted last. -/
def tFe (v : Bool) (x : Option (Nat × HeldMsg × Nat)) (s : State) : State :=
  let s := (s.put FAULT_COUNT_LATER 3).putb FAULT_FE_STATUS_VALID v
  { s with fresh := [], faults := { s.faults with late := x } }
/-- What clause k of `Obligations.FaultCollector` assumes. -/
def hypFaultCollector (unit : BitVec 10) (f : Fence) (m : Msg) (h : HeldMsg) (rest : List HeldMsg) (src : Nat) (p :
    Fin 16) (react : Nat) (s : State) : Nat → Bool := fun clause =>
    let n := unit.toNat
    let fs := s.faults
    let live := fenceable n = true ∧ s.rd (FAULT_UNIT_STATE n) ≠ 2
    let running := s.paused = false
    let lone := fun (src : Nat) => ∀ l ∈ fs.latches, l.src ≠ src
    let free := s.paused = false ∧ fs.takenAt ≠ some s.clk.fclk
    let small := fun (m : Msg) => m.kind < 256 ∧ m.src < 1024 ∧ s.rd (FAULT_KIND_REACTION m.kind) = 0 ∧ lone m.src
    let quiet := s.fenceOf n = some f ∧ f.host = false ∧ running ∧ (∀ m ∈ fs.queue, m.src ≠ f.unit) ∧
      f.since + s.rd FAULT_CFG_QUIET_US ≤ s.now ∧ fenceable n = true
    let cubeKinds : List Nat := [0x10, 0x11, 0x30, 0x33, 0x34, 0x35, 0x3E]
    let w : Word := BitVec.ofNat 32 (2 ^ FAULT_FE_STATUS_VALID.lo)
    let taken := fun (m : Msg) (r : Nat) => free ∧ fs.intake = [] ∧ fs.nextSrc = some m.src ∧
      fs.queue.find? (fun x => x.src = m.src) = some m ∧ m.kind < 256 ∧ m.src < 1024 ∧
      s.rd (FAULT_KIND_REACTION m.kind) = r ∧ lone m.src
    let mine := m.src = n
    decide (s.regsOk) && match clause with
    | 0 => decide (¬ free)
    | 1 => decide (free ∧ fs.intake = [] ∧ fs.nextSrc = none)
    | 2 => decide (free ∧ fs.intake = [] ∧ fs.nextSrc = some src ∧ fs.queue.find? (fun m => m.src = src) = some m ∧
        small m)
    | 3 => decide (free ∧ fs.intake = h :: rest ∧ small h.msg)
    | 4 => decide (taken m 1 ∧ mine ∧ live ∧ s.fenceOf n = none)
    | 5 => decide (taken m 1 ∧ mine ∧ live ∧ s.fenceOf n = some f ∧ f.host = false)
    | 6 => decide (taken m 1 ∧ mine ∧ s.fenceOf n = some f ∧ (f.host = true ∨ ¬ live))
    | 7 => decide (taken m 2 ∧ mine ∧ live ∧ n < 256)
    | 8 => decide ((react = 1 ∨ react = 2) ∧ taken m react ∧ mine ∧ ¬ live)
    | 9 => decide (taken m 3 ∧ (m.part = some p.val ∨ (m.part = none ∧ m.also = [] ∧ n < 72 ∧ mine ∧
        m.kind ∉ cubeKinds ∧ s.engPart n = some p.val)) ∧ m.kind ≠ 0x38 ∧ m.kind ≠ 0x39)
    | 10 => decide (taken m 3 ∧ m.part = none ∧ m.also = [] ∧ 4 ≤ m.src / 128)
    | 11 => decide (s.sensed = true ∧ s.csrStatus true false 0x600010 w = 0 ∧ s.flag FAULT_FE_STATUS_VALID = true ∧
        s.fresh = [] ∧ fs.late = some (s.clk.fclk, h, react) ∧ react < 4 ∧ h.msg.kind < 256 ∧
        0 < s.rd FAULT_COUNT_LATER)
    | 12 => decide (s.sensed = true ∧ s.csrStatus true false 0x600010 w = 0 ∧ s.fresh = [] ∧ (∀ x, fs.late = some x →
        x.1 ≠ s.clk.fclk))
    | 13 => decide (s.fenceOf n = none)
    | 14 => decide (s.fenceOf n = some f ∧ (f.host = true ∨ ¬ running ∨ s.now < f.since + s.rd FAULT_CFG_QUIET_US))
    | 15 => decide (quiet ∧ s.recent n < 3)
    | 16 => decide (quiet ∧ 3 ≤ s.recent n ∧ live ∧ n < 256)
    | 17 => decide (fenceable n = false)
    | 18 => decide (fenceable n = true ∧ s.rd (FAULT_UNIT_STATE n) = 2)
    | 19 => decide (live ∧ s.fenceOf n = none)
    | 20 => decide (s.fenceOf n = some f ∧ f.host = true ∧ fenceable n = true)
    | 21 => decide (live ∧ n < 256)
    | 22 => decide (s.allAlive p = false)
    | 23 => decide (s.allAlive p = true ∧ s.rd (FAULT_PART_HEALTH p) = 1)
    | 24 => decide (s.allAlive p = true ∧ s.rd (FAULT_PART_HEALTH p) ≠ 1)
    | _ => false
theorem witness_FaultCollector :
    hypFaultCollector 0 ⟨0,false,100,0⟩ {src := 4, kind := 1} ⟨{src := 0x300, kind := 0x61}, 5, 6, false,
        false⟩ [] 4 0 0
        ({(tRunF.put (FAULT_KIND_REACTION 1) 0 |>.put (FAULT_KIND_REACTION 0x61) 0) with faults := {(tRunF.put (FAULT_KIND_REACTION 1) 0 |>.put (FAULT_KIND_REACTION 0x61) 0).faults with queue := [{src := 4, kind := 1}], takenAt := some 7}}:State) 0 = true ∧
    hypFaultCollector 0 ⟨0,false,100,0⟩ {src := 4, kind := 1} ⟨{src := 0x300, kind := 0x61}, 5, 6, false,
        false⟩ [] 4 0 0
        ({(tRunF.put (FAULT_KIND_REACTION 1) 0 |>.put (FAULT_KIND_REACTION 0x61) 0) with faults := {(tRunF.put (FAULT_KIND_REACTION 1) 0 |>.put (FAULT_KIND_REACTION 0x61) 0).faults with queue := [], takenAt := some 3}}:State) 1 = true ∧
    [2, 12, 13, 19, 21, 24].all (hypFaultCollector 0 ⟨0,false,100,0⟩
        {src := 0, kind := 1, addr := 0x812345678, detail := 77} ⟨{src := 0x300, kind := 0x61}, 5, 6, false,
        false⟩ [] 0 0 0
        (({(tRunF) with faults := {(tRunF).faults with queue := [{src := 0, kind := 1, addr := 0x812345678, detail := 77}], last := 3}}:State))) = true ∧
    hypFaultCollector 0 ⟨0,false,100,0⟩ {src := 4, kind := 1} ⟨{src := 0x300, kind := 0x61}, 5, 6, false,
        false⟩ [] 4 0 0
        ({(tRunF.put (FAULT_KIND_REACTION 1) 0 |>.put (FAULT_KIND_REACTION 0x61) 0) with faults := {(tRunF.put (FAULT_KIND_REACTION 1) 0 |>.put (FAULT_KIND_REACTION 0x61) 0).faults with intake := [⟨{src := 0x300, kind := 0x61}, 5, 6, false, false⟩], queue := [{src := 4, kind := 1}]}}:State) 3 = true ∧
    hypFaultCollector 0 ⟨0,false,100,0⟩ {src := 0, kind := 2, addr := 0x812345678, detail := 77}
        ⟨{src := 0x300, kind := 0x61}, 5, 6, false,
        false⟩ [] 0 0 0
        (({(tRunF) with faults := {(tRunF).faults with queue := [{src := 0, kind := 2, addr := 0x812345678, detail := 77}], last := 3}}:State)) 4 = true ∧
    hypFaultCollector 0 ⟨0,false,100,0⟩ {src := 0, kind := 2} ⟨{src := 0x300, kind := 0x61}, 5, 6, false,
        false⟩ [] 0 0 1
        (({(tRunF.put (FAULT_KIND_REACTION 2) 1) with faults := {(tRunF.put (FAULT_KIND_REACTION 2) 1).faults with fences := [⟨0,false,100,0⟩], queue := [{src := 0, kind := 2}]}}:State)) 5 = true ∧
    hypFaultCollector 0 ⟨0,false,100,0⟩ {src := 0, kind := 2} ⟨{src := 0x300, kind := 0x61}, 5, 6, false,
        false⟩ [] 0 0 1
        (({(tRunF.put (FAULT_KIND_REACTION 2) 1 |>.put (FAULT_UNIT_STATE 0) 2) with faults := {(tRunF.put (FAULT_KIND_REACTION 2) 1 |>.put (FAULT_UNIT_STATE 0) 2).faults with fences := [⟨0,false,100,0⟩], queue := [{src := 0, kind := 2}]}}:State)) 6 = true ∧
    hypFaultCollector 0 ⟨0,false,100,0⟩ {src := 0, kind := 112, addr := 0x812345678, detail := 77}
        ⟨{src := 0x300, kind := 0x61}, 5, 6, false,
        false⟩ [] 0 0 0
        (({(tRunF) with faults := {(tRunF).faults with queue := [{src := 0, kind := 112, addr := 0x812345678, detail := 77}], last := 3}}:State)) 7 = true ∧
    hypFaultCollector 0 ⟨0,false,100,0⟩ {src := 0, kind := 2} ⟨{src := 0x300, kind := 0x61}, 5, 6, false,
        false⟩ [] 0 0 1
        (({(tRunF.put (FAULT_KIND_REACTION 2) 1 |>.put (FAULT_UNIT_STATE 0) 2) with faults := {(tRunF.put (FAULT_KIND_REACTION 2) 1 |>.put (FAULT_UNIT_STATE 0) 2).faults with queue := [{src := 0, kind := 2}]}}:State)) 8 = true ∧
    hypFaultCollector 0 ⟨0,false,100,0⟩ {src := 0, kind := 63, addr := 0x812345678, detail := 77}
        ⟨{src := 0x300, kind := 0x61}, 5, 6, false,
        false⟩ [] 0 0 0
        (({(tRunF) with faults := {(tRunF).faults with queue := [{src := 0, kind := 63, addr := 0x812345678, detail := 77}], last := 3}}:State)) 9 = true ∧
    hypFaultCollector 0 ⟨0,false,100,0⟩ {src := 768, kind := 63, addr := 0x812345678, detail := 77}
        ⟨{src := 0x300, kind := 0x61}, 5, 6, false,
        false⟩ [] 768 0 0
        (({(tRunF) with faults := {(tRunF).faults with queue := [{src := 768, kind := 63, addr := 0x812345678, detail := 77}], last := 3}}:State)) 10 = true ∧
    hypFaultCollector 0 ⟨0,false,100,0⟩ {src := 0, kind := 1} ⟨{src := 0x300, kind := 0x61}, 5, 6, false,
        false⟩ [] 0 0 1 (tFe true (some (7,⟨{src := 0x300, kind := 0x61}, 5, 6, false, false⟩,1)) tRunF) 11 = true ∧
    [14, 20].all (hypFaultCollector 0 ⟨0,true,100,0⟩ {src := 0, kind := 1} ⟨{src := 0x300, kind := 0x61}, 5, 6,
        false, false⟩ [] 0 0 0 ({tRunF with faults := {tRunF.faults with fences := [⟨0,true,100,0⟩]}}:State)) = true ∧
    hypFaultCollector 0 ⟨0,false,100,0⟩ {src := 0, kind := 1} ⟨{src := 0x300, kind := 0x61}, 5, 6, false,
        false⟩ [] 0 0 0 ({tRunF with faults := {tRunF.faults with fences := [⟨0,false,100,0⟩]}}:State) 15 = true ∧
    hypFaultCollector 0 ⟨0,false,100,0⟩ {src := 0, kind := 1} ⟨{src := 0x300, kind := 0x61}, 5, 6, false,
        false⟩ [] 0 0 0
        ({tRunF with faults := {tRunF.faults with fences := [⟨0,false,100,0⟩], recoveries := [(0,8000),(0,7000),(0,5)]}}:State) 16 = true ∧
    hypFaultCollector 72 ⟨72,false,100,0⟩ {src := 0, kind := 1} ⟨{src := 0x300, kind := 0x61}, 5, 6, false,
        false⟩ [] 0 0 0 ({tRunF with faults := {tRunF.faults with fences := []}}:State) 17 = true ∧
    hypFaultCollector 0 ⟨0,false,100,0⟩ {src := 0, kind := 1} ⟨{src := 0x300, kind := 0x61}, 5, 6, false,
        false⟩ [] 0 0 0 (tRunF.put (FAULT_UNIT_STATE 0) 2) 18 = true ∧
    hypFaultCollector 0 ⟨0,false,100,0⟩ {src := 0, kind := 1} ⟨{src := 0x300, kind := 0x61}, 5, 6, false,
        false⟩ [] 0 0 0 (tRunF.loseEng 0 none) 22 = true ∧
    hypFaultCollector 0 ⟨0,false,100,0⟩ {src := 0, kind := 1} ⟨{src := 0x300, kind := 0x61}, 5, 6, false,
        false⟩ [] 0 0 0 (tRunF.put (FAULT_PART_HEALTH 0) 1) 23 = true := by
  decide +kernel

/-- What clause k of `Obligations.SelfTestSlices` assumes. -/
def hypSelfTestSlices (kind : Fin 8) (target : BitVec 10) (part : BitVec 5) (res : SliceResult) (x : Slice) (t0 g :
    Nat) (b : Fin 64) (r : Fin 16) (a : BitVec 36) (o : Opens) (w : Sweep) (s : State) : Nat → Bool := fun clause =>
    let k := kind.val + 1
    let n := target.toNat
    let c := n % 128
    let p := part.toNat
    let up := s.paused = false ∧ s.rd ALM_STATUS_STATE = 2
    let self := fun (x : Slice) => decide (x.kind = k) && decide (x.target = n) && decide (x.part = p)
    let normal := s.st.setRuns = none ∧ s.devMode = 2 ∧ s.boundaryDone = true ∧ s.flag ST_CTRL_HOLD = false ∧
        s.eligible k n p = true ∧
      s.inTurn k n p = true
    let first := s.st.setRuns ≠ none ∧ s.flag ST_CTRL_HOLD = false ∧ (k = 1 ∨ k = 2 ∨ k = 6 ∨ k = 8) ∧
        s.sliceFree k n = true ∧ s.slicePart k n p = true ∧
      s.sliceIdle k n 0 = true ∧ (k, n, p) ∉ s.st.setDone ∧
      (k = 1 → ∀ x ∈ s.st.slices, x.kind = 1 → x.target / 9 ≠ n / 9)
    let runs := s.st.slices.find? self = some x ∧ s.paused = false
    let loops := fun (l : Option Loop) => runs ∧ k = 6 ∧ (s.lane c).lb = l
    let whole := 1024 ≤ s.rd (VLANE_LB_FRAMES c)
    decide (s.regsOk) && match clause with
    | 0 => decide (up ∧ (normal ∨ first))
    | 1 => decide (¬ up ∨ ¬ (normal ∨ first))
    | 2 => decide (s.st.slices.find? self = none ∨ s.paused = true)
    | 3 => decide (runs ∧ (k = 1 ∨ k = 2 ∨ k = 3 ∨ k = 5))
    | 4 => decide (runs ∧ (k = 1 ∨ k = 2) ∧ res ≠ .clean)
    | 5 => decide (runs ∧ k = 3 ∧ c < 34)
    | 6 => decide (runs ∧ k = 4 ∧ s.now < x.since + (x.budget - 5))
    | 7 => decide (runs ∧ k = 4 ∧ p < 32 ∧ x.since + (x.budget - 5) ≤ s.now)
    | 8 => decide (runs ∧ k = 5 ∧ c < 34)
    | 9 => decide (runs ∧ k = 7)
    | 10 => decide (runs ∧ k = 3 ∧ x.part = 9 ∧ n < 512 ∧ (c = 32 ∨ c = 33) ∧
        s.flag MC_LAYER_STAT_SPARE_FREE = true ∧ s.restarting = false)
    | 11 => (match (s.lane c).lb with
   | some l => decide (runs ∧ k = 6 ∧ (l.waiting = true ∨ ¬ whole))
   | _ => false)
    | 12 => decide (loops none ∧ ¬ whole)
    | 13 => decide (loops none ∧ whole ∧ s.rd (VLANE_LB_ERRORS c) = 0 ∧ (s.logTx c = 0xFF ∨ x.stage ≠ 0 ∨
        s.flag (VLANE_PEER_FAR_LB c) = false))
    | 14 => decide (loops none ∧ whole ∧ s.rd (VLANE_LB_ERRORS c) ≠ 0 ∧ c < 100)
    | 15 => decide (s.paused = true)
    | 16 => decide (s.paused = false)
    | 17 => decide (s.devMode = 1 ∧ s.rd GLOBAL_BOOT_STEP = 7 ∧ s.flag ST_STATUS_STARTUP_DONE = false ∧
        s.st.setRuns = none)
    | 18 => decide (s.devMode ≠ 1 ∨ s.rd GLOBAL_BOOT_STEP ≠ 7 ∨ s.flag ST_STATUS_STARTUP_DONE = true ∨
        s.st.setRuns ≠ none)
    | 19 => decide (s.st.setRuns = none ∨ s.setOver = false ∨ ¬ up)
    | 20 => decide (s.st.setRuns = some t0 ∧ s.setOver = true ∧ up)
    | _ => false
theorem witness_SelfTestSlices :
    hypSelfTestSlices 0 0 0 .clean ⟨1,0,0,100,500,false,0⟩ 50 3 5 2 1 ⟨[],[]⟩ ⟨[],[],[]⟩ tStO 0 = true ∧
    hypSelfTestSlices 0 0 0 .clean ⟨1,0,0,100,500,false,0⟩ 50 3 5 2 74560 ⟨[],[]⟩ ⟨[],[],[]⟩ (tStM.on ST_CTRL_HOLD) 1
        = true ∧
    [2, 16, 18, 19].all (hypSelfTestSlices 0 0 0 .clean ⟨1,0,0,100,500,false,0⟩ 50 3 5 2 74560 ⟨[],[]⟩ ⟨[],[],[]⟩
        tStM) = true ∧
    hypSelfTestSlices 0 0 0 .clean ⟨1,0,0,100,500,false,0⟩ 50 3 5 2 74560 ⟨[(0,5)],[]⟩ ⟨[],[0],[]⟩
        ({tStM with st := {tStM.st with slices := [⟨1,0,0,100,500,false,0⟩]}}:State) 3 = true ∧
    hypSelfTestSlices 0 0 0 (.bad 5) ⟨1,0,0,100,500,false,0⟩ 50 3 5 2 74560 ⟨[(0,5)],[]⟩ ⟨[],[0],[]⟩
        ({tStM with st := {tStM.st with slices := [⟨1,0,0,100,500,false,0⟩]}}:State) 4 = true ∧
    hypSelfTestSlices 2 256 0 .clean ⟨3,256,0,100,500,false,0⟩ 50 3 5 2 74560 ⟨[(0,5)],[]⟩ ⟨[],[0],[]⟩
        ({tStM with st := {tStM.st with slices := [⟨3,256,0,100,500,false,0⟩]}}:State) 5 = true ∧
    hypSelfTestSlices 3 256 0 .clean ⟨4,256,0,8900,500,false,0⟩ 50 3 5 2 74560 ⟨[(0,5)],[]⟩ ⟨[],[0],[]⟩
        ({tStM with st := {tStM.st with slices := [⟨4,256,0,8900,500,false,0⟩]}}:State) 6 = true ∧
    hypSelfTestSlices 3 256 0 .clean ⟨4,256,0,100,500,false,0⟩ 50 3 5 2 74560 ⟨[(0,5)],[]⟩ ⟨[],[0],[]⟩
        ({tStM with st := {tStM.st with slices := [⟨4,256,0,100,500,false,0⟩]}}:State) 7 = true ∧
    hypSelfTestSlices 4 256 0 .clean ⟨5,256,0,100,500,false,0⟩ 50 3 5 2 74560 ⟨[(0,5)],[]⟩ ⟨[],[0],[]⟩
        ({tStM with st := {tStM.st with slices := [⟨5,256,0,100,500,false,0⟩]}}:State) 8 = true ∧
    hypSelfTestSlices 6 256 0 .clean ⟨7,256,0,100,500,false,0⟩ 50 3 5 2 74560 ⟨[(0,5)],[]⟩ ⟨[],[0],[]⟩
        ({tStM with st := {tStM.st with slices := [⟨7,256,0,100,500,false,0⟩]}}:State) 9 = true ∧
    hypSelfTestSlices 2 288 9 .clean ⟨3,288,9,100,500,false,0⟩ 50 3 5 2 74560 ⟨[],[]⟩ ⟨[],[],[]⟩
        ({tStM with st := {tStM.st with slices := [⟨3,288,9,100,500,false,0⟩]}}:State) 10 = true ∧
    hypSelfTestSlices 5 384 0 .clean ⟨6,384,0,100,500,false,0⟩ 50 3 5 2 74560 ⟨[],[]⟩ ⟨[],[],[]⟩
        ({(tLb 0 (some {mode := 0, frames := 1024, waiting := false, prbs := 5}) 1023 0 tStM) with st := {(tLb 0 (some {mode := 0, frames := 1024, waiting := false, prbs := 5}) 1023 0 tStM).st with slices := [⟨6,384,0,100,500,false,0⟩]}}:State) 11 = true ∧
    hypSelfTestSlices 5 384 0 .clean ⟨6,384,0,100,500,false,0⟩ 50 3 5 2 74560 ⟨[(0,5)],[]⟩ ⟨[],[0],[]⟩
        ({tStM with st := {tStM.st with slices := [⟨6,384,0,100,500,false,0⟩]}}:State) 12 = true ∧
    hypSelfTestSlices 5 384 0 .clean ⟨6,384,0,100,500,false,0⟩ 50 3 5 2 74560 ⟨[],[]⟩ ⟨[],[],[]⟩
        ({(tLb 0 (none) 1024 0 tStM) with st := {(tLb 0 (none) 1024 0 tStM).st with slices := [⟨6,384,0,100,500,false,0⟩]}}:State) 13 = true ∧
    hypSelfTestSlices 5 384 0 .clean ⟨6,384,0,100,500,false,0⟩ 50 3 5 2 74560 ⟨[],[]⟩ ⟨[],[],[]⟩
        ({(tLb 0 (none) 1024 1 tStM) with st := {(tLb 0 (none) 1024 1 tStM).st with slices := [⟨6,384,0,100,500,false,0⟩]}}:State) 14 = true ∧
    hypSelfTestSlices 0 0 0 .clean ⟨1,0,0,100,500,false,0⟩ 50 3 5 2 74560 ⟨[],[]⟩ ⟨[],[],[]⟩
        ({tStM with pauses := {deep := true}}) 15 = true ∧
    hypSelfTestSlices 0 0 0 .clean ⟨1,0,0,100,500,false,0⟩ 50 3 5 2 74560 ⟨[],[]⟩ ⟨[],[],[]⟩ tStN 17 = true ∧
    hypSelfTestSlices 0 0 0 .clean ⟨1,0,0,100,500,false,0⟩ 50 3 5 2 1 ⟨[],[]⟩ ⟨[],[],[]⟩ tStE 20 = true := by
  decide +kernel

/-- What clause k of `Obligations.TestPort` assumes. -/
def hypTestPort (sample preload : List Bool) (reg : BitVec 22) (w : Word) (layer : Fin 17) (half : Fin 2) (g : BitVec
    25) (d : BitVec 512) (m : BitVec 576) (acc : CsrAcc) (raw : RawAcc) (e : Eng) (s : State) : Nat →
    Bool := fun clause =>
    let tap := s.tap
    let set := fun (ir dr : Nat) (drive : Drive) =>
      { s with tap := { tap with ir := ir, dr := dr, drive := drive, layer := none, wrap := none, waits := none } }
    let a := 4 * reg.toNat
    let ready := s.factoryPort = true
    let busy := ∃ x ∈ s.st.slices, x.target = e.val
    let idle := s.engState e = 0 ∨ s.engState e = 6 ∨ s.engState e = 7
    decide (s.regsOk) && decide (s.dramWf = true) && decide (s.masksWf = true) && match clause with
    | 0 => decide (¬ ready)
    | 1 => (decide (ready) && ((set 0x10 0 .core).csrFirstBad false true a [0]).isNone)
    | 2 => (decide (ready) && ((set 0x10 0 .core).csrFirstBad true true a [w]).isNone)
    | 3 => (decide (ready) && ((set 0x10 0 .core).csrFirstBad true true a [w]).isSome)
    | 4 => decide (ready)
    | 5 => decide (ready ∧ busy)
    | 6 => decide (¬ (ready ∧ busy) ∧ ¬ idle)
    | 7 => decide (ready ∧ ¬ busy ∧ idle)
    | _ => false
theorem witness_TestPort :
    hypTestPort [true] [false,true] 0 7 3 1 9 (BitVec.ofNat 512 (2^500+3)) (BitVec.ofNat 576 5) (.read 2) .select 0
        (tFac.on FUSE_LIMITS_FACTORY_LOCK) 0 = true ∧
    [1, 2, 4, 7].all (hypTestPort [true] [false,true] 0 7 3 1 9 (BitVec.ofNat 512 (2^500+3)) (BitVec.ofNat 576 5)
        (.read 2) .select 0 tFac) = true ∧
    hypTestPort [true] [false,true] 3145712 7 3 1 9 (BitVec.ofNat 512 (2^500+3)) (BitVec.ofNat 576 5) (.read 2)
        .select 0 tFac 3 = true ∧
    hypTestPort [true] [false,true] 0 7 3 1 9 (BitVec.ofNat 512 (2^500+3)) (BitVec.ofNat 576 5) (.read 2) .select 0
        ({tFac with st := {tFac.st with slices := [⟨1,0,0,1,1,false,0⟩]}}:State) 5 = true ∧
    hypTestPort [true] [false,true] 0 7 3 1 9 (BitVec.ofNat 512 (2^500+3)) (BitVec.ofNat 576 5) (.read 2) .select 0
        (tFac.put (ENG_STATE_STATE 0) 3) 6 = true := by
  decide +kernel

end Flt

end Sys2Proof.Tests
end

section
/-! SUPPORT. Pattern engines: what an update of one engine changes, and what issuing an instruction does. -/
namespace Sys2Proof.Machine
open Csr

/-! One engine's update -/

@[simp] theorem State.eng_updEng_self (s : State) (e : Eng) (f : Engine → Engine) :
    (s.updEng e f).eng e = f (s.eng e) := by
  rw [State.eng_updEng _ _ _ _ e.isLt, if_pos rfl]

theorem State.eng_updEng_ne (s : State) (e : Eng) (f : Engine → Engine) {k : Nat} (hk : k ≠ e) :
    (s.updEng e f).eng k = s.eng k := by
  rw [State.eng_updEng _ _ _ _ e.isLt, if_neg hk]

/-- Two updates of one engine are one. -/
theorem State.updEng_updEng (s : State) (e : Eng) (f g : Engine → Engine) :
    (s.updEng e f).updEng e g = s.updEng e fun x => g (f x) := by
  rw [State.updEng, State.eng_updEng_self]
  simp only [State.updEng, Vector.setIfInBounds_setIfInBounds]

theorem State.updEng_congr {s : State} {e : Nat} {f g : Engine → Engine} (h : f (s.eng e) = g (s.eng e)) :
    s.updEng e f = s.updEng e g := by
  rw [State.updEng, h, State.updEng]

theorem State.updEng_id (s : State) (e : Eng) : (s.updEng e fun g => g) = s := by
  have h : s.engs.setIfInBounds e (s.eng e) = s.engs := by
    ext i hi
    by_cases hie : e.val = i <;> simp [hie, State.eng, Vector.getD, hi]
  rw [State.updEng, h]

@[simp] theorem State.eng_on (s : State) (f : Fld) (e : Nat) : (s.on f).eng e = s.eng e := by
  rw [State.eng, State.engs_on, State.eng]

/-! Frames -/

section
variable {e : Eng} {as : List Nat} {s t u : State}

theorem EngFrame.refl : EngFrame e as s s := ⟨rfl, fun _ _ => rfl, fun _ _ => rfl⟩

theorem EngFrame.trans (h : EngFrame e as s t) (h' : EngFrame e as t u) : EngFrame e as s u := by
  obtain ⟨hs, he, hr⟩ := h
  obtain ⟨hs', he', hr'⟩ := h'
  exact ⟨hs'.trans (congrArg (fun x : State => { x with engs := u.engs, csr := u.csr, fresh := u.fresh }) hs),
    fun k hk => (he' k hk).trans (he k hk), fun a ha => (hr' a ha).trans (hr a ha)⟩

theorem EngFrame.mono {bs : List Nat} (h : EngFrame e as s t) (hab : as ⊆ bs) : EngFrame e bs s t := by
  obtain ⟨hs, he, hr⟩ := h
  exact ⟨hs, he, fun a ha => hr a fun h => ha (hab h)⟩

theorem EngFrame.updEng (h : EngFrame e as s t) (f : Engine → Engine) : EngFrame e as s (t.updEng e f) :=
  h.trans ⟨rfl, fun _ hk => t.eng_updEng_ne e f hk, fun _ _ => rfl⟩

theorem EngFrame.put (h : EngFrame e as s t) (ht : t.regsOk) {f : Fld} (hf : f.addr ∈ as) (v : Nat) :
    EngFrame e as s (t.put f v) :=
  h.trans ⟨rfl, fun _ _ => rfl, fun a ha => State.reg_put_ne ht f v a fun h => ha (h ▸ hf)⟩

theorem EngFrame.noteEvent (h : EngFrame e as s t) (f : Fld) (v : Nat → Nat) : EngFrame e as s (t.noteEvent f v) :=
  h.trans ⟨rfl, fun _ _ => rfl, fun _ _ => rfl⟩

theorem EngFrame.on (h : EngFrame e as s t) (ht : t.regsOk) {f : Fld} (hf : f.addr ∈ as) : EngFrame e as s (t.on f) :=
  (h.noteEvent f fun _ => 1).put ht hf 1

theorem EngFrame.off (h : EngFrame e as s t) (ht : t.regsOk) {f : Fld} (hf : f.addr ∈ as) : EngFrame e as s (t.off f) :=
  h.put ht hf 0

theorem EngFrame.inc (h : EngFrame e as s t) (ht : t.regsOk) {f : Fld} (hf : f.addr ∈ as) : EngFrame e as s (t.inc f) :=
  (h.noteEvent f fun m => satAdd f.w m 1).put ht hf (satAdd f.w (t.rd f) 1)

/-- A field of a register outside the frame reads as before. -/
theorem EngFrame.rd (h : EngFrame e as s t) {f : Fld} (hf : f.addr ∉ as) : t.rd f = s.rd f := by
  obtain ⟨-, -, hr⟩ := h
  rw [State.rd, hr _ hf, State.rd]

theorem EngFrame.flag (h : EngFrame e as s t) {f : Fld} (hf : f.addr ∉ as) : t.flag f = s.flag f := by
  rw [State.flag, h.rd hf, State.flag]

end

/-! Issuing (R78) -/

theorem State.issue_of_ready {s : State} {e w : Nat} (hr : s.ready e w = true) (f : State → State) :
    s.issue e w f = f (s.advance e) := if_pos hr

@[simp] theorem State.eng_advance (s : State) (e : Eng) :
    (s.advance e).eng e = { s.eng e with pc := (s.eng e).pc + 4 } := State.eng_updEng_self _ e _

@[simp] theorem State.getG_advance (s : State) (e : Eng) (r : Fin 16) : (s.advance e).getG e r = s.getG e r := by
  simp [State.getG]

theorem State.regsOk_advance {s : State} (hs : s.regsOk) (e : Nat) : (s.advance e).regsOk := State.regsOk_put hs _ _

theorem State.rd_advance_pc {s : State} (hs : s.regsOk) (e : Nat) :
    (s.advance e).rd (ENG_PC_PC e) = (s.eng e).pc.toNat := by
  rw [State.advance, State.rd_updEng, State.rd_put_same hs _ _ (by simp)]
  exact Nat.mod_eq_of_lt (s.eng e).pc.isLt

/-- The address of the instruction issued last is that of the one just issued. -/
theorem State.lastPc_advance {s : State} (hs : s.regsOk) (e : Nat) : (s.advance e).lastPc e = (s.eng e).pc := by
  rw [State.lastPc, State.rd_advance_pc hs, BitVec.ofNat_toNat, BitVec.setWidth_eq]

theorem State.lastPc_updEng (s : State) (e k : Nat) (f : Engine → Engine) : (s.updEng e f).lastPc k = s.lastPc k := rfl

theorem engFrame_advance {s : State} (hs : s.regsOk) (e : Eng) : EngFrame e [(ENG_PC_PC e).addr] s (s.advance e) :=
  (EngFrame.refl.put hs (List.mem_singleton.2 rfl) (s.eng e).pc.toNat).updEng fun g => { g with pc := (s.eng e).pc + 4 }

theorem issued_advance {s : State} (hs : s.regsOk) (e : Eng) :
    Issued e { s.eng e with pc := (s.eng e).pc + 4 } s (s.advance e) :=
  ⟨engFrame_advance hs e, State.rd_advance_pc hs e, s.eng_advance e⟩

theorem issued_updEng {s : State} (hs : s.regsOk) (e : Eng) (f : Engine → Engine) :
    Issued e (f { s.eng e with pc := (s.eng e).pc + 4 }) s ((s.advance e).updEng e f) :=
  ⟨(engFrame_advance hs e).updEng f, State.rd_advance_pc hs e, by rw [State.eng_updEng_self, State.eng_advance]⟩

/-- A command that issues the word at the PC: the PC moves on, then the word's effect. -/
theorem exec_of_ready {s : State} {e w : Nat} (hr : s.ready e w = true) {c : Instr} {F : State → State}
    (hc : exec c s = .next (s.issue e w F)) {t : State} (hF : F (s.advance e) = t) : exec c s = .next t := by
  rw [hc, State.issue_of_ready hr, hF]

/-- A command that issues a word whose effect is an update of its engine. -/
theorem exec_issued {s : State} (hs : s.regsOk) {e : Eng} {w : Nat} (hr : s.ready e w = true) {c : Instr}
    {F : State → State} {f : Engine → Engine} (hc : exec c s = .next (s.issue e w F))
    (hF : F (s.advance e) = (s.advance e).updEng e f) :
    ∃ t, exec c s = .next t ∧ Issued e (f { s.eng e with pc := (s.eng e).pc + 4 }) s t :=
  ⟨_, exec_of_ready hr hc hF, issued_updEng hs e f⟩

/-- A command that issues a word without further effect. -/
theorem exec_issued_only {s : State} (hs : s.regsOk) {e : Eng} {w : Nat} (hr : s.ready e w = true) {c : Instr}
    {F : State → State} (hc : exec c s = .next (s.issue e w F)) (hF : F (s.advance e) = s.advance e) :
    ∃ t, exec c s = .next t ∧ Issued e { s.eng e with pc := (s.eng e).pc + 4 } s t :=
  ⟨_, exec_of_ready hr hc hF, issued_advance hs e⟩

end Sys2Proof.Machine
end

section
/-! SUPPORT and the certificate of RegisterArithmetic: general registers, flags, and what an ALU instruction does. -/
namespace Sys2Proof.Machine
open Csr

@[simp] theorem bv1_getElem_zero (b : Bool) : (bv1 b)[0] = b := by cases b <;> rfl

/-- The bits of the flags after an ALU result (R83): Z, N, C, and the generator carries as they were. -/
theorem aluFlags_getLsbD (f : BitVec 6) (r : W64) (c : Bool) (i : Nat) : (aluFlags f r c).getLsbD i =
    if i = 0 then decide (r = 0) else if i = 1 then r.msb else if i = 2 then c else f.getLsbD i := by
  simp only [aluFlags, BitVec.getLsbD_append, BitVec.getLsbD_extractLsb']
  match i with
  | 0 | 1 | 2 => simp
  | i + 3 =>
    by_cases hi : i < 3
    · simp [hi, Nat.add_comm 3 i]
    · simp [hi, BitVec.getLsbD_of_ge f (i + 3) (by omega)]

/-- G0 reads as zero (R68). -/
@[simp] theorem State.getG_zero (s : State) (e : Nat) : s.getG e 0 = 0 := rfl

/-- gd takes r: G0 discards the write (R68). -/
def Engine.take (g : Engine) (gd : Fin 16) (r : W64) : Engine := if gd = 0 then g else { g with g := g.g.set gd r }

theorem State.setG_eq (s : State) (e : Eng) (gd : Fin 16) (r : W64) :
    s.setG e gd r = s.updEng e fun g => g.take gd r := by
  by_cases h : gd = 0
  · simp only [State.setG, Engine.take, h, if_true, State.updEng_id]
  · simp only [State.setG, Engine.take, h, if_false]

/-- The engine after an ALU instruction: gd has taken r, the flags follow it. -/
def Engine.alu (g : Engine) (gd : Fin 16) (r : W64) (c : Bool) : Engine :=
  { g.take gd r with flags := aluFlags g.flags r c }

theorem State.alu_eq (s : State) (e : Eng) (gd : Fin 16) (r : W64) (c : Bool) :
    s.alu e gd r c = s.updEng e fun g => g.alu gd r c := by
  rw [State.alu, State.setFlags, State.setG_eq, State.updEng_updEng]
  exact State.updEng_congr rfl

/-- Taking a value changes the general registers alone. -/
theorem Engine.take_eq (g : Engine) (gd : Fin 16) (r : W64) : g.take gd r = { g with g := (g.take gd r).g } := by
  unfold Engine.take
  split <;> rfl

theorem Engine.alu_eq (g : Engine) (gd : Fin 16) (r : W64) (c : Bool) :
    g.alu gd r c = { g with g := (g.alu gd r c).g, flags := (g.alu gd r c).flags } := by
  simp only [Engine.alu]
  rw [Engine.take_eq]

/-- The general registers read back (R68). -/
theorem took_of_take {e : Eng} {gd : Fin 16} {r : W64} {s t : State}
    (h : (t.eng e).g = ((s.eng e).take gd r).g) : Took e gd r s t := by
  intro q
  by_cases hq : q = 0
  · simp [hq]
  by_cases hgd : gd = 0
  · simp [State.getG, hq, hgd, h, Engine.take]
  by_cases hqd : q = gd
  · simp [State.getG, hgd, hqd, h, Engine.take]
  · have hne : gd.val ≠ q.val := fun he => hqd (Fin.ext he.symm)
    simp [State.getG, hq, hqd, h, Engine.take, hgd, hne]

/-- Issuing a word whose effect is an ALU operation (R83). -/
theorem exec_aluDone {s : State} (hs : s.regsOk) {e : Eng} {w : Nat} (hr : s.ready e w = true) {c : Instr}
    {F : State → State} (hc : exec c s = .next (s.issue e w F)) {gd : Fin 16} {r : W64} {carry : Bool}
    (hF : F (s.advance e) = (s.advance e).alu e gd r carry) :
    ∃ t, exec c s = .next t ∧ AluDone e gd r carry s t := by
  obtain ⟨t, ht, hframe, hpc, heng⟩ := exec_issued hs hr hc (hF.trans (State.alu_eq _ e gd r carry))
  have hflags : (t.eng e).flags = aluFlags (s.eng e).flags r carry := by rw [heng]; rfl
  refine ⟨t, ht, ⟨hframe, hpc, ?_⟩, ?_, ?_, ?_, ?_, fun i hi => ?_⟩
  · rw [heng]
    exact Engine.alu_eq _ gd r carry
  · refine took_of_take ?_
    rw [heng, Engine.alu, Engine.take, Engine.take]
    split <;> rfl
  · rw [hflags]; exact aluFlags_getLsbD _ _ _ 0
  · rw [hflags]; exact aluFlags_getLsbD _ _ _ 1
  · rw [hflags]; exact aluFlags_getLsbD _ _ _ 2
  · rw [hflags, aluFlags_getLsbD, if_neg (by omega), if_neg (by omega), if_neg (by omega)]

/-- Settles O19: each instruction issues, and its effect is one ALU operation on the registers named. -/
theorem registerArithmetic : Obligations.RegisterArithmetic := by
  intro e gd ga gb s hs x y
  refine ⟨fun t => t.getG_zero e, ?_, ?_, ?_, ?_, ?_, ?_, ?_⟩
  all_goals
    intro hr
    exact exec_aluDone hs hr rfl (by simp only [State.getG_advance]; rfl)

end Sys2Proof.Machine
end

section
/-! SUPPORT. Pattern engines: what taking a trap changes (R105, R106). -/
namespace Sys2Proof.Machine
open Csr

/-! Fields that an event changes -/

theorem State.rd_on_same {s : State} (hs : s.regsOk) (f : Fld) (hf : f.lo + f.w ≤ 32) :
    (s.on f).rd f = 1 % 2 ^ f.w :=
  State.rd_put_same (s := s.noteEvent f fun _ => 1) hs f 1 hf

theorem State.rd_on_ne {s : State} (hs : s.regsOk) (f g : Fld) (hg : g.lo + g.w ≤ 32)
    (hd : g.addr ≠ f.addr ∨ g.lo + g.w ≤ f.lo ∨ f.lo + f.w ≤ g.lo) : (s.on f).rd g = s.rd g :=
  (State.rd_put_ne (s := s.noteEvent f fun _ => 1) hs f g 1 hg hd).trans (State.rd_noteEvent s f _ g)

theorem State.rd_inc_same {s : State} (hs : s.regsOk) (f : Fld) (hf : f.lo + f.w ≤ 32) :
    (s.inc f).rd f = min (s.rd f + 1) (2 ^ f.w - 1) := by
  rw [State.inc_eq, State.add_eq, State.rd_put_same (s := s.noteEvent f fun m => satAdd f.w m 1) hs _ _ hf, satAdd]
  have := Nat.two_pow_pos f.w
  exact Nat.mod_eq_of_lt (by omega)

theorem State.rd_inc_ne {s : State} (hs : s.regsOk) (f g : Fld) (hg : g.lo + g.w ≤ 32)
    (hd : g.addr ≠ f.addr ∨ g.lo + g.w ≤ f.lo ∨ f.lo + f.w ≤ g.lo) : (s.inc f).rd g = s.rd g :=
  (State.rd_put_ne (s := s.noteEvent f fun m => satAdd f.w m 1) hs f g (satAdd f.w (s.rd f) 1) hg hd).trans
    (State.rd_noteEvent s f _ g)

/-! TRAPCAUSE (R105) -/

theorem TrapCause.word_toNat (c : TrapCause) :
    c.word.toNat = c.code % 2 ^ 8 + c.detail % 2 ^ 16 * 2 ^ 8 + c.addr % 2 ^ 36 * 2 ^ 24 := by
  rw [TrapCause.word, BitVec.toNat_ofNat, Nat.mod_eq_of_lt]
  omega

theorem TrapCause.bits_word_code (c : TrapCause) : bits c.word.toNat 0 8 = c.code % 2 ^ 8 := by
  rw [bits, c.word_toNat, Nat.shiftRight_eq_div_pow]
  omega

theorem TrapCause.bits_word_detail (c : TrapCause) : bits c.word.toNat 8 16 = c.detail % 2 ^ 16 := by
  rw [bits, c.word_toNat, Nat.shiftRight_eq_div_pow]
  omega

theorem TrapCause.bits_word_addr (c : TrapCause) : bits c.word.toNat 24 36 = c.addr % 2 ^ 36 := by
  rw [bits, c.word_toNat, Nat.shiftRight_eq_div_pow]
  omega

theorem TrapCause.bits_word_top (c : TrapCause) : bits c.word.toNat 60 4 = 0 := by
  rw [bits, c.word_toNat, Nat.shiftRight_eq_div_pow]
  omega

/-! Noting a trap (R106) -/

/-- The engine has noted a trap. -/
def Engine.noted (g : Engine) (c : TrapCause) (tpc : BitVec 24) : Engine :=
  { g with trapcause := c.word, trappc := tpc }

theorem State.trapNote_eq (s : State) (e : Nat) (c : TrapCause) (tpc : BitVec 24) :
    s.trapNote e c tpc = ((((s.updEng e fun g => g.noted c tpc).put (ENG_TRAP_LO_CAUSE e) (c.word.toNat % 2 ^ 32)).put
      (ENG_TRAP_HI_CAUSE e) (c.word.toNat / 2 ^ 32)).put (ENG_TRAPPC_TRAPPC e) tpc.toNat).inc (ENG_COUNT_TRAPS e) := rfl

@[simp] theorem State.eng_trapNote (s : State) (e : Eng) (c : TrapCause) (tpc : BitVec 24) :
    (s.trapNote e c tpc).eng e = (s.eng e).noted c tpc := s.eng_updEng_self e fun g => g.noted c tpc

/-- The registers that show a trap cause, and the count of traps. -/
def trapNoteRegs (e : Eng) : List Nat :=
  [(ENG_TRAP_LO_CAUSE e).addr, (ENG_TRAP_HI_CAUSE e).addr, (ENG_TRAPPC_TRAPPC e).addr, (ENG_COUNT_TRAPS e).addr]

/-- Noting a trap changes its engine and those registers: they show TRAPCAUSE and TRAPPC, and the trap counts (R106). -/
theorem State.trapNote_spec {s : State} (hs : s.regsOk) (e : Eng) (c : TrapCause) (tpc : BitVec 24) :
    let t := s.trapNote e c tpc
    EngFrame e (trapNoteRegs e) s t ∧ t.regsOk ∧ t.rd (ENG_TRAP_LO_CAUSE e) = bits c.word.toNat 0 32 ∧
      t.rd (ENG_TRAP_HI_CAUSE e) = bits c.word.toNat 32 32 ∧ t.rd (ENG_TRAPPC_TRAPPC e) = tpc.toNat ∧
      t.rd (ENG_COUNT_TRAPS e) = min (s.rd (ENG_COUNT_TRAPS e) + 1) 65535 := by
  have h0 : (s.updEng e fun g => g.noted c tpc).regsOk := hs
  have h1 := State.regsOk_put h0 (ENG_TRAP_LO_CAUSE e) (c.word.toNat % 2 ^ 32)
  have h2 := State.regsOk_put h1 (ENG_TRAP_HI_CAUSE e) (c.word.toNat / 2 ^ 32)
  have h3 := State.regsOk_put h2 (ENG_TRAPPC_TRAPPC e) tpc.toNat
  rw [State.trapNote_eq]
  refine ⟨?_, State.regsOk_add h3 _ _, ?_, ?_, ?_, ?_⟩
  · exact ((((EngFrame.refl.updEng _).put h0 (by simp [trapNoteRegs]) _).put h1 (by simp [trapNoteRegs]) _).put h2
      (by simp [trapNoteRegs]) _).inc h3 (by simp [trapNoteRegs])
  · rw [State.rd_inc_ne h3 _ _ (by simp) (by simp), State.rd_put_ne h2 _ _ _ (by simp) (by simp),
      State.rd_put_ne h1 _ _ _ (by simp) (by simp), State.rd_put_same h0 _ _ (by simp)]
    simp [bits]
  · rw [State.rd_inc_ne h3 _ _ (by simp) (by simp), State.rd_put_ne h2 _ _ _ (by simp) (by simp),
      State.rd_put_same h1 _ _ (by simp)]
    simp [bits, Nat.shiftRight_eq_div_pow]
  · rw [State.rd_inc_ne h3 _ _ (by simp) (by simp), State.rd_put_same h2 _ _ (by simp)]
    exact Nat.mod_eq_of_lt tpc.isLt
  · rw [State.rd_inc_same h3 _ (by simp), State.rd_put_ne h2 _ _ _ (by simp) (by simp),
      State.rd_put_ne h1 _ _ _ (by simp) (by simp), State.rd_put_ne h0 _ _ _ (by simp) (by simp), State.rd_updEng]
    simp

/-! Taking a trap (R106) -/

theorem State.canTrap_advance {s : State} (hs : s.regsOk) {e : Eng} (h : s.canTrap e) : (s.advance e).canTrap e := by
  obtain ⟨hflag, hentry, hasync, hstop⟩ := h
  exact ⟨by rw [(engFrame_advance hs e).flag (by simp), hflag], by rwa [State.eng_advance], by rwa [State.eng_advance],
    by rwa [State.eng_advance]⟩

/-- The engine enters its trap handler. -/
def Engine.entered (g : Engine) : Engine := { g with pc := BitVec.ofNat 24 g.desc.trapEntry, wait := .none }

/-- Without a stop that waits, an instruction boundary has nothing to begin. -/
theorem State.stopPending_of_none {s : State} {e : Nat} (h : (s.eng e).stopReq = none) : s.stopPending e = s := by
  unfold State.stopPending
  rw [h]
  split <;> simp_all

theorem State.trapTake_eq (s : State) (e : Nat) (c : TrapCause) (tpc : BitVec 24) : s.trapTake e c tpc =
    if (s.trapNote e c tpc).flag (ENG_STATE_INTRAP e) || ((s.trapNote e c tpc).eng e).desc.trapEntry = 0
    then (s.trapNote e c tpc).trapHalt e
    else if ((((s.trapNote e c tpc).updEng e Engine.entered).on (ENG_STATE_INTRAP e)).eng e).async.isEmpty
      then (((s.trapNote e c tpc).updEng e Engine.entered).on (ENG_STATE_INTRAP e)).stopPending e
      else (((s.trapNote e c tpc).updEng e Engine.entered).on (ENG_STATE_INTRAP e)).trapHalt e := rfl

/-- Where a handler exists and none runs, and nothing else waits for the boundary, the trap is noted and the handler
entered. -/
theorem State.trapTake_of_canTrap {s : State} (hs : s.regsOk) {e : Eng} (h : s.canTrap e) (c : TrapCause)
    (tpc : BitVec 24) : s.trapTake e c tpc =
      ((s.trapNote e c tpc).updEng e Engine.entered).on (ENG_STATE_INTRAP e) := by
  obtain ⟨hflag, hentry, hasync, hstop⟩ := h
  obtain ⟨hframe, -⟩ := State.trapNote_spec hs e c tpc
  have hflag' : (s.trapNote e c tpc).flag (ENG_STATE_INTRAP e) = false := by
    rw [hframe.flag (by simp [trapNoteRegs]), hflag]
  rw [State.trapTake_eq, if_neg (by simpa [Engine.noted, hflag'] using hentry)]
  rw [if_pos (by simp [Engine.entered, Engine.noted, hasync]), State.stopPending_of_none]
  simpa [Engine.entered, Engine.noted] using hstop

/-- Taking a trap in a state u that engine e reached from s by moving its PC, beginning a wait or ending one (R105,
R106). -/
theorem trapped_trapTake {s u : State} {e : Eng} (hu : u.regsOk) (hf : EngFrame e [(ENG_PC_PC e).addr] s u)
    (hg : ∃ pc wait, u.eng e = { s.eng e with pc := pc, wait := wait }) (h : u.canTrap e) {code detail addr : Nat}
    (hcode : code < 2 ^ 8) (hdetail : detail < 2 ^ 16) (haddr : addr < 2 ^ 36) (tpc : BitVec 24) :
    Trapped e code detail addr tpc s (u.trapTake e ⟨code, detail, addr⟩ tpc) := by
  obtain ⟨pc, wait, hg⟩ := hg
  rw [State.trapTake_of_canTrap hu h]
  set c : TrapCause := ⟨code, detail, addr⟩
  obtain ⟨hnote, hv, hlo, hhi, hpc, hcount⟩ := State.trapNote_spec hu e c tpc
  have hw : ((u.trapNote e c tpc).updEng e Engine.entered).regsOk := hv
  have hstate : (u.trapNote e c tpc).rd (ENG_STATE_STATE e) = s.rd (ENG_STATE_STATE e) := by
    rw [hnote.rd (by simp [trapNoteRegs]), hf.rd (by simp)]
  refine ⟨?_, ⟨c.word, ?_, ?_, ?_, c.bits_word_top, ?_, ?_, ?_⟩, ?_, ?_, ?_, ?_⟩
  · have hnoted : EngFrame e (trapRegs e) s (u.trapNote e c tpc) :=
      (hf.mono (by simp [trapRegs])).trans (hnote.mono (by simp [trapRegs, trapNoteRegs]))
    exact (hnoted.updEng Engine.entered).on hw (by simp [trapRegs])
  · rw [c.bits_word_code, Nat.mod_eq_of_lt hcode]
  · rw [c.bits_word_detail, Nat.mod_eq_of_lt hdetail]
  · rw [c.bits_word_addr, Nat.mod_eq_of_lt haddr]
  · rw [State.eng_on, State.eng_updEng_self, State.eng_trapNote, hg]
    rfl
  · rw [State.rd_on_ne hw _ _ (by simp) (by simp), State.rd_updEng, hlo]
  · rw [State.rd_on_ne hw _ _ (by simp) (by simp), State.rd_updEng, hhi]
  · rw [State.rd_on_ne hw _ _ (by simp) (by simp), State.rd_updEng, hpc]
  · rw [State.flag, State.rd_on_same hw _ (by simp)]
    rfl
  · rw [State.rd_on_ne hw _ _ (by simp) (by simp), State.rd_updEng, hstate]
  · rw [State.rd_on_ne hw _ _ (by simp) (by simp), State.rd_updEng, hcount, hf.rd (by simp)]

/-- Issuing a word whose effect is a trap at its own address (R105). -/
theorem exec_trapped {s : State} (hs : s.regsOk) {e : Eng} {w : Nat} (hr : s.ready e w = true) (h : s.canTrap e)
    {c : Instr} {F : State → State} (hc : exec c s = .next (s.issue e w F)) {code detail addr : Nat}
    (hF : F (s.advance e) = (s.advance e).trapHere e code detail addr)
    (hcode : code < 2 ^ 8) (hdetail : detail < 2 ^ 16) (haddr : addr < 2 ^ 36) :
    ∃ t, exec c s = .next t ∧ Trapped e code detail addr (s.eng e).pc s t :=
  ⟨_, exec_of_ready hr hc hF, by
    rw [State.trapHere, State.lastPc_advance hs]
    exact trapped_trapTake (State.regsOk_advance hs e) (engFrame_advance hs e) ⟨_, _, s.eng_advance e⟩
      (State.canTrap_advance hs h) hcode hdetail haddr _⟩

end Sys2Proof.Machine
end

section
/-! SUPPORT and the certificate of LoopsAndBranches: what each instruction that moves the PC does (R82, R84, R85, R93,
R94). -/
namespace Sys2Proof.Machine
open Csr

/-- LOOP sets LCn and records the loop's start; a count of 0 goes on behind the ENDL (R93). -/
theorem exec_loop {s : State} (hs : s.regsOk) {e : Eng} {lc : Fin 4} {ga : Fin 16} {off : BitVec 14}
    (hr : s.ready e (fmtA 31 lc ga 0 off.toNat) = true) (hoff : off ≠ 0) :
    let n : Word := (s.getG e ga).setWidth 32
    let next := (s.eng e).pc + 4
    ∃ t, exec (.loop e lc ga off) s = .next t ∧
      Issued e { s.eng e with pc := if n = 0 then (s.eng e).pc + off.setWidth 24 * 4 + 4 else next,
                              lc := (s.eng e).lc.set lc n, lstart := (s.eng e).lstart.set lc next } s t := by
  intro n next
  by_cases hn : n = 0
  · rw [if_pos hn]
    refine exec_issued hs hr (f := fun g => { g with
      lc := g.lc.set lc n, lstart := g.lstart.set lc g.pc, pc := (s.eng e).pc + off.setWidth 24 * 4 + 4 }) rfl ?_
    simp only [hoff, if_false, State.getG_advance]
    rw [if_pos hn, State.jump, State.updEng_updEng, State.lastPc_updEng, State.lastPc_advance hs]
  · rw [if_neg hn]
    refine exec_issued hs hr (f := fun g => { g with lc := g.lc.set lc n, lstart := g.lstart.set lc g.pc }) rfl ?_
    simp only [hoff, if_false, State.getG_advance]
    rw [if_neg hn]

/-- ENDL counts LCn down and goes back to the loop's start until the count is used up (R94). -/
theorem exec_endl {s : State} (hs : s.regsOk) {e : Eng} {lc : Fin 4}
    (hr : s.ready e (fmtA 32 lc 0 0 0) = true) :
    let g := s.eng e
    let next := g.pc + 4
    ∃ t, exec (.endl e lc) s = .next t ∧ Issued e (if g.lc[lc] = 0 then { g with pc := next }
      else { g with lc := g.lc.set lc (g.lc[lc] - 1), pc := if g.lc[lc] = 1 then next else g.lstart[lc] }) s t := by
  intro g next
  have hlc : ((s.advance e).eng e).lc[lc] = g.lc[lc] := by simp [g]
  by_cases h0 : g.lc[lc] = 0
  · rw [if_pos h0]
    exact exec_issued_only hs hr rfl (by simp only [hlc]; rw [if_pos h0])
  rw [if_neg h0]
  by_cases h1 : g.lc[lc] = 1
  · rw [if_pos h1]
    refine exec_issued hs hr (f := fun x => { x with lc := x.lc.set lc (g.lc[lc] - 1) }) rfl ?_
    simp only [hlc]
    rw [if_neg h0, if_pos h1]
  · rw [if_neg h1]
    refine exec_issued hs hr (f := fun x => { x with lc := x.lc.set lc (g.lc[lc] - 1), pc := g.lstart[lc] }) rfl ?_
    simp only [hlc]
    rw [if_neg h0, if_neg h1, State.jump, State.updEng_updEng]
    simp only [State.eng_updEng_self, State.eng_advance]
    rfl

/-- BR: a branch taken goes to its target, one not taken to the next instruction (R82, R84). -/
theorem exec_br {s : State} (hs : s.regsOk) {e : Eng} {cond : Fin 13} {rel : BitVec 22}
    (hr : s.ready e (fmtC 39 cond rel.toNat) = true) :
    let g := s.eng e
    ∃ t, exec (.br e cond rel) s = .next t ∧
      Issued e { g with pc := if condHolds g.flags cond then branchPc g.pc rel else g.pc + 4 } s t := by
  intro g
  have hflags : ((s.advance e).eng e).flags = g.flags := by simp [g]
  by_cases hc : condHolds g.flags cond = true
  · rw [if_pos hc]
    refine exec_issued hs hr (f := fun x => { x with pc := branchPc g.pc rel }) rfl ?_
    simp only [hflags, hc, if_true, State.lastPc_advance hs]
    rfl
  · rw [if_neg hc]
    exact exec_issued_only hs hr rfl (by simp only [hflags]; rw [if_neg hc])

section
variable {s : State} (hs : s.regsOk) {e : Eng} {cond : Fin 13} {rel : BitVec 22}
  (hr : s.ready e (fmtC 40 cond rel.toNat) = true)
include hs hr

theorem exec_call_not_taken (hc : condHolds (s.eng e).flags cond = false) :
    ∃ t, exec (.call e cond rel) s = .next t ∧ Issued e { s.eng e with pc := (s.eng e).pc + 4 } s t :=
  exec_issued_only hs hr rfl (by simp only [State.eng_advance, hc]; rfl)

/-- A CALL taken pushes the next instruction's address (R85). -/
theorem exec_call_taken (hc : condHolds (s.eng e).flags cond = true) (hlen : (s.eng e).stack.length < 16) :
    ∃ t, exec (.call e cond rel) s = .next t ∧
      Issued e { s.eng e with pc := branchPc (s.eng e).pc rel,
                              stack := ((s.eng e).pc + 4) :: (s.eng e).stack } s t := by
  refine exec_issued hs hr (f := fun g => { g with stack := g.pc :: g.stack, pc := branchPc (s.eng e).pc rel }) rfl ?_
  simp only [State.eng_advance, hc, if_true]
  rw [if_neg (by omega), State.jump, State.updEng_updEng, State.lastPc_advance hs]

/-- A CALL taken on a full stack traps 0x07 and pushes nothing (R85). -/
theorem exec_call_full (hc : condHolds (s.eng e).flags cond = true) (hlen : 16 ≤ (s.eng e).stack.length)
    (ht : s.canTrap e) : ∃ t, exec (.call e cond rel) s = .next t ∧ Trapped e 7 0 0 (s.eng e).pc s t :=
  exec_trapped hs hr ht rfl (by simp only [State.eng_advance, hc, if_true]; rw [if_pos hlen])
    (by norm_num) (by norm_num) (by norm_num)

end

/-- RET takes the address that the last CALL pushed (R85). -/
theorem exec_ret_pops {s : State} (hs : s.regsOk) {e : Eng} (hr : s.ready e (fmtA 41 0 0 0 0) = true)
    {a : BitVec 24} {r : List (BitVec 24)} (hstack : (s.eng e).stack = a :: r) :
    ∃ t, exec (.ret e false) s = .next t ∧ Issued e { s.eng e with pc := a, stack := r } s t := by
  refine exec_issued hs hr (f := fun g => { g with stack := r, pc := a }) rfl ?_
  simp only [State.eng_advance, hstack]
  rfl

/-- RET on an empty stack traps 0x07 (R85). -/
theorem exec_ret_empty {s : State} (hs : s.regsOk) {e : Eng} (hr : s.ready e (fmtA 41 0 0 0 0) = true)
    (hstack : (s.eng e).stack = []) (ht : s.canTrap e) :
    ∃ t, exec (.ret e false) s = .next t ∧ Trapped e 7 1 0 (s.eng e).pc s t :=
  exec_trapped hs hr ht rfl (by simp only [State.eng_advance, hstack]; rfl) (by norm_num) (by norm_num) (by norm_num)

/-- RET from a trap outside a handler is illegal (R83). -/
theorem exec_ret_fromTrap_illegal {s : State} (hs : s.regsOk) {e : Eng} (hr : s.ready e (fmtA 41 0 0 0 1) = true)
    (hin : s.flag (ENG_STATE_INTRAP e) = false) (ht : s.canTrap e) :
    ∃ t, exec (.ret e true) s = .next t ∧ Trapped e 2 41 0 (s.eng e).pc s t := by
  refine exec_trapped hs hr ht rfl ?_ (by norm_num) (by norm_num) (by norm_num)
  have hin' : (s.advance e).flag (ENG_STATE_INTRAP e) = false := by rw [(engFrame_advance hs e).flag (by simp), hin]
  simp only [hin', if_true]
  rfl

/-- RET from a trap goes to TRAPPC and leaves the handler (R85). -/
theorem exec_ret_fromTrap {s : State} (hs : s.regsOk) {e : Eng} (hr : s.ready e (fmtA 41 0 0 0 1) = true)
    (hin : s.flag (ENG_STATE_INTRAP e) = true) :
    ∃ t, exec (.ret e true) s = .next t ∧ EngFrame e [(ENG_PC_PC e).addr, (ENG_STATE_STATE e).addr] s t ∧
      t.eng e = { s.eng e with pc := (s.eng e).trappc } ∧ t.flag (ENG_STATE_INTRAP e) = false ∧
      t.rd (ENG_STATE_STATE e) = s.rd (ENG_STATE_STATE e) := by
  have hin' : (s.advance e).flag (ENG_STATE_INTRAP e) = true := by rw [(engFrame_advance hs e).flag (by simp), hin]
  have hv := State.regsOk_advance hs e
  refine ⟨((s.advance e).jump e (s.eng e).trappc).off (ENG_STATE_INTRAP e),
    exec_of_ready hr rfl (by simp only [hin', if_true, State.eng_advance]), ?_, ?_, ?_, ?_⟩
  · exact (((engFrame_advance hs e).mono (by simp)).updEng _).off hv (by simp)
  · rw [State.off_eq, State.eng_put, State.jump, State.eng_updEng_self, State.eng_advance]
  · rw [State.off_eq, State.flag, State.rd_put_same (s := (s.advance e).jump e (s.eng e).trappc) hv _ _ (by simp)]
    rfl
  · rw [State.off_eq, State.rd_put_ne (s := (s.advance e).jump e (s.eng e).trappc) hv _ _ _ (by simp) (by simp),
      State.jump, State.rd_updEng, (engFrame_advance hs e).rd (by simp)]

/-- Settles O27: each instruction's rule above, one for each case of its condition, count or stack. -/
theorem loopsAndBranches : Obligations.LoopsAndBranches := by
  intro e lc ga off cond rel s hs g next n target f holds
  have hholds : condHolds g.flags cond = holds := rfl
  refine ⟨fun hr hoff => exec_loop hs hr hoff, fun hr => exec_endl hs hr, fun hr => ?_, fun hr => ?_, fun hr => ?_,
    fun hr hin ht => exec_ret_fromTrap_illegal hs hr hin ht, fun hr hin => exec_ret_fromTrap hs hr hin⟩
  · rw [← hholds]
    exact exec_br hs hr
  · rw [← hholds]
    exact ⟨fun hc => exec_call_not_taken hs hr hc, fun hc hlen => exec_call_taken hs hr hc hlen,
      fun hc hlen ht => exec_call_full hs hr hc hlen ht⟩
  · exact ⟨fun a r hstack => exec_ret_pops hs hr hstack, fun hstack ht => exec_ret_empty hs hr hstack ht⟩

end Sys2Proof.Machine
end

section
/-! SUPPORT and the certificate of Generators: what each generator instruction makes of its engine (R71 to R76, R83). -/
namespace Sys2Proof.Machine
open Csr

/-! The address generators (R74) -/

/-- A generator that steps if b: its value moves on, or takes WRAP at the limit; the carry says which. -/
theorem Gen.stepped_if (x : Gen) (b : Bool) : (if b then x.stepped else (x, false)) =
    ({ x with val := if b then (if decide (x.val = x.lim) then x.wrap else x.val + x.step) else x.val },
      b && decide (x.val = x.lim)) := by
  cases b
  · rfl
  · by_cases h : x.val = x.lim <;> simp [Gen.stepped, h]

/-- Does an increment in mode m step AX, does it step AY (R74)? -/
def Engine.stepsX (g : Engine) (m : Nat) : Bool :=
  decide (m = 0) || decide (m = 2) || (decide (m = 3) && decide (g.ay.val = g.ay.lim))
def Engine.stepsY (g : Engine) (m : Nat) : Bool :=
  decide (m = 1) || decide (m = 3) || (decide (m = 2) && decide (g.ax.val = g.ax.lim))

/-- Does it step AZ? -/
def Engine.stepsZ (g : Engine) (mode : Nat) : Bool :=
  bit mode 2 && (if mode % 4 = 0 ∨ mode % 4 = 3 then g.stepsX (mode % 4) && decide (g.ax.val = g.ax.lim)
    else g.stepsY (mode % 4) && decide (g.ay.val = g.ay.lim))

/-- One increment (R71, R74): which generators step, and what each then holds. -/
theorem Engine.incr_eq (g : Engine) (mode : Nat) :
    let xc := decide (g.ax.val = g.ax.lim)
    let yc := decide (g.ay.val = g.ay.lim)
    let xs := g.stepsX (mode % 4)
    let ys := g.stepsY (mode % 4)
    let zs := g.stepsZ mode
    let zc := zs && decide (g.az = g.azLim)
    g.incr mode = { g with
      ax := { g.ax with val := if xs then (if xc then g.ax.wrap else g.ax.val + g.ax.step) else g.ax.val }
      ay := { g.ay with val := if ys then (if yc then g.ay.wrap else g.ay.val + g.ay.step) else g.ay.val }
      az := if zs then (if zc then 0 else g.az + 1) else g.az
      flags := genFlags g.flags (xs && xc) (ys && yc) zc } := by
  have hm : mode % 4 = 0 ∨ mode % 4 = 1 ∨ mode % 4 = 2 ∨ mode % 4 = 3 := by omega
  have hx := g.ax.stepped_if true
  have hy := g.ay.stepped_if true
  simp only [if_true, Bool.true_and] at hx hy
  simp only [Engine.incr, Engine.stepsX, Engine.stepsY, Engine.stepsZ, hx, hy]
  rcases hm with hm | hm | hm | hm
  · simp [hm]
  · simp [hm]
  · by_cases h : g.ax.val = g.ax.lim <;> simp [hm, h]
  · by_cases h : g.ay.val = g.ay.lim <;> simp [hm, h]

/-- The bits of the flags after an increment (R74): Z, N and C as they were, then the carries. -/
theorem genFlags_getLsbD (f : BitVec 6) (xc yc zc : Bool) (i : Nat) : (genFlags f xc yc zc).getLsbD i =
    if i < 3 then f.getLsbD i else if i = 3 then xc else if i = 4 then yc else if i = 5 then zc else false := by
  simp only [genFlags, BitVec.getLsbD_append, BitVec.getLsbD_extractLsb']
  match i with
  | 0 | 1 | 2 | 3 | 4 | 5 => simp
  | i + 6 => simp

/-! The data generator (R72, R76) -/

/-- One LFSR step shifts up by one and feeds bits 63, 62, 60 and 59 back (R76). -/
theorem lfsrStep_getLsbD (d : W64) (i : Nat) (hi : i < 64) : (lfsrStep d).getLsbD i =
    if i = 0 then d.getLsbD 63 ^^ d.getLsbD 62 ^^ d.getLsbD 60 ^^ d.getLsbD 59 else d.getLsbD (i - 1) := by
  rw [lfsrStep, BitVec.getLsbD_or, BitVec.getLsbD_shiftLeft, BitVec.getLsbD_setWidth]
  cases i with
  | zero => simp
  | succ i => simp [hi]

/-- A field put into DGCFG: its bits are the value's, the others stay. -/
theorem Engine.putDgcfg_getLsbD (g : Engine) (lo w v i : Nat) (h : lo + w ≤ 13) :
    (g.putDgcfg lo w v).dgcfg.getLsbD i =
      if lo ≤ i ∧ i < lo + w then v.testBit (i - lo) else g.dgcfg.getLsbD i := by
  rw [Engine.putDgcfg, BitVec.getLsbD_ofNat, testBit_putBits]
  split
  · simp [show i < 13 by omega]
  · rw [BitVec.testBit_toNat]
    by_cases hi : i < 13
    · simp [hi]
    · simp [hi, BitVec.getLsbD_of_ge g.dgcfg i (by omega)]

/-! Scramble tables (R69, R75) -/

theorem upFrom_eq_range' (lo n : Nat) : upFrom lo n = List.range' lo n := by
  induction n generalizing lo with
  | zero => rfl
  | succ n ih => rw [upFrom, ih, List.range'_succ]

theorem State.wf_eng {s : State} (h : s.sramWf = true) (e : Eng) : (s.eng e).wf = true := by
  rw [State.sramWf, List.all_eq_true] at h
  exact h e (by simp [upFrom_eq_range'])

/-- A read of local SRAM that finds no error goes through. -/
theorem State.sramReads_nil (s : State) (e a n : Nat) (f : State → State) : s.sramReads e a n [] f = f s := by
  have hscan : sramScan [] n = (0, none) := by simp [sramScan]
  simp only [State.sramReads, hscan, if_true]

/-- Table t after it was loaded: entry i holds the local byte i places on; the other table is as it was (R83). -/
theorem Engine.loadScr_scrAt {g : Engine} (h : g.wf = true) (t a i : Nat) (hi : i < 256) :
    (g.loadScr t a).scrAt t i = g.byte (a + i) ∧ ∀ t', t' ≠ t → (g.loadScr t a).scrAt t' i = g.scrAt t' i := by
  rw [Engine.wf, Bool.and_eq_true] at h
  obtain ⟨-, hscr⟩ := h
  have hlen : ((upFrom 0 256).map fun i => g.byte (a + i)).length = 256 := by simp [upFrom_eq_range']
  constructor
  · rw [Engine.scrAt, Engine.loadScr, cget_cputAll_inside _ hscr _ _ (by omega)]
    simp [upFrom_eq_range']
  · intro t' ht
    rw [Engine.scrAt, Engine.loadScr, cget_cputAll_outside _ hscr _ _ (by omega), Engine.scrAt]

theorem Engine.loadScr_eq (g : Engine) (t a : Nat) : g.loadScr t a = { g with scr := (g.loadScr t a).scr } := by
  rw [Engine.loadScr]

/-! Generator registers by their ASET target (R83) -/

/-- The engine once the generator register that target k names holds v. -/
def Engine.setTarget (g : Engine) (v : W64) : Nat → Engine
  | 0 => { g with ax := { g.ax with val := v.setWidth 24 } }
  | 1 => { g with ax := { g.ax with lim := v.setWidth 24 } }
  | 2 => { g with ax := { g.ax with step := v.setWidth 24 } }
  | 3 => { g with ax := { g.ax with wrap := v.setWidth 24 } }
  | 4 => { g with ay := { g.ay with val := v.setWidth 24 } }
  | 5 => { g with ay := { g.ay with lim := v.setWidth 24 } }
  | 6 => { g with ay := { g.ay with step := v.setWidth 24 } }
  | 7 => { g with ay := { g.ay with wrap := v.setWidth 24 } }
  | 8 => { g with az := v.setWidth 8 }
  | 9 => { g with azLim := v.setWidth 8 }
  | _ => { g with acfg := v.setWidth 15 }

theorem Engine.setTarget_pc (g : Engine) (v : W64) (k : Nat) (pc : BitVec 24) :
    Engine.setTarget { g with pc := pc } v k = { g.setTarget v k with pc := pc } := by
  unfold Engine.setTarget
  split <;> rfl

/-- The state register of a target takes the value; for ACFG the value must be legal (R71). -/
theorem Engine.srWrite_target (g : Engine) (v : W64) {k : Nat} (hk : k < 11) (hv : k = 10 → acfgOk v = true) :
    (asetSrn k).bind (fun n => g.srWrite n v) = some (g.setTarget v k) := by
  obtain rfl | hne := eq_or_ne k 10
  · exact if_pos (hv rfl)
  · have hk' : k < 10 := by omega
    clear hv hk hne
    interval_cases k <;> rfl

/-! The instructions -/

section
variable {s : State} (hs : s.regsOk) {e : Eng}
include hs

/-- ASET writes the generator register its target names (R71, R83). -/
theorem exec_aset {gd ga : Fin 16} (hr : s.ready e (fmtA 21 gd ga 0 0) = true) (hgd : gd.val < 11)
    (hv : gd.val = 10 → acfgOk (s.getG e ga) = true) :
    ∃ t, exec (.aset e gd ga) s = .next t ∧
      Issued e (Engine.setTarget { s.eng e with pc := (s.eng e).pc + 4 } (s.getG e ga) gd) s t := by
  refine exec_issued hs hr (f := fun _ => Engine.setTarget { s.eng e with pc := (s.eng e).pc + 4 } (s.getG e ga) gd)
    rfl ?_
  simp only [State.getG_advance, State.eng_advance, Engine.srWrite_target _ _ hgd hv]

/-- AINC (R74). -/
theorem exec_ainc {mode : BitVec 3} (hr : s.ready e (fmtA 22 0 0 0 mode.toNat) = true) :
    ∃ t, exec (.ainc e mode) s = .next t ∧
      Issued e (Engine.incr { s.eng e with pc := (s.eng e).pc + 4 } mode.toNat) s t :=
  exec_issued hs hr (f := fun g => g.incr mode.toNat) rfl rfl

/-- ASCR without an error in local SRAM (R83; any address, modulo 65 536, log entry 185). -/
theorem exec_ascr {gd ga : Fin 16} (hr : s.ready e (fmtA 23 gd ga 0 0) = true) (hgd : gd.val ≤ 1) :
    ∃ t, exec (.ascr e gd ga []) s = .next t ∧
      Issued e (Engine.loadScr { s.eng e with pc := (s.eng e).pc + 4 } gd ((s.getG e ga).toNat % 65536)) s t := by
  refine exec_issued hs hr (f := fun g => g.loadScr gd ((s.getG e ga).toNat % 65536)) rfl ?_
  simp only [State.sramReads_nil, State.getG_advance]
  rw [if_neg (by omega)]

theorem exec_dgset {ga : Fin 16} (hr : s.ready e (fmtA 24 0 ga 0 0) = true) :
    ∃ t, exec (.dgset e ga) s = .next t ∧
      Issued e { s.eng e with pc := (s.eng e).pc + 4, dg := s.getG e ga } s t := by
  refine exec_issued hs hr (f := fun g => { g with dg := s.getG e ga }) rfl ?_
  simp only [State.getG_advance]

/-- DGINV (R83). -/
theorem exec_dginv {op : Fin 3} (hr : s.ready e (fmtA 25 0 0 0 op.val) = true) :
    ∃ t, exec (.dginv e op) s = .next t ∧
      Issued e (Engine.putDgcfg { s.eng e with pc := (s.eng e).pc + 4 } 0 1
        (if op.val = 2 then b2n (! (s.eng e).dgcfg.getLsbD 0) else op.val)) s t :=
  exec_issued hs hr (f := fun g => g.putDgcfg 0 1 (if op.val = 2 then b2n (! g.dgcfg.getLsbD 0) else op.val)) rfl rfl

/-- DGCHK (R72, R83). -/
theorem exec_dgchk {x y : BitVec 5} {chk : Bool}
    (hr : s.ready e (fmtB 26 0 0 (x.toNat + y.toNat * 32 + (if chk then 1024 else 0))) = true)
    (hx : x.toNat ≤ 23) (hy : y.toNat ≤ 23) : ∃ t, exec (.dgchk e x y chk) s = .next t ∧
      Issued e (((Engine.putDgcfg { s.eng e with pc := (s.eng e).pc + 4 } 1 1 (b2n chk)).putDgcfg 2 5 x.toNat).putDgcfg
        7 5 y.toNat) s t := by
  have hw : (if chk then 1024 else 0) = bitN chk * 2 ^ 10 := by cases chk <;> rfl
  rw [hw] at hr
  refine exec_issued hs hr
    (f := fun g => ((g.putDgcfg 1 1 (b2n chk)).putDgcfg 2 5 x.toNat).putDgcfg 7 5 y.toNat) rfl ?_
  rw [if_neg (by rw [Bool.or_eq_true, decide_eq_true_eq, decide_eq_true_eq]; omega)]

/-- The data generator after DGLFSR with an operand and a function: LOAD, then SETEN, then STEP (R83). -/
def Engine.lfsr (g : Engine) (v : W64) (f : BitVec 4) : Engine :=
  let g := if f.getLsbD 0 then { g with dg := v } else g
  let g := if f.getLsbD 1 then g.putDgcfg 12 1 (b2n (f.getLsbD 3)) else g
  if f.getLsbD 2 then { g with dg := lfsrStep g.dg } else g

/-- DGLFSR (R76, R83). -/
theorem exec_dglfsr {ga : Fin 16} {f : BitVec 4} (hr : s.ready e (fmtA 27 0 ga 0 f.toNat) = true)
    (hf : f.getLsbD 3 = true → f.getLsbD 1 = true) : ∃ t, exec (.dglfsr e ga f) s = .next t ∧
      Issued e (Engine.lfsr { s.eng e with pc := (s.eng e).pc + 4 } (s.getG e ga) f) s t := by
  refine exec_issued hs hr (f := fun g => g.lfsr (s.getG e ga) f) rfl ?_
  simp only [State.getG_advance]
  rw [if_neg (by simpa using hf)]
  rfl

end

/-! DGCFG and DG bit by bit -/

theorem testBit_b2n_zero (b : Bool) : (b2n b).testBit 0 = b := by cases b <;> rfl

/-- DGINV clears, sets or toggles DGI and nothing else (R83). -/
theorem Engine.dginv_getLsbD (g : Engine) (op : Fin 3) (i : Nat) :
    (g.putDgcfg 0 1 (if op.val = 2 then b2n (! g.dgcfg.getLsbD 0) else op.val)).dgcfg.getLsbD i =
      if i = 0 then (if op = 0 then false else if op = 1 then true else ! g.dgcfg.getLsbD 0)
      else g.dgcfg.getLsbD i := by
  rw [Engine.putDgcfg_getLsbD _ _ _ _ _ (by omega)]
  by_cases hi : i = 0
  · subst hi
    match op with
    | 0 => simp
    | 1 => simp
    | 2 => exact testBit_b2n_zero _
  · rw [if_neg (by omega), if_neg hi]

/-- DGCHK sets CHK, CHK_XBIT and CHK_YBIT and nothing else (R72, R83). -/
theorem Engine.dgchk_getLsbD (g : Engine) (chk : Bool) (x y : BitVec 5) (i : Nat) :
    (((g.putDgcfg 1 1 (b2n chk)).putDgcfg 2 5 x.toNat).putDgcfg 7 5 y.toNat).dgcfg.getLsbD i =
      if i = 1 then chk else if 2 ≤ i ∧ i < 7 then x.getLsbD (i - 2)
      else if 7 ≤ i ∧ i < 12 then y.getLsbD (i - 7) else g.dgcfg.getLsbD i := by
  rw [Engine.putDgcfg_getLsbD _ _ _ _ _ (by omega), Engine.putDgcfg_getLsbD _ _ _ _ _ (by omega),
    Engine.putDgcfg_getLsbD _ _ _ _ _ (by omega)]
  by_cases h1 : i = 1
  · subst h1
    exact testBit_b2n_zero chk
  by_cases hx : 2 ≤ i ∧ i < 7
  · rw [if_neg (by omega), if_pos (by omega), if_neg h1, if_pos hx, BitVec.testBit_toNat]
  · rw [if_neg h1, if_neg hx, if_neg (show ¬ (2 ≤ i ∧ i < 2 + 5) by omega),
      if_neg (show ¬ (1 ≤ i ∧ i < 1 + 1) by omega), BitVec.testBit_toNat]

/-- DGLFSR changes DG and DGCFG alone: DG is what LOAD leaves, stepped if STEP is set; SETEN puts func[3] into DGCFG. -/
theorem Engine.lfsr_eq (g : Engine) (v : W64) (f : BitVec 4) :
    let d := if f.getLsbD 0 then v else g.dg
    g.lfsr v f = { g with
      dg := if f.getLsbD 2 then lfsrStep d else d
      dgcfg := if f.getLsbD 1 then (g.putDgcfg 12 1 (b2n (f.getLsbD 3))).dgcfg else g.dgcfg } := by
  unfold Engine.lfsr
  cases f.getLsbD 0 <;> cases f.getLsbD 1 <;> cases f.getLsbD 2 <;> rfl

theorem Engine.lfsr_dg_getLsbD (g : Engine) (v : W64) (f : BitVec 4) (i : Nat) (hi : i < 64) :
    let d := if f.getLsbD 0 then v else g.dg
    (g.lfsr v f).dg.getLsbD i = if f.getLsbD 2 then
      (if i = 0 then d.getLsbD 63 ^^ d.getLsbD 62 ^^ d.getLsbD 60 ^^ d.getLsbD 59 else d.getLsbD (i - 1))
      else d.getLsbD i := by
  intro d
  have hd : (g.lfsr v f).dg = if f.getLsbD 2 then lfsrStep d else d := by rw [Engine.lfsr_eq]
  rw [hd]
  by_cases h2 : f.getLsbD 2 = true
  · rw [if_pos h2, if_pos h2]
    exact lfsrStep_getLsbD d i hi
  · rw [if_neg h2, if_neg h2]

theorem Engine.lfsr_dgcfg_getLsbD (g : Engine) (v : W64) (f : BitVec 4) (i : Nat) :
    (g.lfsr v f).dgcfg.getLsbD i =
      if i = 12 ∧ f.getLsbD 1 = true then f.getLsbD 3 else g.dgcfg.getLsbD i := by
  have hcfg : (g.lfsr v f).dgcfg = if f.getLsbD 1 then (g.putDgcfg 12 1 (b2n (f.getLsbD 3))).dgcfg else g.dgcfg := by
    rw [Engine.lfsr_eq]
  rw [hcfg]
  by_cases h1 : f.getLsbD 1 = true
  · rw [if_pos h1, Engine.putDgcfg_getLsbD _ _ _ _ _ (by omega)]
    by_cases hi : i = 12
    · subst hi
      rw [if_pos (by omega), if_pos ⟨rfl, h1⟩]
      exact testBit_b2n_zero _
    · rw [if_neg (by omega), if_neg fun h => hi h.1]
  · rw [if_neg h1, if_neg fun h => h1 h.2]

/-- Settles O24: each instruction issues with one update of its engine, and that update is the statement's, field by
field and bit by bit. -/
theorem generators : Obligations.Generators := by
  intro e gd ga mode op x y chk f s hs hw g next v targets
  refine ⟨?_, fun hr => ?_, fun hr hgd => ?_, fun hr => exec_dgset hs hr, fun hr => ?_, fun hr hx hy => ?_,
    fun hr hf => ?_⟩
  · intro p hp hgd hr hv
    have htargets : targets = (List.range 11).map fun k => (k, g.setTarget v k) := rfl
    rw [htargets] at hp
    obtain ⟨k, hk, rfl⟩ := List.mem_map.1 hp
    obtain rfl : gd.val = k := hgd
    have hset := exec_aset hs hr (List.mem_range.1 hk) fun h10 => by simpa [acfgOk] using hv (Fin.ext h10)
    rwa [Engine.setTarget_pc] at hset
  · obtain ⟨t, ht, hframe, hpc, heng⟩ := exec_ainc hs hr
    rw [Engine.incr_eq] at heng
    have hflags := congrArg Engine.flags heng
    refine ⟨t, ht, ⟨hframe, hpc, ?_⟩, ?_, ?_, ?_, fun i hi => ?_⟩
    · rw [hflags]; exact heng
    · rw [hflags]; exact genFlags_getLsbD _ _ _ _ 3
    · rw [hflags]; exact genFlags_getLsbD _ _ _ _ 4
    · rw [hflags]; exact genFlags_getLsbD _ _ _ _ 5
    · rw [hflags, genFlags_getLsbD, if_pos hi]
  · obtain ⟨t, ht, hframe, hpc, heng⟩ := exec_ascr hs hr hgd
    refine ⟨t, ht, ⟨hframe, hpc, ?_⟩, fun i hi => ?_⟩
    · rw [heng]; exact Engine.loadScr_eq _ _ _
    · rw [heng]
      obtain ⟨hsame, hother⟩ := Engine.loadScr_scrAt (s.wf_eng hw e) gd (v.toNat % 65536) i hi
      exact ⟨hsame, hother _ (by omega)⟩
  · obtain ⟨t, ht, hframe, hpc, heng⟩ := exec_dginv hs hr
    refine ⟨t, ht, ⟨hframe, hpc, ?_⟩, fun i => ?_⟩
    · rw [heng]; rfl
    · rw [heng]; exact Engine.dginv_getLsbD _ op i
  · obtain ⟨t, ht, hframe, hpc, heng⟩ := exec_dgchk hs hr hx hy
    refine ⟨t, ht, ⟨hframe, hpc, ?_⟩, fun i => ?_⟩
    · rw [heng]; rfl
    · rw [heng]; exact Engine.dgchk_getLsbD _ chk x y i
  · obtain ⟨t, ht, hframe, hpc, heng⟩ := exec_dglfsr hs hr hf
    refine ⟨t, ht, ⟨hframe, hpc, ?_⟩, fun i hi => ?_, fun i => ?_⟩
    · rw [heng, Engine.lfsr_eq]
    · rw [heng]; exact Engine.lfsr_dg_getLsbD _ v f i hi
    · rw [heng]; exact Engine.lfsr_dgcfg_getLsbD _ v f i

end Sys2Proof.Machine
end


section
/-! SUPPORT and the refutation of LayerTemperatures: the statement says nothing of the host link's unanswered molt, which
the end of a trip brings to its end with the link (R272, R293). -/
namespace Sys2Proof.Machine
open Csr

/-- A number that none of the 9 host lanes has. The register of such a lane would lie at 0x300100 + 4 * strayLane =
0x400000, which is MC_STATE of channel 0, with TRIP as the top bit of its TX state. -/
def strayLane : Nat := 0x3FFC0

/-- READY, in a trip whose layers have been cool for 10 ms, with a TX molt from that lane unanswered. -/
def strayMolt : State :=
  { State.reset.put GLOBAL_MODE_MODE modeReady with
    pauses := { trip := true }
    clk := { uptime := 10000 }
    alm := { coolSince := some 0 }
    hl := { molt := some ({ op := 4, tag := 1, args := [], on := strayLane }, 0, strayLane, true) } }

theorem regsOk_strayMolt : strayMolt.regsOk :=
  State.regsOk_of_csr (State.regsOk_put (s := State.reset) rfl GLOBAL_MODE_MODE modeReady) rfl

/-- The outcome is a state in which channel 0 shows a trip. -/
def showsTrip : Outcome → Bool
  | .next t => t.flag (MC_STATE_TRIP 0)
  | _ => false

/-- The old lane of the molt goes OFF (8) as the link trains again, after the trip bits have been cleared: in this state
that sets channel 0's again. -/
theorem showsTrip_tripExit_strayMolt : showsTrip (exec .tripExit strayMolt) = true := by decide +kernel

/-- Refutes O43: the statement assumes of a state only that its registers and words in effect are canonical. Where the host
link's unanswered molt names a lane that does not exist, the exit of a trip writes that lane's state over MC_STATE, and
TRIP reads 1 after it. The model's own molts name lanes 0 to 8 (State.hMolt); the statement does not assume that bound. -/
theorem not_layerTemperatures : ¬ Obligations.LayerTemperatures := by
  unfold Obligations.LayerTemperatures
  intro h
  obtain ⟨-, -, -, hexit, -⟩ := h [] strayMolt regsOk_strayMolt rfl
  obtain ⟨t, ht, -, hflags⟩ := hexit 0 rfl rfl (by decide)
  obtain ⟨hclear, -⟩ := hflags rfl
  have hset := showsTrip_tripExit_strayMolt
  rw [ht, showsTrip, hclear 0 (by decide)] at hset
  exact absurd hset Bool.false_ne_true

end Sys2Proof.Machine
end


section
/-! SUPPORT. What the units do beside the clocks and modes: training, molts, logging and the ports leave Vector Time, the
pauses, the mode unit and the DRAM alone, and in the registers the device mode and ALM_ROSC. -/
namespace Sys2Proof.Machine
open Csr

/-- The field overlaps neither GLOBAL_MODE.MODE nor CLKPWR_STATUS.ALM_ROSC. -/
def Fld.Apart (f : Fld) : Prop := f.addr ≠ 0x10 ∧ (f.addr ≠ 0x800000 ∨ f.lo + f.w ≤ 13 ∨ 14 ≤ f.lo)

/-- t differs from s in what lane and link training, molts, the log and the ports may change; the engines too stay as they
are where `engines` holds. -/
structure Leaves (engines : Bool) (s t : State) : Prop where
  clk : t.clk = s.clk
  pauses : t.pauses = s.pauses
  vt : t.vt = s.vt
  eff : t.eff = s.eff
  dram : t.dram = s.dram
  clocks : t.clocks = s.clocks
  modes : t.modes = s.modes
  tap : t.tap = s.tap
  job : t.alm.job = s.alm.job
  engs : engines = true → t.engs = s.engs
  regs : s.regsOk → t.regsOk ∧ t.rd GLOBAL_MODE_MODE = s.rd GLOBAL_MODE_MODE ∧
    t.rd CLKPWR_STATUS_ALM_ROSC = s.rd CLKPWR_STATUS_ALM_ROSC

/-- A fold keeps what each of its steps keeps. -/
theorem State.each_induction {α : Type} {P : State → Prop} {s : State} (h : P s) (l : List α) (f : State → α → State)
    (hf : ∀ u, ∀ x ∈ l, P u → P (f u x)) : P (s.each l f) := by
  induction l generalizing s with
  | nil => exact h
  | cons x r ih => exact ih (hf s x List.mem_cons_self h) fun u y hy => hf u y (List.mem_cons_of_mem x hy)

theorem mem_upFrom_zero {x n : Nat} : x ∈ upFrom 0 n ↔ x < n := by
  rw [upFrom_eq_range', List.mem_range'_1]
  omega

theorem lt_of_find_upFrom {n x : Nat} {p : Nat → Bool} (h : (upFrom 0 n).find? p = some x) : x < n :=
  mem_upFrom_zero.1 (List.mem_of_find?_eq_some h)

/-- Searched among the first n numbers, with a default below n. -/
theorem getD_find_upFrom_lt {n d : Nat} (p : Nat → Bool) {m : Nat} (hnm : n ≤ m) (hd : d < m) :
    ((upFrom 0 n).find? p).getD d < m := by
  cases h : (upFrom 0 n).find? p with
  | none => exact hd
  | some x => exact lt_of_lt_of_le (lt_of_find_upFrom h) hnm

namespace Leaves
variable {b : Bool} {s t u : State}

/-! Composition -/

theorem refl : Leaves b s s := ⟨rfl, rfl, rfl, rfl, rfl, rfl, rfl, rfl, rfl, fun _ => rfl, fun h => ⟨h, rfl, rfl⟩⟩

theorem trans (h : Leaves b s t) (h' : Leaves b t u) : Leaves b s u where
  clk := h'.clk.trans h.clk
  pauses := h'.pauses.trans h.pauses
  vt := h'.vt.trans h.vt
  eff := h'.eff.trans h.eff
  dram := h'.dram.trans h.dram
  clocks := h'.clocks.trans h.clocks
  modes := h'.modes.trans h.modes
  tap := h'.tap.trans h.tap
  job := h'.job.trans h.job
  engs := fun hb => (h'.engs hb).trans (h.engs hb)
  regs := fun hs => by
    obtain ⟨ht, hmode, hrosc⟩ := h.regs hs
    obtain ⟨hu, hmode', hrosc'⟩ := h'.regs ht
    exact ⟨hu, hmode'.trans hmode, hrosc'.trans hrosc⟩

theorem ite (h : Leaves b s t) (h' : Leaves b s u) {c : Prop} {_ : Decidable c} : Leaves b s (if c then t else u) := by
  split
  · exact h
  · exact h'

theorem when (h : Leaves b s t) {c : Bool} {f : State → State} (hf : Leaves b s (f t)) : Leaves b s (t.when c f) :=
  hf.ite h

theorem each (h : Leaves b s t) {α : Type} {l : List α} {f : State → α → State}
    (hf : ∀ u, ∀ x ∈ l, Leaves b s u → Leaves b s (f u x)) : Leaves b s (t.each l f) :=
  State.each_induction h l f hf

/-- An update of fields that the relation does not name. -/
theorem beside (h : Leaves b s t) (hu : u = { t with
    pending := u.pending, fresh := u.fresh, img := u.img, masks := u.masks, filled := u.filled, mcs := u.mcs
    caps := u.caps, lanes := u.lanes, bw := u.bw, pins := u.pins, gates := u.gates, st := u.st, faults := u.faults
    alm := { u.alm with job := t.alm.job }, fuses := u.fuses, hl := u.hl, free := u.free }) : Leaves b s u := by
  rw [hu]
  exact h.trans ⟨rfl, rfl, rfl, rfl, rfl, rfl, rfl, rfl, rfl, fun _ => rfl, fun h => ⟨h, rfl, rfl⟩⟩

/-! Registers -/

theorem setReg (h : Leaves b s t) {a : Nat} {w : Word} (ha : a ≠ 0x10 ∧ a ≠ 0x800000 := by omega) :
    Leaves b s (t.setReg a w) := by
  obtain ⟨hmode, hrosc⟩ := ha
  refine h.trans ⟨rfl, rfl, rfl, rfl, rfl, rfl, rfl, rfl, rfl, fun _ => rfl, fun ht => ⟨State.regsOk_setReg ht a w, ?_, ?_⟩⟩
  · rw [State.rd, State.reg_setReg ht, if_neg (Ne.symm hmode), State.rd]
  · rw [State.rd, State.reg_setReg ht, if_neg (Ne.symm hrosc), State.rd]

theorem put (h : Leaves b s t) {f : Fld} {v : Nat} (hf : f.Apart := by simp [Fld.Apart] <;> omega) :
    Leaves b s (t.put f v) := by
  obtain ⟨hmode, hrosc⟩ := hf
  refine h.trans ⟨rfl, rfl, rfl, rfl, rfl, rfl, rfl, rfl, rfl, fun _ => rfl, fun ht => ⟨State.regsOk_put ht f v, ?_, ?_⟩⟩
  · exact State.rd_put_ne ht _ _ _ (by decide) (.inl (Ne.symm hmode))
  · exact State.rd_put_ne ht _ _ _ (by decide) (by dsimp only; omega)

theorem noteEvent (h : Leaves b s t) {f : Fld} {v : Nat → Nat} : Leaves b s (t.noteEvent f v) := h.beside rfl

theorem on (h : Leaves b s t) {f : Fld} (hf : f.Apart := by simp [Fld.Apart] <;> omega) : Leaves b s (t.on f) :=
  h.noteEvent.put hf

theorem unlessOn (h : Leaves b s t) {c : Prop} {_ : Decidable c} {f : Fld}
    (hf : f.Apart := by simp [Fld.Apart] <;> omega) : Leaves b s (if c then t else t.on f) := h.ite (h.on hf)

theorem off (h : Leaves b s t) {f : Fld} (hf : f.Apart := by simp [Fld.Apart] <;> omega) : Leaves b s (t.off f) :=
  h.put hf

theorem putb (h : Leaves b s t) {f : Fld} {v : Bool} (hf : f.Apart := by simp [Fld.Apart] <;> omega) :
    Leaves b s (t.putb f v) := h.put hf

theorem add (h : Leaves b s t) {f : Fld} {n : Nat} (hf : f.Apart := by simp [Fld.Apart] <;> omega) :
    Leaves b s (t.add f n) := h.noteEvent.put hf

theorem inc (h : Leaves b s t) {f : Fld} (hf : f.Apart := by simp [Fld.Apart] <;> omega) : Leaves b s (t.inc f) :=
  h.add hf

/-- A field put where a test holds, or where it does not. -/
theorem ifPut (h : Leaves b s t) {c : Prop} {_ : Decidable c} {f : Fld} {v : Nat}
    (hf : f.Apart := by simp [Fld.Apart] <;> omega) : Leaves b s (if c then t.put f v else t) := (h.put hf).ite h
theorem unlessPut (h : Leaves b s t) {c : Prop} {_ : Decidable c} {f : Fld} {v : Nat}
    (hf : f.Apart := by simp [Fld.Apart] <;> omega) : Leaves b s (if c then t else t.put f v) := h.ite (h.put hf)

theorem incMod (h : Leaves b s t) {f : Fld} (hf : f.Apart := by simp [Fld.Apart] <;> omega) :
    Leaves b s (t.incMod f) := h.put hf

/-! The units' own updates -/

theorem updLane (h : Leaves b s t) {k : Nat} {f : Lane → Lane} : Leaves b s (t.updLane k f) := h.beside rfl
theorem updHl (h : Leaves b s t) {f : Hlink → Hlink} : Leaves b s (t.updHl f) := h.beside rfl
theorem updHlane (h : Leaves b s t) {n : Nat} {f : Lane → Lane} : Leaves b s (t.updHlane n f) := h.beside rfl
theorem updMc (h : Leaves b s t) {c : Nat} {f : Mc → Mc} : Leaves b s (t.updMc c f) := h.beside rfl
theorem updCap (h : Leaves b s t) {n : Nat} {f : CaptureUnit → CaptureUnit} : Leaves b s (t.updCap n f) := h.beside rfl
theorem updGates (h : Leaves b s t) {f : GateUnit → GateUnit} : Leaves b s (t.updGates f) := h.beside rfl
theorem setWaits (h : Leaves b s t) {l : List PortWait} : Leaves b s (t.setWaits l) := h.beside rfl
theorem setFaults (h : Leaves b s t) {f : FaultUnit} : Leaves b s { t with faults := f } := h.beside rfl
theorem defer (h : Leaves b s t) {x : Later} : Leaves b s (t.defer x) := h.beside rfl

theorem updStg (h : Leaves false s t) {e : Nat} {f : Staging → Staging} : Leaves false s (t.updStg e f) :=
  h.trans ⟨rfl, rfl, rfl, rfl, rfl, rfl, rfl, rfl, rfl, nofun, fun h => ⟨h, rfl, rfl⟩⟩

/-! Events, the log and fault messages (R287, R355, R366) -/

theorem event (h : Leaves b s t) {c n d a : Nat} : Leaves b s (t.event c n d a) := by
  unfold State.event
  dsimp only
  split
  · exact (h.updHl (f := fun x => _)).put
  · exact Leaves.inc (h.beside rfl)

theorem vtEvent (h : Leaves b s t) : Leaves b s t.vtEvent := h.event
theorem linkEvent (h : Leaves b s t) {n lo hi a : Nat} : Leaves b s (t.linkEvent n lo hi a) := h.event
theorem imageEvent (h : Leaves b s t) {n : Nat} : Leaves b s (t.imageEvent n) := h.event

theorem ringPut (h : Leaves b s t) {e : LogEnt} : Leaves b s (t.ringPut e) := by
  unfold State.ringPut
  dsimp only
  split
  · exact h.beside rfl
  · split
    · exact Leaves.beside (Leaves.inc (h.beside rfl)) rfl
    · exact h.beside rfl

theorem ringAdd (h : Leaves b s t) {v n k w d : Nat} : Leaves b s (t.ringAdd v n k w d) := h.ringPut.put

theorem logGapFlush (h : Leaves b s t) : Leaves b s t.logGapFlush := by
  unfold State.logGapFlush
  split
  · exact Leaves.ite (Leaves.ringAdd (h.beside rfl)) h
  · exact h

theorem logStamped (h : Leaves b s t) {v n k w d : Nat} : Leaves b s (t.logStamped v n k w d) := by
  unfold State.logStamped
  split
  · split
    · exact h.beside rfl
    · exact h.inc.beside rfl
  · exact h.logGapFlush.ringAdd

theorem log2 (h : Leaves b s t) {k n x y : Nat} : Leaves b s (t.log2 k n x y) := h.logStamped.logStamped

theorem overrun (h : Leaves b s t) {m : Msg} : Leaves b s (t.overrun m) := by
  unfold State.overrun State.noteUnit
  exact h.on.put.inc.inc.on.inc.setFaults

theorem raise (h : Leaves b s t) {m : Msg} : Leaves b s (t.raise m) := by
  unfold State.raise
  split
  · exact Leaves.ite (Leaves.ite (h.beside rfl) h.overrun) h
  · exact Leaves.ite (h.beside rfl) h.overrun

theorem raiseKD (h : Leaves b s t) {n k a d : Nat} : Leaves b s (t.raiseKD n k a d) := h.raise

end Leaves

end Sys2Proof.Machine
end


section
/-! SUPPORT. Lane pairs, the host link, gated blocks and the memory ports: what their changes leave alone. -/
namespace Sys2Proof.Machine
open Csr

/-! A lane below 0x600 is paired with lanes below 0x600. The registers of lane 0x600 would lie at CLKPWR_STATUS. -/

theorem State.rxOf_lt (s : State) {t : Nat} (ht : t < 0x600) : s.rxOf t < 0x600 := by
  unfold State.rxOf
  split
  · exact ht
  · exact getD_find_upFrom_lt _ (by decide) ht

theorem State.txOf_lt (s : State) {r : Nat} (hr : r < 0x600) : s.txOf r < 0x600 := by
  unfold State.txOf
  split
  · exact hr
  · exact getD_find_upFrom_lt _ (by decide) hr

theorem State.hRxOf_lt (s : State) {t : Nat} (ht : t < 9) : s.hRxOf t < 9 := by
  unfold State.hRxOf
  split
  · exact ht
  · exact getD_find_upFrom_lt _ (by decide) ht

theorem State.mem_blockPairs_lt {s : State} {k t : Nat} (hk : k < 0x600) (ht : t ∈ s.blockPairs k) : t < 0x600 := by
  have hr : (s.trainOf k).getD k < 0x600 := by
    unfold State.trainOf
    split
    · exact hk
    · exact s.txOf_lt hk
  unfold State.blockPairs at ht
  dsimp only at ht
  split at ht
  · rwa [List.mem_singleton.1 ht]
  · split at ht
    · rwa [List.mem_singleton.1 ht]
    · obtain rfl | rfl : t = k ∨ t = _ := by simpa using ht
      · exact hk
      · exact hr

theorem spareOf_lt {l : Nat} (hl : l < 2 ^ 8) : spareOf l < 0x600 := by
  unfold spareOf
  omega

namespace Leaves
variable {b : Bool} {s t : State}

/-! Lane pairs (R147, R158) -/

theorem pairState (h : Leaves b s t) {k st : Nat} (hk : k < 0x600) : Leaves b s (t.pairState k st) := by
  have hr := t.rxOf_lt hk
  unfold State.pairState
  exact h.ifPut.ifPut.unlessPut.unlessPut

theorem toDetect (h : Leaves b s t) {k : Nat} (hk : k < 0x600) : Leaves b s (t.toDetect k) := by
  unfold State.toDetect
  exact (((Leaves.ite h.updLane h).pairState hk).off.updLane).updLane

theorem retrainPair (h : Leaves b s t) {k : Nat} (hk : k < 0x600) : Leaves b s (t.retrainPair k) := h.put.toDetect hk

theorem lanesPause (h : Leaves b s t) : Leaves b s t.lanesPause :=
  h.each fun _ _ hx hu => hu.retrainPair (by have := mem_upFrom_zero.1 (List.mem_of_mem_filter hx); omega)

/-! Gated blocks (R331) -/

theorem ungate (h : Leaves b s t) {n : Nat} : Leaves b s (t.ungate n) := by
  unfold State.ungate
  refine Leaves.ite (h.off.off.updGates.each fun u k hk hu => ?_) h.off.off.updGates
  have hk' := State.mem_blockPairs_lt (by omega) hk
  exact Leaves.ite hu.updLane (hu.updLane.retrainPair hk')

theorem gateRefresh (h : Leaves b s t) : Leaves b s t.gateRefresh := h.each fun _ _ _ hu => hu.ungate

theorem wake (h : Leaves b s t) {n : Nat} : Leaves b s (t.wake n) := by
  unfold State.wake
  refine Leaves.ite h (Leaves.ite ?_ (Leaves.ite (h.beside rfl) h))
  exact h.off.inc.updGates (f := fun g => { g with woken := (n, _) :: g.woken.filter _ })

/-! The host link (R265, R272, R293) -/

theorem hDown (h : Leaves b s t) {st : Nat} : Leaves b s (t.hDown st) := by
  unfold State.hDown
  exact (Leaves.ite h.on h).put.put

theorem hMoltDone (h : Leaves b s t) {l dir old new : Nat} : Leaves b s (t.hMoltDone l dir old new) :=
  h.putb.putb.on.log2.linkEvent

/-- Whatever lane the molt names: a TX state covers bits 8 to 11 of its register, ALM_ROSC is bit 13. -/
theorem hMoltEnds (h : Leaves b s t) : Leaves b s t.hMoltEnds := by
  unfold State.hMoltEnds
  split
  · exact h.put.hMoltDone.updHl
  · exact h.updHl

theorem hPair (h : Leaves b s t) {k st : Nat} (hk : k < 9) : Leaves b s (t.hPair k st) := by
  have hr := t.hRxOf_lt hk
  unfold State.hPair
  exact h.ifPut.ifPut.unlessPut.unlessPut

theorem hRetrain (h : Leaves b s t) : Leaves b s t.hRetrain := by
  unfold State.hRetrain
  refine Leaves.each (Leaves.each h.hDown.hMoltEnds.updHl fun u k hk hu => hu.hPair ?_) fun u k _ hu => hu.updHlane
  exact mem_upFrom_zero.1 (List.mem_of_mem_filter hk)

theorem hPause (h : Leaves b s t) : Leaves b s t.hPause := h.hRetrain.hDown
theorem hBringUp (h : Leaves b s t) : Leaves b s t.hBringUp := h.hRetrain

/-! Channels (R203, R244) -/

theorem setDue (h : Leaves b s t) {c : Nat} : Leaves b s (t.setDue c) := by
  unfold State.setDue
  exact (Leaves.ite h h.updMc).on

theorem selfRefresh (h : Leaves b s t) : Leaves b s t.selfRefresh := h.each fun _ _ _ hu => hu.on

theorem leaveSelfRefresh (h : Leaves b s t) : Leaves b s t.leaveSelfRefresh := h.each fun _ _ _ hu => hu.off

/-! The memory ports (R213, R214) and the capture windows' edges (R66) -/

theorem spend (h : Leaves b s t) {n k : Nat} : Leaves b s (t.spend n k) := by
  unfold State.spend
  exact h.ite (h.beside rfl)

theorem surplusUsed (h : Leaves b s t) {a : Acc} {k : Nat} : Leaves b s (t.surplusUsed a k) := h.beside rfl

theorem portPay (h : Leaves b s t) {w : PortWait} : Leaves b s (t.portPay w) := by
  unfold State.portPay
  exact (h.spend.when (h.spend.surplusUsed)).setWaits.wake

theorem portsTick (h : Leaves b s t) : Leaves b s t.portsTick := by
  unfold State.portsTick
  exact (h.ite h.setWaits).each fun _ _ _ hu => hu.ite hu.portPay

theorem capSettle (h : Leaves b s t) {f : CapEdge → Bool} : Leaves b s (t.capSettle f) := by
  unfold State.capSettle
  exact h.ite (h.beside rfl)

end Leaves
end Sys2Proof.Machine
end


section
/-! SUPPORT and the certificate of StepRunsFront: a step runs the command at the front of the queue, and with an empty queue
one FCLK passes (R17, R49, R319). -/
namespace Sys2Proof.Machine
open Csr

/-! What waits for nothing is served by nothing -/

theorem State.fwServe_of_no_job {s : State} (h : s.alm.job = none) : s.fwServe = s := by
  rw [State.fwServe, h]

theorem State.wrapServe_of_no_wait {s : State} (h : s.tap.waits = none) : s.wrapServe = s := by
  rw [State.wrapServe, h]

theorem State.resetServe_of_not_due {s : State} (h : s.modes.resetDue ≠ some true) : s.resetServe = s := by
  rw [State.resetServe, State.resetNow, if_neg h, ite_self]

/-- A step of an idle cube is one FCLK. -/
theorem step_of_idle {s : State} (hs : s.pending = []) (hjob : s.tick.alm.job = none) (htap : s.tick.tap.waits = none)
    (hreset : s.tick.modes.resetDue ≠ some true) : step s = .next s.tick := by
  rw [step, hs]
  dsimp only
  rw [State.fwServe_of_no_job hjob, State.wrapServe_of_no_wait htap, State.resetServe_of_not_due hreset]

/-! One FCLK (R49, R56) -/

theorem State.tick_of_unpowered {s : State} (h : ¬ (s.pins.pwrok = true ∧ s.pins.resetN = true)) : s.tick = s := by
  rw [State.tick, if_pos]
  rw [Bool.or_eq_true, Bool.not_eq_true', Bool.not_eq_true']
  by_cases hp : s.pins.pwrok = true
  · exact .inr (Bool.eq_false_iff.2 fun hr => h ⟨hp, hr⟩)
  · exact .inl (Bool.eq_false_iff.2 hp)

/-- The clocks and Vector Time have moved on by one FCLK; the units have not looked at what waits yet. -/
def State.fclk (s : State) : State :=
  { s with
    clk := { s.clk.tick with live := s.clk.live + 1 }, fresh := [], vt := s.vt.tick (s.rd VT_RATE_RATE), bw := s.bw.tick }

theorem State.tick_of_powered {s : State} (hp : s.pins.pwrok = true) (hr : s.pins.resetN = true) : s.tick =
    if s.paused then { s with clk := s.clk.tick, fresh := [] }
    else (s.fclk.capSettle s.fclk.edgeOld).portsTick.gateRefresh := by
  rw [State.tick, if_neg (by simp [hp, hr])]
  rfl

/-- The ports, the capture windows and the gated blocks leave the clocks, Vector Time and what waits elsewhere alone. -/
theorem leaves_fclk_tick (s : State) :
    Leaves true s.fclk (s.fclk.capSettle s.fclk.edgeOld).portsTick.gateRefresh :=
  Leaves.refl.capSettle.portsTick.gateRefresh

/-- With no capture window's edge to settle, nothing at the ports and no block gated, no more happens. -/
theorem fclk_tick_of_bare {s : State} (hwaits : s.bw.waits = []) (hedges : s.img.capEdges = [])
    (hgates : s.gateMarked = []) : (s.fclk.capSettle s.fclk.edgeOld).portsTick.gateRefresh = s.fclk := by
  have hsettle : s.fclk.capSettle s.fclk.edgeOld = s.fclk := by
    rw [State.capSettle, show s.fclk.img.capEdges = [] from hedges]
    rfl
  have hports : s.fclk.portsTick = s.fclk := by
    rw [State.portsTick, show s.fclk.bw.waits = [] from hwaits]
    simp only [List.all_nil, if_true]
    rw [show s.fclk.bw.waits = [] from hwaits]
    rfl
  rw [hsettle, hports, State.gateRefresh, show s.fclk.gateMarked = [] from hgates]
  rfl

/-- Uptime after one FCLK: 850 FCLKs make a microsecond (R404). -/
theorem Clock.tick_uptime (c : Clock) : c.tick.uptime = c.uptime + if c.sub + 1 = 850 then 1 else 0 := by
  rw [Clock.tick]
  dsimp only
  split <;> rfl

/-- Vector Time with no correction to wait out gains VT_RATE (R49). -/
theorem VtUnit.tick_of_not_owed {u : VtUnit} (h : u.owed = 0) (rate : Nat) : u.tick rate =
    { u with vt := vtAdd u.vt ((u.frac + rate) / 2 ^ 24), frac := (u.frac + rate) % 2 ^ 24, cyc := u.cyc + 1 } := by
  rw [VtUnit.tick, h, Nat.zero_min, Nat.sub_zero, Nat.sub_zero, ← h]

/-- Settles O1: with a command in front the step is its meaning; with none it is one FCLK, whose every part but the clocks,
Vector Time and the buckets leaves the clocks and Vector Time alone. -/
theorem stepRunsFront : Obligations.StepRunsFront := by
  unfold Obligations.StepRunsFront
  intro c rest s
  dsimp only
  refine ⟨rfl, ?_, ?_, ?_, ?_⟩
  · intro hs
    rw [step, hs]
  · rintro ⟨hs, hjob, htap, hreset⟩ hoff
    have htick := State.tick_of_unpowered hoff
    rw [step_of_idle hs (by rwa [htick]) (by rwa [htick]) (by rwa [htick]), htick]
  · rintro ⟨hs, hjob, htap, hreset⟩ ⟨hp, hr⟩ hpaused
    have htick := State.tick_of_powered hp hr
    rw [if_pos hpaused] at htick
    refine ⟨s.tick, step_of_idle hs (by rwa [htick]) (by rwa [htick]) (by rwa [htick]), ?_, ?_, ?_⟩
    all_goals rw [htick]
    · exact ⟨rfl, s.clk.tick_uptime, rfl⟩
    · rfl
  · rintro ⟨hs, hjob, htap, hreset⟩ ⟨hp, hr⟩ hlive
    have htick := State.tick_of_powered hp hr
    rw [if_neg (by simp [hlive])] at htick
    have hl := leaves_fclk_tick s
    rw [← htick] at hl
    refine ⟨s.tick, step_of_idle hs (hl.job.trans hjob) (by rwa [hl.tap]) (by rwa [hl.modes]), ?_, ?_, ?_, ?_, ?_, ?_⟩
    · rintro ⟨hwaits, hedges, hgates⟩
      rw [htick, fclk_tick_of_bare hwaits hedges hgates]
      rfl
    · rw [hl.clk]
      exact ⟨rfl, s.clk.tick_uptime, rfl⟩
    · rw [hl.clk]
      rfl
    · rw [hl.vt]
      rfl
    · rw [hl.vt]
      rfl
    · intro howed
      rw [hl.vt]
      exact VtUnit.tick_of_not_owed howed _

end Sys2Proof.Machine
end


section
/-! SUPPORT. Self-test slices that a resumption abandons, with the molts and losses of lanes that come of it: what they leave
alone (R157, R377, R385). -/
namespace Sys2Proof.Machine
open Csr

theorem capBase_ge (u : Nat) : 0x170000 ≤ capBase u := by
  unfold capBase
  split <;> omega

theorem State.logTx_lt (s : State) (k : Nat) : s.logTx k < 2 ^ 8 := bits_lt _ _ _
theorem State.logRx_lt (s : State) (k : Nat) : s.logRx k < 2 ^ 8 := bits_lt _ _ _

namespace Leaves
variable {b : Bool} {s t : State}

/-! A lane is lost (R128, R157, R377) -/

theorem setAlive (h : Leaves b s t) {a n : Nat} {v : Bool} (ha : a ≠ 0x10 ∧ a ≠ 0x800000) :
    Leaves b s (t.setAlive a n v) := by
  unfold State.setAlive
  exact h.ite (h.setReg ha).incMod.imageEvent

theorem degrade (h : Leaves b s t) {flag : Nat → Fld} {kind : Option Nat} {p : Nat} (hf : (flag p).Apart) :
    Leaves b s (t.degrade flag kind p) := by
  unfold State.degrade
  dsimp only
  split
  · exact ((h.ite h.put.put.setFaults).unlessPut.on hf).put
  · exact (h.ite h.put.put.setFaults).unlessPut.on hf

theorem echoAnswer (h : Leaves b s t) {e n v : Nat} : Leaves b s (t.echoAnswer e n v) := by
  unfold State.echoAnswer
  split
  · exact h
  · rename_i u _
    have hu := capBase_ge u
    unfold State.echoEase
    exact h.updCap.updCap.off.ite h.updCap

theorem answerUnsent (h : Leaves b s t) {e n : Nat} : Leaves b s (t.answerUnsent e n) := by
  unfold State.answerUnsent
  split
  · exact h.echoAnswer
  · exact h

theorem countSent (h : Leaves false s t) {e : Nat} : Leaves false s (t.countSent e) := by
  unfold State.countSent
  exact h.updStg
theorem stgRelease (h : Leaves false s t) {e : Nat} : Leaves false s (t.stgRelease e) := h.updStg

theorem discard (h : Leaves false s t) {e slot n : Nat} : Leaves false s (t.discard e slot n) := by
  unfold State.discard
  exact h.ite h.updStg.add.put

theorem slotLost (h : Leaves false s t) {e n : Nat} : Leaves false s (t.slotLost e n) := by
  unfold State.slotLost
  exact h.answerUnsent.discard.countSent.stgRelease

theorem loseLane (h : Leaves false s t) {l : Nat} {kind : Option Nat} : Leaves false s (t.loseLane l kind) := by
  unfold State.loseLane
  split
  case isFalse => exact h
  case isTrue hl =>
    have hl' : l < 96 := by simp at hl; exact hl.1
    have halive := (h.setAlive (a := 0x20050 + 4 * (l / 32)) (n := l % 32) (v := false) (by omega)).setAlive
      (a := 0x20060 + 4 * (l / 32)) (n := l % 32) (v := false) (by omega)
    dsimp only
    split
    · split
      · exact (halive.slotLost.ite halive).degrade (by simp [Fld.Apart]; omega)
      · exact halive.slotLost.ite halive
    · exact halive

theorem laneLost (h : Leaves false s t) {l dir k : Nat} (hk : k < 0x600) : Leaves false s (t.laneLost l dir k) := by
  unfold State.laneLost State.laneOff
  dsimp only
  by_cases hd : dir = 0
  · simp only [hd, if_true]
    exact h.put.updLane.updLane.raiseKD.loseLane
  · simp only [hd, if_false]
    exact h.put.updLane.raiseKD.loseLane

/-! A lane molts (R155 to R157) -/

theorem laneReq (h : Leaves b s t) {k on op : Nat} {args : List Nat} : Leaves b s (t.laneReq k on op args) := by
  unfold State.laneReq State.sendOn
  exact h.updLane.updLane

theorem laneConfig (h : Leaves b s t) {k : Nat} : Leaves b s (t.laneConfig k) := by
  unfold State.laneConfig
  exact h.updLane.laneReq.updLane

theorem unlessLaneReq (h : Leaves b s t) {c : Prop} {_ : Decidable c} {k on op : Nat} {args : List Nat} :
    Leaves b s (if c then t else t.laneReq k on op args) := h.ite h.laneReq

theorem whenCreditQuery (h : Leaves b s t) {c : Bool} {k : Nat} :
    Leaves b s (t.when c fun u => u.creditQuery k) := h.when h.laneReq

theorem ifLaneConfig (h : Leaves b s t) {c : Prop} {_ : Decidable c} {k : Nat} {f : Lane → Lane} :
    Leaves b s (if c then (t.updLane k f).laneConfig k else t) := h.updLane.laneConfig.ite h

theorem moltTxDone (h : Leaves b s t) {k sp : Nat} {active : Bool} (hsp : sp < 0x600) :
    Leaves b s (t.moltTxDone k sp active) := by
  unfold State.moltTxDone State.laneOff State.laneAvail State.logMolt State.creditQuery
  dsimp only
  split
  · exact h.updLane.updLane.put.put.put.put.put.setReg.put.on.on.off.log2.laneReq
  · exact (h.updLane.updLane.put.put.put.put.put.setReg.put.on.on.off.log2).retrainPair hsp

theorem moltRxDone (h : Leaves b s t) {k sp : Nat} {active : Bool} (hk : k < 0x600) (hsp : sp < 0x600) :
    Leaves b s (t.moltRxDone k sp active) := by
  unfold State.moltRxDone State.laneOff State.logMolt
  dsimp only
  split
  · exact h.updLane.updLane.put.put.put.put.on.on.off.log2
  · split
    · rename_i htx
      have := lt_of_find_upFrom htx
      exact (h.updLane.updLane.put.put.put.put.on.on.off.log2).retrainPair (by omega)
    · exact h.updLane.updLane.put.put.put.put.on.on.off.log2

theorem moltTx (h : Leaves false s t) {k : Nat} (hk : k < 0x600) : Leaves false s (t.moltTx k) := by
  have hsp := spareOf_lt (t.logTx_lt k)
  unfold State.moltTx
  exact h.ite (h.defer.ite ((h.laneLost hk).ite (h.laneReq.updLane.ite (h.moltTxDone hsp))))

theorem moltRx (h : Leaves false s t) {k : Nat} (hk : k < 0x600) : Leaves false s (t.moltRx k) := by
  have hsp := spareOf_lt (t.logRx_lt k)
  unfold State.moltRx
  exact h.ite (h.defer.ite ((h.laneLost hk).ite (h.laneReq.updLane.ite (h.moltRxDone hk hsp))))

theorem wantedMolts (h : Leaves false s t) {k : Nat} (hk : k < 0x600) : Leaves false s (t.wantedMolts k) := by
  unfold State.wantedMolts
  exact Leaves.ite ((Leaves.ite (h.updLane.moltRx (t.rxOf_lt hk)) h).updLane.moltTx hk)
    (Leaves.ite (h.updLane.moltRx (t.rxOf_lt hk)) h)

/-! A slice is abandoned (R152, R385) -/

theorem lbState (h : Leaves b s t) {k st : Nat} (hk : k < 0x600) : Leaves b s (t.lbState k st) := by
  unfold State.lbState
  exact h.ite (h.pairState hk)

theorem lbEnd (h : Leaves false s t) {k : Nat} (hk : k < 0x600) : Leaves false s (t.lbEnd k) := by
  unfold State.lbEnd
  split
  · exact h
  · exact (((h.off.lbState hk).updLane.unlessLaneReq.whenCreditQuery.on.unlessOn).ifLaneConfig).wantedMolts hk

theorem vlaneLbStop (h : Leaves false s t) {k : Nat} (hk : k < 0x600) : Leaves false s (t.vlaneLbStop k) := by
  unfold State.vlaneLbStop
  split
  · exact h
  · exact h.updLane.laneReq.ite (h.lbEnd hk)

theorem setTests (h : Leaves b s t) {x : SelfTest} : Leaves b s { t with st := x } := h.beside rfl

theorem sliceGone (h : Leaves b s t) {x : Slice} {o : Nat} : Leaves b s (t.sliceGone x o) := by
  unfold State.sliceGone State.stCount
  exact (h.setTests.put).put.put.put

theorem afterTest (h : Leaves false s t) {x : Slice} : Leaves false s (t.afterTest x) := by
  unfold State.afterTest State.prepare
  exact (h.ifPut).ite (h.updStg.ite (Leaves.ite (Leaves.ite h.updCap h.updCap) h))

theorem abandonSlice (h : Leaves false s t) {x : Slice} : Leaves false s (t.abandonSlice x) := by
  have hgone : Leaves false s ((t.sliceGone x 2).inc (ST_CNT_INCOMPLETE x.kind)) := h.sliceGone.inc
  unfold State.abandonSlice
  exact Leaves.ite ((hgone.off.putb.ite (hgone.off.ite hgone)).afterTest.vlaneLbStop (by omega))
    (hgone.off.putb.ite (hgone.off.ite hgone)).afterTest

theorem abandonWhere (h : Leaves false s t) {f : Slice → Bool} : Leaves false s (t.abandonWhere f) :=
  h.each fun _ _ _ hu => hu.abandonSlice

end Leaves
end Sys2Proof.Machine
end


section
/-! SUPPORT and the certificate of DeepSleep: the checks of the mode commands (R394), pausing and resuming (R17, R56), and the
way into DEEP and out of it (R397 to R399). -/
namespace Sys2Proof.Machine
open Csr

/-! Registers alone change -/

namespace OnlyRegs
variable {as : List Nat} {s t : State}

theorem refl : OnlyRegs as s s := ⟨rfl, fun _ _ => rfl⟩

theorem put (h : OnlyRegs as s t) (ht : t.regsOk) {f : Fld} (hf : f.addr ∈ as) {v : Nat} : OnlyRegs as s (t.put f v) := by
  obtain ⟨hst, hreg⟩ := h
  exact ⟨congrArg (fun x : State => { x with csr := (t.put f v).csr, fresh := t.fresh }) hst,
    fun a ha => (State.reg_put_ne ht f v a fun he => ha (he ▸ hf)).trans (hreg a ha)⟩

theorem on (h : OnlyRegs as s t) (ht : t.regsOk) {f : Fld} (hf : f.addr ∈ as) : OnlyRegs as s (t.on f) := by
  obtain ⟨hst, hreg⟩ := h
  exact OnlyRegs.put (t := t.noteEvent f fun _ => 1)
    ⟨congrArg (fun x : State => { x with csr := t.csr, fresh := (t.on f).fresh }) hst, hreg⟩ ht hf

end OnlyRegs

/-! Refused commands (R394) -/

theorem State.flag_of_rd_one {s : State} {f : Fld} (h : s.rd f = 1) : s.flag f = true := by
  rw [State.flag, h]
  rfl

/-- A refused command sets CMD_REFUSED and CAUSE of GLOBAL_MODE_STAT, nothing else. -/
theorem modeRefuse_spec {s : State} (hs : s.regsOk) {cause : Nat} (hc : cause < 256) :
    OnlyRegs [0x2C] s (s.modeRefuse cause) ∧ (s.modeRefuse cause).flag GLOBAL_MODE_STAT_CMD_REFUSED = true ∧
      (s.modeRefuse cause).rd GLOBAL_MODE_STAT_CAUSE = cause := by
  have hon := State.regsOk_on hs GLOBAL_MODE_STAT_CMD_REFUSED
  refine ⟨(OnlyRegs.refl.on hs (by simp)).put hon (by simp), State.flag_of_rd_one ?_, ?_⟩
  · rw [State.modeRefuse, State.rd_put_ne hon _ _ _ (by decide) (by decide), State.rd_on_same hs _ (by decide)]
    rfl
  · rw [State.modeRefuse, State.rd_put_same hon _ _ (by decide)]
    exact Nat.mod_eq_of_lt hc

/-- What the check of DEEP_ENTER asks of every partition: in SLEEP and drained (R397). -/
def State.Asleep (s : State) : Prop :=
  ∀ p ∈ s.partsList, s.pmode p = 6 ∧ (s.rd GLOBAL_PDRAIN_DRAINING).testBit p = false

theorem State.deepCheck_of_not_ready {s : State} (h : s.devMode ≠ 2) : s.deepCheck = 2 := if_pos h

theorem State.asleep_iff (s : State) : s.Asleep ↔
    s.partsList.all (fun p => s.pmode p = modeSleep && ! bit (s.rd GLOBAL_PDRAIN_DRAINING) p) = true := by
  simp only [State.Asleep, List.all_eq_true, Bool.and_eq_true, decide_eq_true_eq, Bool.not_eq_true']
  rfl

theorem State.deepCheck_of_ready {s : State} (h : s.devMode = 2) : s.deepCheck =
    if ! s.partsList.all (fun p => s.pmode p = modeSleep && ! bit (s.rd GLOBAL_PDRAIN_DRAINING) p) then 7
    else if s.deepBusy then 8 else 0 := if_neg (by simp [h, modeReady])

theorem State.deepCheck_of_not_asleep {s : State} (h : s.devMode = 2) (ha : ¬ s.Asleep) : s.deepCheck = 7 := by
  rw [State.deepCheck_of_ready h, if_pos]
  simpa [State.asleep_iff] using ha

theorem State.deepCheck_of_asleep {s : State} (h : s.devMode = 2) (ha : s.Asleep) :
    s.deepCheck = if s.deepBusy then 8 else 0 := by
  rw [State.deepCheck_of_ready h, (State.asleep_iff s).1 ha]
  rfl

theorem exec_deepEnter_of_refused {s : State} (hs : s.regsOk) {cause : Nat} (h : s.deepCheck = cause) (h0 : cause ≠ 0)
    (hc : cause < 256) : ∃ t, exec .deepEnter s = .next t ∧ OnlyRegs [0x2C] s t ∧
      t.flag GLOBAL_MODE_STAT_CMD_REFUSED = true ∧ t.rd GLOBAL_MODE_STAT_CAUSE = cause := by
  refine ⟨s.modeRefuse cause, ?_, modeRefuse_spec hs hc⟩
  show Host.Outcome.next s.deepEnter = _
  rw [State.deepEnter, h, if_pos h0]

/-! Pausing and resuming (R17, R56) -/

/-- A further cause of the pause changes the causes and the time of its begin; what it does to the lanes, the host link and
the channels leaves the rest alone. -/
theorem leaves_pauseLink (s : State) (f : Pauses → Pauses) (keep : Bool) :
    ∃ since, Leaves true { s with pauses := { f s.pauses with since := since } } (s.pauseLink f keep) := by
  unfold State.pauseLink
  dsimp only
  split
  · exact ⟨(f s.pauses).since, Leaves.refl.putb⟩
  · split
    · exact ⟨(f s.pauses).since, Leaves.ite Leaves.refl.putb.hPause Leaves.refl.putb⟩
    · refine ⟨s.now, Leaves.each (Leaves.ite (Leaves.lanesPause ?_) (Leaves.hPause (Leaves.lanesPause ?_)))
        fun u n _ hu => hu.off⟩
      all_goals exact Leaves.refl.putb.each fun u c _ hu => hu.off.updMc.setDue

/-- The end of a cause changes the causes and what VT has to wait out; what the resumption does to the lanes, the host link
and the slices leaves the rest alone. -/
theorem leaves_resumeFrom (s : State) (f : Pauses → Pauses) :
    ∃ vt, Leaves false { s with pauses := f s.pauses, vt := vt } (s.resumeFrom f) := by
  unfold State.resumeFrom
  dsimp only
  split
  · exact ⟨s.vt, Leaves.refl.putb⟩
  · refine ⟨{ s.vt with owed := 0 }, Leaves.gateRefresh (Leaves.abandonWhere ?_)⟩
    have hfree : Leaves false { s with pauses := f s.pauses, vt := { s.vt with owed := 0 } }
        (({ s with pauses := f s.pauses }).putb CLKPWR_STATUS_PAUSED (f s.pauses).any).vtFreeRun.vtEvent :=
      Leaves.refl.putb.put.put.vtEvent
    exact Leaves.ite hfree.lanesPause hfree.lanesPause.hBringUp

/-- The pauses themselves matter to nothing that is left alone. -/
theorem Leaves.withPauses {b : Bool} {s t : State} (h : Leaves b s t) (p : Pauses) :
    Leaves b { s with pauses := p } { t with pauses := p } :=
  ⟨h.clk, rfl, h.vt, h.eff, h.dram, h.clocks, h.modes, h.tap, h.job, h.engs, h.regs⟩

/-! Into DEEP (R334, R398) -/

/-- DEEP has begun: the pause with its cause, the layers in self-refresh. -/
def State.deepPaused (s : State) : State :=
  (s.vtEvent.pauseLink (fun p => { p with deep := true }) s.vtEvent.deepLink).selfRefresh

/-- The PLLs that no block's clock needs stop; with none needed HKCK comes from ROSC. -/
def State.stopPlls (s : State) : State :=
  if s.deepKeeps then
    if s.rd CLKPWR_STATUS_PRIMARY = 0 then s.off CLKPWR_STATUS_PLL1_LOCK else s.off CLKPWR_STATUS_PLL0_LOCK
  else (((s.off CLKPWR_STATUS_PLL0_LOCK).off CLKPWR_STATUS_PLL1_LOCK).on CLKPWR_STATUS_ALM_ROSC).on CLKPWR_STATUS_HKCK_ROSC

/-- The clocks of DEEP: PLLs stopped, the device in DEEP, VLANE off unless a block of class 3 or 4 keeps its clocks. -/
def State.deepClocks (s : State) : State :=
  let u := (s.stopPlls.off CLKPWR_STATUS_STANDBY_OK).put GLOBAL_MODE_MODE modeDeep
  (u.updClk fun c => { c with vlaneOff := ! u.deepVlane }).updModes fun m => { m with exiting := false, retrains := none }

theorem State.deepNow_eq (s : State) : s.deepNow = s.deepPaused.deepClocks.gateRefresh := rfl

theorem leaves_deepPaused (s : State) : ∃ since,
    Leaves true { s with pauses := { s.pauses with deep := true, since := since } } s.deepPaused := by
  obtain ⟨since, h⟩ := leaves_pauseLink s.vtEvent (fun p => { p with deep := true }) s.vtEvent.deepLink
  have hevent : Leaves true s s.vtEvent := Leaves.refl.vtEvent
  rw [hevent.pauses] at h
  exact ⟨since, ((hevent.withPauses _).trans h).selfRefresh⟩

theorem onlyRegs_stopPlls {s : State} (hs : s.regsOk) : OnlyRegs [0x800000] s s.stopPlls ∧ s.stopPlls.regsOk := by
  have hpll0 := State.regsOk_put hs CLKPWR_STATUS_PLL0_LOCK 0
  have hpll1 := State.regsOk_put hpll0 CLKPWR_STATUS_PLL1_LOCK 0
  have hrosc := State.regsOk_on hpll1 CLKPWR_STATUS_ALM_ROSC
  unfold State.stopPlls
  split
  · split
    · exact ⟨OnlyRegs.refl.put hs (by simp), State.regsOk_put hs _ _⟩
    · exact ⟨OnlyRegs.refl.put hs (by simp), hpll0⟩
  · exact ⟨(((OnlyRegs.refl.put hs (by simp)).put hpll0 (by simp)).on hpll1 (by simp)).on hrosc (by simp),
      State.regsOk_on hrosc _⟩

theorem State.deepVlane_congr {s t : State} (h : t.eff = s.eff) : t.deepVlane = s.deepVlane := by
  unfold State.deepVlane State.erd State.effReg
  rw [h]

theorem State.deepVlane_iff (s : State) : s.deepVlane = true ↔
    ∃ n ∈ gateBlocks, (n / 128 = 3 ∨ n / 128 = 4) ∧ s.erd (CLKPWR_GATE_DEEP_EN n) = 1 := by
  simp [State.deepVlane, List.any_eq_true]

/-- The clocks, the mode unit and registers alone change; the device is in DEEP. -/
theorem deepClocks_spec {s : State} (hs : s.regsOk) :
    s.deepClocks = { s with
      clocks := { s.clocks with vlaneOff := ! s.deepVlane }, modes := { s.modes with exiting := false, retrains := none }
      csr := s.deepClocks.csr, fresh := s.deepClocks.fresh } ∧ s.deepClocks.regsOk ∧ s.deepClocks.devMode = 7 := by
  obtain ⟨⟨hframe, -⟩, hstop⟩ := onlyRegs_stopPlls hs
  have hoff := State.regsOk_put hstop CLKPWR_STATUS_STANDBY_OK 0
  refine ⟨?_, State.regsOk_put hoff GLOBAL_MODE_MODE modeDeep, ?_⟩
  · have hv : ((s.stopPlls.off CLKPWR_STATUS_STANDBY_OK).put GLOBAL_MODE_MODE modeDeep).deepVlane = s.deepVlane :=
      State.deepVlane_congr (by rw [State.eff_put, State.off_eq, State.eff_put, hframe])
    unfold State.deepClocks
    dsimp only
    rw [hv]
    exact congrArg (fun x : State => { x with
      clocks := { x.clocks with vlaneOff := ! s.deepVlane }, modes := { x.modes with exiting := false, retrains := none }
      csr := ((s.stopPlls.off CLKPWR_STATUS_STANDBY_OK).put GLOBAL_MODE_MODE modeDeep).csr, fresh := s.stopPlls.fresh }) hframe
  · exact State.rd_put_same hoff GLOBAL_MODE_MODE modeDeep (by decide)

/-- An entry that is not refused (R398): the device is in DEEP, and of the rest the clocks, the pauses and the mode unit
change as DEEP has them, Vector Time, the engines and the DRAM not at all. -/
theorem exec_deepEnter_of_accepted {s : State} (hs : s.regsOk) (h : s.deepCheck = 0) :
    ∃ t, exec .deepEnter s = .next t ∧ t.devMode = 7 ∧ t.pauses.deep = true ∧
      t.modes = { s.modes with exiting := false, retrains := none } ∧ t.vt = s.vt ∧ t.engs = s.engs ∧ t.dram = s.dram ∧
      t.clocks = { s.clocks with vlaneOff := ! s.deepVlane } ∧ t.flag GLOBAL_MODE_STAT_MODE_CHANGED = true := by
  obtain ⟨since, hp⟩ := leaves_deepPaused s
  obtain ⟨hpok, -, -⟩ := hp.regs hs
  obtain ⟨hc, hcok, hmode⟩ := deepClocks_spec hpok
  have hg : Leaves true s.deepPaused.deepClocks s.deepNow := by
    rw [State.deepNow_eq]
    exact Leaves.refl.gateRefresh
  obtain ⟨hgok, hgmode, -⟩ := hg.regs hcok
  refine ⟨s.deepNow.on GLOBAL_MODE_STAT_MODE_CHANGED, ?_, ?_, ?_, ?_, ?_, ?_, ?_, ?_, ?_⟩
  · show Host.Outcome.next s.deepEnter = _
    rw [State.deepEnter, if_neg (not_not.2 h)]
  · rw [State.devMode, State.rd_on_ne hgok _ _ (by decide) (by decide), hgmode]
    exact hmode
  · rw [State.pauses_on, hg.pauses, hc, hp.pauses]
  · rw [State.modes_on, hg.modes, hc, hp.modes]
  · rw [State.vt_on, hg.vt, hc, hp.vt]
  · rw [State.engs_on, hg.engs rfl, hc, hp.engs rfl]
  · rw [State.dram_on, hg.dram, hc, hp.dram]
  · rw [State.clocks_on, hg.clocks, hc, hp.clocks, State.deepVlane_congr hp.eff]
    rfl
  · exact State.flag_of_rd_one (State.rd_on_same hgok _ (by decide))

/-! Out of DEEP (R399) -/

section
variable {s : State} (hmode : s.devMode = 7) (hexit : s.modes.exiting = true) (hvlane : s.clocks.vlaneOff = false)
include hmode hexit hvlane

/-- The first DEEP_EXIT_COMPLETE, VLANE being back: with a PLL locked and nothing that holds the exit the training begins. -/
theorem exec_deepExitComplete_of_untrained (h : s.modes.retrains = none) : exec .deepExitComplete s =
    .next (if s.pauses.trip || s.flag CLKPWR_STATUS_HCK_LOST ||
      ! (s.flag CLKPWR_STATUS_PLL0_LOCK || s.flag CLKPWR_STATUS_PLL1_LOCK) then s else s.deepTrain) := by
  show execDeepExitComplete s = _
  rw [execDeepExitComplete, if_neg (by simp [hmode, hexit, hvlane, modeDeep]), h]

/-- The second: once the training is over the device is READY. -/
theorem exec_deepExitComplete_of_training {x : Nat} (h : s.modes.retrains = some x) : exec .deepExitComplete s =
    .next (if s.paused || ! s.deepTrained x then s
      else ((((s.put GLOBAL_MODE_MODE modeReady).updModes fun m => { m with exiting := false, retrains := none }).on
        GLOBAL_MODE_STAT_DEEP_EXITED).on GLOBAL_MODE_STAT_MODE_CHANGED)) := by
  show execDeepExitComplete s = _
  rw [execDeepExitComplete, if_neg (by simp [hmode, hexit, hvlane, modeDeep]), h]

end

/-- Before the training: ROSC no longer serves, and the uptime is noted. -/
def State.trainFrom (s : State) : State :=
  ((s.off CLKPWR_STATUS_ALM_ROSC).off CLKPWR_STATUS_HKCK_ROSC).updModes fun m => { m with retrains := some s.now }

/-- The layers leave self-refresh, and every channel outside it is due for retraining. -/
def State.layersBack (s : State) : State :=
  let u := if s.pauses.rail then s else s.leaveSelfRefresh
  u.each ((upFrom 0 34).filter fun c => u.mcState c ≠ 4 && ! u.flag (MC_STATE_SELFREF c)) fun u c => u.setDue c

theorem State.deepTrain_eq (s : State) :
    s.deepTrain = s.trainFrom.layersBack.resumeFrom fun p => { p with deep := false } := rfl

theorem leaves_layersBack (s : State) : Leaves true s s.layersBack :=
  (Leaves.refl.ite Leaves.refl.leaveSelfRefresh).each fun _ _ _ hu => hu.setDue

/-- The training of an exit leaves the device in DEEP, which pauses it no more, and the DRAM as it was. -/
theorem deepTrain_spec {s : State} (hs : s.regsOk) : s.deepTrain.devMode = s.devMode ∧
    s.deepTrain.modes = { s.modes with retrains := some s.clk.uptime } ∧ s.deepTrain.pauses.deep = false ∧
    s.deepTrain.flag CLKPWR_STATUS_ALM_ROSC = false ∧ s.deepTrain.dram = s.dram := by
  have halm := State.regsOk_put hs CLKPWR_STATUS_ALM_ROSC 0
  have hfrom : s.trainFrom.regsOk := State.regsOk_put halm CLKPWR_STATUS_HKCK_ROSC 0
  have hback := leaves_layersBack s.trainFrom
  obtain ⟨vt, hresume⟩ := leaves_resumeFrom s.trainFrom.layersBack fun p => { p with deep := false }
  rw [← State.deepTrain_eq] at hresume
  obtain ⟨hbackOk, hbackMode, hbackRosc⟩ := hback.regs hfrom
  obtain ⟨-, hmode, hrosc⟩ := hresume.regs hbackOk
  refine ⟨?_, hresume.modes.trans hback.modes, ?_, ?_, hresume.dram.trans hback.dram⟩
  · calc s.deepTrain.devMode = s.trainFrom.devMode := hmode.trans hbackMode
      _ = (s.off CLKPWR_STATUS_ALM_ROSC).devMode := State.rd_put_ne halm _ _ _ (by decide) (by decide)
      _ = s.devMode := State.rd_put_ne hs _ _ _ (by decide) (by decide)
  · rw [hresume.pauses]
  · have hzero : s.deepTrain.rd CLKPWR_STATUS_ALM_ROSC = 0 := calc
      s.deepTrain.rd CLKPWR_STATUS_ALM_ROSC = s.trainFrom.rd CLKPWR_STATUS_ALM_ROSC := hrosc.trans hbackRosc
      _ = (s.off CLKPWR_STATUS_ALM_ROSC).rd CLKPWR_STATUS_ALM_ROSC := State.rd_put_ne halm _ _ _ (by decide) (by decide)
      _ = 0 := State.rd_put_same hs _ _ (by decide)
    rw [State.flag, hzero]
    rfl

/-- In DEEP with no cause of a pause left the data plane does not stand still. -/
theorem State.not_paused_of_deep {s : State} (hmode : s.devMode = 7) (hp : s.pauses.any = false) : s.paused = false := by
  have hrd : bits (cget csrReset s.csr 0x10).toNat 0 3 = 7 := hmode
  rw [State.paused, hp, hrd]
  rfl

theorem State.deepTrained_of_late {s : State} {x : Nat} (h : x + 1500 ≤ s.clk.uptime) : s.deepTrained x = true := by
  rw [State.deepTrained, decide_eq_true (show x + 1500 ≤ s.now from h), Bool.true_or]

/-- The lanes and the link have trained: the device is READY, and nothing changes but that, the mode unit and
GLOBAL_MODE_STAT. -/
theorem exec_deepExitComplete_of_trained {s : State} (hs : s.regsOk) (hmode : s.devMode = 7)
    (hexit : s.modes.exiting = true) (hvlane : s.clocks.vlaneOff = false) {x : Nat} (hx : s.modes.retrains = some x)
    (hp : s.pauses.any = false) (htrained : s.deepTrained x = true) :
    ∃ t, exec .deepExitComplete s = .next t ∧ t.devMode = 2 ∧
      t.modes = { s.modes with exiting := false, retrains := none } ∧ t.pauses = s.pauses ∧
      t.flag GLOBAL_MODE_STAT_DEEP_EXITED = true ∧ t.flag GLOBAL_MODE_STAT_MODE_CHANGED = true ∧ t.dram = s.dram := by
  set u := (s.put GLOBAL_MODE_MODE modeReady).updModes fun m => { m with exiting := false, retrains := none } with hu
  have huok : u.regsOk := State.regsOk_put hs GLOBAL_MODE_MODE modeReady
  have hon := State.regsOk_on huok GLOBAL_MODE_STAT_DEEP_EXITED
  refine ⟨(u.on GLOBAL_MODE_STAT_DEEP_EXITED).on GLOBAL_MODE_STAT_MODE_CHANGED, ?_, ?_, rfl, rfl, ?_, ?_, rfl⟩
  · rw [exec_deepExitComplete_of_training hmode hexit hvlane hx]
    simp only [State.not_paused_of_deep hmode hp, htrained]
    rfl
  · calc ((u.on GLOBAL_MODE_STAT_DEEP_EXITED).on GLOBAL_MODE_STAT_MODE_CHANGED).devMode
      _ = (u.on GLOBAL_MODE_STAT_DEEP_EXITED).devMode := State.rd_on_ne hon _ _ (by decide) (by decide)
      _ = u.devMode := State.rd_on_ne huok _ _ (by decide) (by decide)
      _ = 2 := State.rd_put_same hs GLOBAL_MODE_MODE modeReady (by decide)
  · refine State.flag_of_rd_one ?_
    rw [State.rd_on_ne hon _ _ (by decide) (by decide), State.rd_on_same huok _ (by decide)]
    rfl
  · exact State.flag_of_rd_one (State.rd_on_same hon _ (by decide))

/-- Settles O14: the entry by the checks of R394 in their order, the exit by its two commands. -/
theorem deepSleep : Obligations.DeepSleep := by
  unfold Obligations.DeepSleep
  intro s hs
  dsimp only
  refine ⟨?_, ?_, ?_, ?_, ?_, ?_, ?_, ?_⟩
  · intro hmode
    exact exec_deepEnter_of_refused hs (State.deepCheck_of_not_ready hmode) (by decide) (by decide)
  · intro hmode hawake
    exact exec_deepEnter_of_refused hs (State.deepCheck_of_not_asleep hmode hawake) (by decide) (by decide)
  · intro hmode hasleep hbusy
    exact exec_deepEnter_of_refused hs (by rw [State.deepCheck_of_asleep hmode hasleep, if_pos hbusy]) (by decide)
      (by decide)
  · intro hmode hasleep hidle
    obtain ⟨t, ht, hdeep, hpause, hmodes, hvt, hengs, hdram, hclocks, hchanged⟩ :=
      exec_deepEnter_of_accepted hs (by rw [State.deepCheck_of_asleep hmode hasleep, hidle]; rfl)
    refine ⟨t, ht, hdeep, hpause, hmodes, hvt, hengs, hdram, ?_, hchanged⟩
    rw [hclocks, ← State.deepVlane_iff, Bool.not_eq_false']
  · intro hmode
    exact ⟨s.modeRefuse 2, congrArg Host.Outcome.next (if_pos hmode), modeRefuse_spec hs (by decide)⟩
  · intro hmode
    exact congrArg Host.Outcome.next (if_neg (not_not.2 hmode))
  · intro hmode hexit hvlane hbegin
    rw [exec_deepExitComplete_of_untrained hmode hexit hvlane hbegin]
    refine ⟨fun htrip hhck hpll => ?_, fun hheld => ?_⟩
    · obtain ⟨hdeep, hmodes, hpause, hrosc, hdram⟩ := deepTrain_spec hs
      refine ⟨s.deepTrain, ?_, hdeep.trans hmode, hmodes, hpause, hrosc, hdram⟩
      rw [if_neg]
      rcases hpll with hpll | hpll <;> simp [htrip, hhck, hpll]
    · rw [if_pos]
      rcases hheld with htrip | hhck | ⟨hpll0, hpll1⟩
      · simp [htrip]
      · simp [hhck]
      · simp [hpll0, hpll1]
  · intro x hmode hexit hvlane hx hp
    refine ⟨exec_deepExitComplete_of_trained hs hmode hexit hvlane hx hp, State.deepTrained_of_late, fun hnot => ?_⟩
    rw [exec_deepExitComplete_of_training hmode hexit hvlane hx]
    simp [hnot]

end Sys2Proof.Machine
end


section
/-! SUPPORT and the refutation of ClocksAndRails: the statement says nothing of the host link's unanswered molt, which the
pause of a loss of HCK brings to its end with the link (R272, R293, R325). -/
namespace Sys2Proof.Machine
open Csr

/-- A number that none of the 9 host lanes has. The register of such a lane would lie at 0x300100 + 4 * staleLane =
0x800000, which is CLKPWR_STATUS, with SWITCHING and HCK_LOST as the low bits of its TX state. -/
def staleLane : Nat := 0x13FFC0

/-- READY, with HCK there and a TX molt from that lane unanswered. -/
def staleMolt : State :=
  { State.reset.put GLOBAL_MODE_MODE modeReady with
    hl := { molt := some ({ op := 4, tag := 1, args := [], on := staleLane }, 0, staleLane, true) } }

theorem regsOk_staleMolt : staleMolt.regsOk :=
  State.regsOk_of_csr (State.regsOk_put (s := State.reset) rfl GLOBAL_MODE_MODE modeReady) rfl

/-- The outcome is a state in which CLKPWR_STATUS shows HCK lost. -/
def showsHckLost : Outcome → Bool
  | .next t => t.flag CLKPWR_STATUS_HCK_LOST
  | _ => false

/-- The loss sets HCK_LOST first; then its pause takes the host link DOWN, and the old lane of the molt goes OFF (8): in this
state that clears HCK_LOST again. -/
theorem not_showsHckLost_clockMonitorWindow_staleMolt :
    showsHckLost (exec (.clockMonitorWindow 0) staleMolt) = false := by decide +kernel

/-- Refutes O17: the statement assumes of a state only that its registers are canonical. Where the host link's unanswered
molt names a lane that does not exist, the pause of a loss of HCK writes that lane's state over CLKPWR_STATUS, and HCK_LOST
reads 0 after a bad monitor window. The model's own molts name lanes 0 to 8 (State.hMolt); the statement does not assume
that bound. -/
theorem not_clocksAndRails : ¬ Obligations.ClocksAndRails := by
  unfold Obligations.ClocksAndRails
  intro h
  obtain ⟨-, -, -, -, -, -, -, -, hbad, -⟩ := h 0 0 0 0 staleMolt regsOk_staleMolt
  have hwatched : staleMolt.devMode ≠ 0 ∧ staleMolt.devMode ≠ 7 := by decide +kernel
  obtain ⟨hhold, hdeep⟩ := hwatched
  obtain ⟨t, ht, -, hlost, -⟩ := hbad ⟨hhold, .inl hdeep⟩ (by decide +kernel) (by decide)
  have hshown := not_showsHckLost_clockMonitorWindow_staleMolt
  rw [ht, showsHckLost, hlost] at hshown
  exact absurd hshown.symm Bool.false_ne_true

end Sys2Proof.Machine
end


section
/-! SUPPORT. Capture units: comparing a lane-cycle's pins, counting its fails, queueing its record, and answering a slot of an
echo entry (R160, R166 to R168, R172). -/
namespace Sys2Proof.Machine
open Csr

/-! Registers alone change -/

namespace OnlyRegs
variable {as : List Nat} {s t : State}

theorem inc (h : OnlyRegs as s t) (ht : t.regsOk) {f : Fld} (hf : f.addr ∈ as) : OnlyRegs as s (t.inc f) := by
  obtain ⟨hst, hreg⟩ := h
  exact OnlyRegs.put (t := t.noteEvent f fun m => satAdd f.w m 1)
    ⟨congrArg (fun x : State => { x with csr := t.csr, fresh := (t.inc f).fresh }) hst, hreg⟩ ht hf

/-- A field of a register that is not among those named reads as before. -/
theorem rd (h : OnlyRegs as s t) {f : Fld} (hf : f.addr ∉ as) : t.rd f = s.rd f := by
  obtain ⟨-, hreg⟩ := h
  rw [State.rd, hreg _ hf, State.rd]

theorem caps (h : OnlyRegs as s t) : t.caps = s.caps := by rw [h.1]
theorem img (h : OnlyRegs as s t) : t.img = s.img := by rw [h.1]

end OnlyRegs

/-! One capture unit's update -/

theorem State.cap_updCap_self (s : State) (u : Fin 9) (f : CaptureUnit → CaptureUnit) :
    (s.updCap u f).cap u = f (s.cap u) := by
  simp [State.updCap, State.cap, Vector.getD]

@[simp] theorem State.cap_put (s : State) (f : Fld) (v u : Nat) : (s.put f v).cap u = s.cap u := rfl
@[simp] theorem State.cap_off (s : State) (f : Fld) (u : Nat) : (s.off f).cap u = s.cap u := rfl
@[simp] theorem State.cap_inc (s : State) (f : Fld) (u : Nat) : (s.inc f).cap u = s.cap u := rfl
@[simp] theorem State.cap_peak (s : State) (f : Fld) (v u : Nat) : (s.peak f v).cap u = s.cap u := rfl

theorem State.cap_congr {s t : State} (h : t.caps = s.caps) (u : Nat) : t.cap u = s.cap u := by
  rw [State.cap, h, State.cap]

/-! Fail records (R168) -/

/-- A FAIL record's word below the stamp: its fields in their places, the failing pins above them. -/
theorem failRec_toNat_mod (vt part unit typ lane mask : Nat) (stamp : BitVec 56) (cycle edge : Nat) (partial_ : Bool)
    (cause run : Nat) : (failRec vt part unit typ lane mask stamp cycle edge partial_ cause run).bits.toNat % 2 ^ 128 =
      (2 ^ 64 * mask + (vt % 2 ^ 48 + part * 2 ^ 48 + unit * 2 ^ 52 + typ * 2 ^ 55 + lane * 2 ^ 56)) % 2 ^ 128 := by
  rw [failRec, BitVec.toNat_ofNat]
  omega

section
variable {vt part unit lane mask : Nat} {stamp : BitVec 56} {cycle edge : Nat} {partial_ : Bool} {run : Nat}

/-- The fields of a FAIL record below its pins: VT, partition, type 0 and lane. -/
theorem failRec_fields (hp : part < 16) (hu : unit < 8) (hl : lane < 256) :
    let r := (failRec vt part unit 0 lane mask stamp cycle edge partial_ 0 run).bits.toNat
    bits r 0 48 = vt % 2 ^ 48 ∧ bits r 48 4 = part ∧ bits r 55 1 = 0 ∧ bits r 56 8 = lane := by
  intro r
  have hr : r % 2 ^ 128 = _ := failRec_toNat_mod vt part unit 0 lane mask stamp cycle edge partial_ 0 run
  simp only [bits, Nat.shiftRight_eq_div_pow]
  omega

/-- The pins of a FAIL record. -/
theorem failRec_pin (hp : part < 16) (hu : unit < 8) (hl : lane < 256) {j : Nat} (hj : j < 64) :
    (failRec vt part unit 0 lane mask stamp cycle edge partial_ 0 run).bits.getLsbD (64 + j) = mask.testBit j := by
  have hr := congrArg (Nat.testBit · (64 + j))
    (failRec_toNat_mod vt part unit 0 lane mask stamp cycle edge partial_ 0 run)
  have hlow : vt % 2 ^ 48 + part * 2 ^ 48 + unit * 2 ^ 52 + 0 * 2 ^ 55 + lane * 2 ^ 56 < 2 ^ 64 := by omega
  simp only [Nat.testBit_mod_two_pow, Nat.testBit_two_pow_mul_add _ hlow, decide_eq_true (show 64 + j < 128 by omega),
    if_neg (show ¬ 64 + j < 64 by omega), Nat.add_sub_cancel_left, Bool.true_and] at hr
  rw [← BitVec.testBit_toNat, hr]

end

/-- A bit set at 219 or above leaves the fields below as they are. -/
theorem bits_congr {v w : BitVec 256} {n : Nat} (h : ∀ i, i < n → v.getLsbD i = w.getLsbD i) {lo k : Nat}
    (hk : lo + k ≤ n) : bits v.toNat lo k = bits w.toNat lo k := by
  refine Nat.eq_of_testBit_eq fun i => ?_
  rw [testBit_bits, testBit_bits]
  by_cases hi : i < k
  · rw [BitVec.testBit_toNat, BitVec.testBit_toNat, h _ (by omega)]
  · simp [hi]

/-- A record queued after dropped ones says so; the rest of it is as it was (R172). -/
def FailRec.marked (r : FailRec) (dropped : Bool) : FailRec :=
  if dropped then { r with bits := r.bits ||| (1 <<< 219) } else r

theorem FailRec.marked_part (r : FailRec) (d : Bool) : (r.marked d).part = r.part := by
  cases d <;> rfl

theorem FailRec.marked_getLsbD (r : FailRec) (d : Bool) {i : Nat} (hi : i < 219) :
    (r.marked d).bits.getLsbD i = r.bits.getLsbD i := by
  cases d
  · rfl
  · show (r.bits ||| (1 <<< 219)).getLsbD i = _
    have hbit : (2 ^ 219).testBit i = false := Nat.testBit_two_pow_of_ne (by omega)
    rw [BitVec.getLsbD_or, BitVec.natCast_eq_ofNat, BitVec.getLsbD_ofNat, Nat.one_shiftLeft, hbit, Bool.and_false,
      Bool.or_false]

/-! Comparing pins (R166) -/

/-- Pin i of a lane-cycle was expected and sampled, and its level differs. -/
def EchoEnt.fails (x : EchoEnt) (base : Nat) (nib : Nat → Nat) (i : Nat) : Bool :=
  decide (x.expect (base + i) ≠ 3 ∧ nib i % 4 ≠ 3 ∧ nib i % 4 ≠ x.expect (base + i))

theorem testBit_putBit_true (v b i : Nat) : (putBit v b true).testBit i = (decide (i = b) || v.testBit i) := by
  rw [putBit, testBit_putBits]
  by_cases h : i = b
  · subst h
    simp
  · rw [if_neg (by omega)]
    simp [h]

theorem upFrom_succ (n : Nat) : upFrom 0 (n + 1) = upFrom 0 n ++ [n] := by
  simp [upFrom_eq_range', ← List.range_eq_range', List.range_succ]

/-- One more pin is compared. -/
theorem comparePins_succ (x : EchoEnt) (base n : Nat) (nib : Nat → Nat) :
    comparePins x base (n + 1) nib =
      let a := comparePins x base n nib
      if x.expect (base + n) = 3 then a
      else if nib n % 4 = 3 then (a.1, putBit a.2.1 (base + n) true, a.2.2)
      else if nib n % 4 = x.expect (base + n) then a
      else (putBit a.1 (base + n) true, a.2.1, a.2.2 ||| nib n / 4 % 4) := by
  rw [comparePins, upFrom_succ, List.foldl_append]
  rfl

theorem comparePins_fst_succ (x : EchoEnt) (base n : Nat) (nib : Nat → Nat) :
    (comparePins x base (n + 1) nib).1 =
      if x.fails base nib n then putBit (comparePins x base n nib).1 (base + n) true
      else (comparePins x base n nib).1 := by
  rw [comparePins_succ]
  simp only [EchoEnt.fails, decide_eq_true_eq]
  split_ifs <;> tauto

/-- The pins found failing: those compared that fail. -/
theorem testBit_comparePins (x : EchoEnt) (base n : Nat) (nib : Nat → Nat) (i : Nat) :
    (comparePins x base n nib).1.testBit (base + i) = (decide (i < n) && x.fails base nib i) := by
  induction n with
  | zero => simp [comparePins, upFrom]
  | succ n ih =>
    rw [comparePins_fst_succ]
    by_cases hi : i = n
    · subst hi
      split
      next hf => simp [testBit_putBit_true, hf]
      next hf => simp [ih, hf]
    · have hlt : decide (i < n + 1) = decide (i < n) := decide_eq_decide.2 (by omega)
      split
      next => rw [testBit_putBit_true, ih, hlt]; simp [hi]
      next => rw [ih, hlt]

/-- A pin that fails is found. -/
theorem comparePins_ne_zero {x : EchoEnt} {base n : Nat} {nib : Nat → Nat} {i : Nat} (hi : i < n)
    (hf : x.fails base nib i = true) : (comparePins x base n nib).1 ≠ 0 := by
  intro h0
  have h := testBit_comparePins x base n nib i
  rw [h0, Nat.zero_testBit, decide_eq_true hi, hf] at h
  exact Bool.false_ne_true h

/-- With a sample for every pin that is expected, none is missing. -/
theorem comparePins_missing (x : EchoEnt) (base n : Nat) (nib : Nat → Nat)
    (h : ∀ i, i < n → x.expect (base + i) = 3 ∨ nib i % 4 ≠ 3) : (comparePins x base n nib).2.1 = 0 := by
  induction n with
  | zero => rfl
  | succ n ih =>
    have hn := h n (Nat.lt_succ_self n)
    rw [comparePins_succ]
    dsimp only
    split_ifs
    · exact ih fun i hi => h i (by omega)
    · tauto
    · exact ih fun i hi => h i (by omega)
    · exact ih fun i hi => h i (by omega)

/-! Failing pins count (R167) -/

/-- Each pin of a list counts once against its counter of unit u. -/
def State.countFails (s : State) (u c : Nat) (l : List Nat) : State :=
  s.each l fun s i => s.inc (CAP_PINCNT_FAILS u (c + i))

/-- The addresses of unit u's pin counters. -/
def pinCounters (u c : Nat) (l : List Nat) : List Nat := l.map fun i => (CAP_PINCNT_FAILS u (c + i)).addr

theorem notMem_pinCounters {a u c : Nat} {l : List Nat} (h : a < capBase u + 0x1000) : a ∉ pinCounters u c l := by
  simp only [pinCounters, List.mem_map, not_exists, not_and]
  intro i _
  omega

theorem onlyRegs_countFails {s : State} (hs : s.regsOk) (u c : Nat) (l : List Nat) :
    OnlyRegs (pinCounters u c l) s (s.countFails u c l) ∧ (s.countFails u c l).regsOk := by
  refine State.each_induction (P := fun t => OnlyRegs _ s t ∧ t.regsOk) ⟨OnlyRegs.refl, hs⟩ l _ ?_
  rintro t i hi ⟨ht, hok⟩
  exact ⟨ht.inc hok (List.mem_map_of_mem hi), State.regsOk_add hok _ _⟩

theorem rd_countFails {s : State} (hs : s.regsOk) (u c : Nat) {l : List Nat} (hl : l.Nodup) (i : Nat) :
    (s.countFails u c l).rd (CAP_PINCNT_FAILS u (c + i)) =
      min (s.rd (CAP_PINCNT_FAILS u (c + i)) + if i ∈ l then 1 else 0) (2 ^ 32 - 1) := by
  induction l generalizing s with
  | nil =>
    have hlt : s.rd (CAP_PINCNT_FAILS u (c + i)) < 2 ^ 32 := bits_lt _ _ _
    simp only [State.countFails, State.each, List.foldl_nil, List.not_mem_nil, if_false]
    omega
  | cons a l ih =>
    obtain ⟨ha, hl⟩ := List.nodup_cons.1 hl
    have hinc : (s.inc (CAP_PINCNT_FAILS u (c + a))).regsOk := State.regsOk_add hs _ _
    rw [show s.countFails u c (a :: l) = (s.inc (CAP_PINCNT_FAILS u (c + a))).countFails u c l from rfl, ih hinc hl]
    by_cases hi : i = a
    · subst hi
      rw [State.rd_inc_same hs _ (by simp), if_neg ha, if_pos List.mem_cons_self]
      dsimp only
      omega
    · rw [State.rd_inc_ne hs _ _ (by simp) (.inl (by dsimp only; omega))]
      simp [hi]

/-! A record is queued (R172) -/

/-- A record whose segment has room is queued behind the others; the image unit is left alone. -/
theorem queueRec_of_room {s : State} {u : Fin 9} {r : FailRec} {g : LogSeg} (hseg : s.seg u r.part = some g)
    (hfull : s.segFull u r.part = false) (hq : (s.cap u).queue.length < 512) :
    ((s.queueRec u r).cap u).queue = (s.cap u).queue ++ [r.marked g.dropBefore] ∧ (s.queueRec u r).img = s.img := by
  rw [State.queueRec, hseg]
  simp only [hfull, Bool.false_and, Bool.false_eq_true, if_false, Bool.false_or, decide_eq_true_eq, if_neg (not_le.2 hq)]
  rw [State.cap_peak, State.updSeg, State.cap_updCap_self, State.cap_updCap_self]
  exact ⟨rfl, rfl⟩

theorem seg_congr {s t : State} (h : t.caps = s.caps) (u p : Nat) : t.seg u p = s.seg u p := by
  rw [State.seg, State.cap_congr h, State.seg]

theorem segFull_congr {s t : State} (hcaps : t.caps = s.caps) (himg : t.img = s.img) (u p : Nat) :
    t.segFull u p = s.segFull u p := by
  unfold State.segFull State.nrec State.segLen State.regionOf State.partRegions State.partGroups State.partLanes
    State.partEngs State.engLanes
  rw [seg_congr hcaps, himg]

/-! A slot is answered (R160) -/

/-- The ring of a unit once a slot of an entry is answered. -/
def CaptureUnit.answered (c : CaptureUnit) (x : EchoEnt) (slot : Nat) : List EchoEnt :=
  if (x.answer slot).done then c.ring.erase x else c.ring.map fun z => if z = x then x.answer slot else z

/-- Easing ECHO_FULL changes that flag and the room that lacked. -/
theorem cap_echoEase (s : State) (u : Fin 9) :
    ((s.echoEase u).cap u).ring = (s.cap u).ring ∧ ((s.echoEase u).cap u).queue = (s.cap u).queue := by
  unfold State.echoEase
  split
  · rw [State.cap_off, State.cap_updCap_self]
    exact ⟨rfl, rfl⟩
  · exact ⟨rfl, rfl⟩

theorem reg_echoEase {s : State} (hs : s.regsOk) (u : Nat) {a : Nat} (ha : a ≠ capBase u) :
    (s.echoEase u).reg a = s.reg a := by
  unfold State.echoEase
  split
  · exact State.reg_put_ne (s := s.updCap u _) hs _ _ _ ha
  · rfl

theorem cap_answer (s : State) (u : Fin 9) (x : EchoEnt) (slot : Nat) :
    ((s.answer u x slot).cap u).ring = (s.cap u).answered x slot ∧
      ((s.answer u x slot).cap u).queue = (s.cap u).queue := by
  have h := cap_echoEase (s.updCap u fun c => { c with ring := c.answered x slot }) u
  rwa [State.cap_updCap_self] at h

/-- A field outside CAP_STATUS reads as before. -/
theorem rd_answer {s : State} (hs : s.regsOk) (u : Nat) (x : EchoEnt) (slot : Nat) {f : Fld} (hf : f.addr ≠ capBase u) :
    (s.answer u x slot).rd f = s.rd f := by
  rw [State.rd, State.answer, reg_echoEase (s := s.updCap u _) hs u hf]
  rfl

end Sys2Proof.Machine
end


section
/-! SUPPORT and the certificate of ReturnedSamples: a returned lane-cycle against its echo entry (R165 to R168, R372). -/
namespace Sys2Proof.Machine
open Csr

/-! A lane-cycle is compared (R166, R167) -/

/-- What the comparison of a lane-cycle finds: failing pins, pins without a sample, edges. -/
def State.compared (s : State) (slot p : Nat) (x : EchoEnt) (nib : Nat → Nat) : Nat × Nat × Nat :=
  comparePins x (slot * s.pPart p) (s.pPart p) nib

/-- The state once the failing pins of a lane-cycle have counted. -/
def State.failsCounted (s : State) (u lane slot p : Nat) (x : EchoEnt) (nib : Nat → Nat) : State :=
  s.countFails u (16 * (lane % 12)) ((upFrom 0 (s.pPart p)).filter fun i => x.fails (slot * s.pPart p) nib i)

/-- The record of a lane-cycle that fails with no pin unsampled (R168). -/
def State.failRecOf (s : State) (u lane slot p : Nat) (x : EchoEnt) (nib : Nat → Nat) : FailRec :=
  let r := s.compared slot p x nib
  failRec x.vt p (s.groupOf u) 0 lane r.1 x.stamp x.cycle r.2.2 false 0 0

/-- The state once a lane-cycle that fails has counted and, where fails are logged, its record is queued or dropped. -/
def State.failLogged (s : State) (u lane slot p : Nat) (x : EchoEnt) (nib : Nat → Nat) : State :=
  let t := s.failsCounted u lane slot p x nib
  if s.capEn p 0 then t.queueRec u (s.failRecOf u lane slot p x nib) else t

theorem capEn_congr {s t : State} (h : t.img = s.img) (p b : Nat) : t.capEn p b = s.capEn p b := by
  rw [State.capEn, State.capRec, h, State.capEn, State.capRec]

section
variable {s : State} {u lane slot p : Nat} {x : EchoEnt} {nib : Nat → Nat}

theorem failsCounted_of_none (h : (s.compared slot p x nib).1 = 0) : s.failsCounted u lane slot p x nib = s := by
  have hnone : ((upFrom 0 (s.pPart p)).filter fun i => x.fails (slot * s.pPart p) nib i) = [] :=
    List.filter_eq_nil_iff.2 fun i hi hf => comparePins_ne_zero (mem_upFrom_zero.1 hi) hf h
  rw [State.failsCounted, hnone]
  rfl

/-- The count changes pin counters alone. -/
theorem onlyRegs_failsCounted (hs : s.regsOk) (u lane slot p : Nat) (x : EchoEnt) (nib : Nat → Nat) :
    (∃ c l, OnlyRegs (pinCounters u c l) s (s.failsCounted u lane slot p x nib)) ∧
      (s.failsCounted u lane slot p x nib).regsOk := by
  obtain ⟨hregs, hok⟩ := onlyRegs_countFails hs u (16 * (lane % 12))
    ((upFrom 0 (s.pPart p)).filter fun i => x.fails (slot * s.pPart p) nib i)
  exact ⟨⟨_, _, hregs⟩, hok⟩

/-- Each failing pin has counted once. -/
theorem rd_failsCounted (hs : s.regsOk) {i : Nat} (hi : i < s.pPart p) :
    (s.failsCounted u lane slot p x nib).rd (CAP_PINCNT_FAILS u (16 * (lane % 12) + i)) =
      min (s.rd (CAP_PINCNT_FAILS u (16 * (lane % 12) + i)) +
        if x.fails (slot * s.pPart p) nib i then 1 else 0) (2 ^ 32 - 1) := by
  have hnodup : (upFrom 0 (s.pPart p)).Nodup := by rw [upFrom_eq_range']; exact List.nodup_range'
  rw [State.failsCounted, rd_countFails hs _ _ (hnodup.filter _)]
  simp only [List.mem_filter, mem_upFrom_zero, hi, true_and]

/-- The pins that a comparison finds failing are those that count. -/
theorem failsCounted_eq : s.failsCounted u lane slot p x nib =
    s.each ((upFrom 0 (s.pPart p)).filter fun i => bit (s.compared slot p x nib).1 (slot * s.pPart p + i))
      fun s i => s.inc (CAP_PINCNT_FAILS u (16 * (lane % 12) + i)) := by
  refine congrArg (s.countFails u (16 * (lane % 12))) (List.filter_congr fun i hi => ?_)
  rw [State.compared, bit, testBit_comparePins, decide_eq_true (mem_upFrom_zero.1 hi), Bool.true_and]

variable (hsampled : ∀ i, i < s.pPart p → x.expect (slot * s.pPart p + i) = 3 ∨ nib i % 4 ≠ 3)
include hsampled

theorem compareCycle_of_passes (hpass : (s.compared slot p x nib).1 = 0) : s.compareCycle u lane slot p x nib = s := by
  have hmissing : (s.compared slot p x nib).2.1 = 0 := comparePins_missing x _ _ nib hsampled
  rw [State.compared] at hmissing hpass
  simp only [State.compareCycle, hmissing, hpass, if_true]

/-- A lane-cycle that fails, with a sample for every expected pin and neither a map nor counters to keep. -/
theorem compareCycle_of_fails (hs : s.regsOk) (hfails : (s.compared slot p x nib).1 ≠ 0)
    (himg : (s.failLogged u lane slot p x nib).img = s.img) (hmap : s.capEn p 1 = false) (hrc : s.capEn p 2 = false) :
    s.compareCycle u lane slot p x nib = s.failLogged u lane slot p x nib := by
  have hmissing : (s.compared slot p x nib).2.1 = 0 := comparePins_missing x _ _ nib hsampled
  obtain ⟨⟨_, _, hcounted⟩, -⟩ := onlyRegs_failsCounted hs u lane slot p x nib
  have hlogged : s.failLogged u lane slot p x nib =
      if (s.failsCounted u lane slot p x nib).capEn p 0 then (s.failsCounted u lane slot p x nib).queueRec u
        (failRec x.vt p ((s.failsCounted u lane slot p x nib).groupOf u) 0 lane (s.compared slot p x nib).1 x.stamp x.cycle
          (s.compared slot p x nib).2.2 false 0 0)
      else s.failsCounted u lane slot p x nib := by
    rw [capEn_congr hcounted.img, State.groupOf, hcounted.rd (notMem_pinCounters (by dsimp only; omega))]
    rfl
  rw [failsCounted_eq, State.compared] at hlogged
  rw [State.compared] at hmissing hfails
  simp only [State.compareCycle, hmissing, if_neg hfails, if_true, ne_eq, not_true, decide_false, ← hlogged,
    capEn_congr himg, hmap, hrc, Bool.false_and, Bool.false_eq_true, if_false]
  split <;> rfl

/-- Under a capture record that keeps nothing, or without one, the failing pins count. -/
theorem compareCycle_of_uncaptured (hs : s.regsOk) (hlog : s.capEn p 0 = false) (hmap : s.capEn p 1 = false)
    (hrc : s.capEn p 2 = false) : s.compareCycle u lane slot p x nib = s.failsCounted u lane slot p x nib := by
  obtain ⟨⟨_, _, hcounted⟩, -⟩ := onlyRegs_failsCounted hs u lane slot p x nib
  have hlogged : s.failLogged u lane slot p x nib = s.failsCounted u lane slot p x nib := if_neg (by simp [hlog])
  by_cases hpass : (s.compared slot p x nib).1 = 0
  · rw [compareCycle_of_passes hsampled hpass, failsCounted_of_none hpass]
  · rw [compareCycle_of_fails hsampled hs hpass (by rw [hlogged, hcounted.img]) hmap hrc, hlogged]

end

/-! The record of a lane-cycle's fails (R168, R172) -/

/-- A segment with room takes the record; the image unit is left alone. -/
theorem failLogged_of_room {s : State} (hs : s.regsOk) {u : Fin 9} {lane slot p : Nat} {x : EchoEnt} {nib : Nat → Nat}
    {g : LogSeg} (hlog : s.capEn p 0 = true) (hseg : s.seg u p = some g) (hfull : s.segFull u p = false)
    (hq : (s.cap u).queue.length < 512) :
    ((s.failLogged u lane slot p x nib).cap u).queue =
        (s.cap u).queue ++ [(s.failRecOf u lane slot p x nib).marked g.dropBefore] ∧
      (s.failLogged u lane slot p x nib).img = s.img := by
  obtain ⟨⟨_, _, hcounted⟩, -⟩ := onlyRegs_failsCounted hs u lane slot p x nib
  have hcap := State.cap_congr hcounted.caps u
  rw [State.failLogged, hlog, if_pos rfl]
  obtain ⟨hqueue, himg⟩ := queueRec_of_room (s := s.failsCounted u lane slot p x nib)
    (r := s.failRecOf u lane slot p x nib) (g := g) ((seg_congr hcounted.caps u p).trans hseg)
    ((segFull_congr hcounted.caps hcounted.img u p).trans hfull) (by rwa [hcap])
  rw [hcap] at hqueue
  exact ⟨hqueue, himg.trans hcounted.img⟩

/-- What the record says (R168). -/
theorem failRecOf_spec {s : State} {u lane slot p : Nat} {x : EchoEnt} {nib : Nat → Nat} (d : Bool) (hp : p < 16)
    (hu : s.groupOf u < 8) (hl : lane < 256) (hvt : x.vt < 2 ^ 48) :
    let r := (s.failRecOf u lane slot p x nib).marked d
    r.part = p ∧ bits r.bits.toNat 0 48 = x.vt ∧ bits r.bits.toNat 48 4 = p ∧ bits r.bits.toNat 55 1 = 0 ∧
      bits r.bits.toNat 56 8 = lane ∧ ∀ i, i < s.pPart p → slot * s.pPart p + i < 64 →
        r.bits.getLsbD (64 + slot * s.pPart p + i) = x.fails (slot * s.pPart p) nib i := by
  intro r
  have hlow : ∀ i, i < 219 → r.bits.getLsbD i = (s.failRecOf u lane slot p x nib).bits.getLsbD i :=
    fun i hi => FailRec.marked_getLsbD _ d hi
  obtain ⟨hrvt, hrpart, hrtype, hrlane⟩ := failRec_fields (vt := x.vt) (part := p) (unit := s.groupOf u) (lane := lane)
    (mask := (s.compared slot p x nib).1) (stamp := x.stamp) (cycle := x.cycle)
    (edge := (s.compared slot p x nib).2.2) (partial_ := false) (run := 0) hp hu hl
  refine ⟨FailRec.marked_part _ d, (bits_congr hlow (by decide)).trans (hrvt.trans (Nat.mod_eq_of_lt hvt)),
    (bits_congr hlow (by decide)).trans hrpart, (bits_congr hlow (by decide)).trans hrtype,
    (bits_congr hlow (by decide)).trans hrlane, fun i hi hpin => ?_⟩
  rw [hlow _ (by omega), Nat.add_assoc, State.failRecOf, failRec_pin hp hu hl hpin, State.compared, testBit_comparePins,
    decide_eq_true hi, Bool.true_and]

/-! A sample comes back (R165) -/

section
variable {s : State} {u : Fin 9} {lane e slot p v : Nat} {nib : Nat → Nat}

section
variable (h : ∀ x ∈ (s.cap u).ring, ¬ (x.engine = e ∧ x.vt = v))
include h

/-- A sample whose cycle the ring does not hold, of an engine without an entry yet: ahead. -/
theorem capSample_of_no_newest (hn : (s.cap u).newest.find? (fun n => n.1 = e) = none) :
    s.capSample u lane e slot p v nib = s.inc (CAP_ECHO_AHEAD u) := by
  have hnone : (s.cap u).ring.find? (fun x => x.engine = e && x.vt = v) = none := by
    simpa [List.find?_eq_none] using h
  simp only [State.capSample, hnone, hn]

/-- Behind the engine's newest entry it is unmatched, else ahead. -/
theorem capSample_of_newest {n : Nat × Nat} (hn : (s.cap u).newest.find? (fun n => n.1 = e) = some n) :
    s.capSample u lane e slot p v nib =
      if vtGe n.2 v then s.inc (CAP_ECHO_UNMATCHED u) else s.inc (CAP_ECHO_AHEAD u) := by
  have hnone : (s.cap u).ring.find? (fun x => x.engine = e && x.vt = v) = none := by
    simpa [List.find?_eq_none] using h
  simp only [State.capSample, hnone, hn]

end

variable {x : EchoEnt} (hx : (s.cap u).ring.find? (fun x => x.engine = e && x.vt = v) = some x)
include hx

theorem capSample_of_stale (hstale : x.stale = true) : s.capSample u lane e slot p v nib = s := by
  rw [State.capSample, hx]
  exact if_pos hstale

variable (hlive : x.stale = false)
include hlive

theorem capSample_of_answered (ha : bit x.answered slot = true) :
    s.capSample u lane e slot p v nib = s.inc (CAP_ECHO_UNMATCHED u) := by
  rw [State.capSample, hx]
  simp only [hlive, ha, Bool.false_eq_true, if_false, if_true]

theorem capSample_of_closed (ha : bit x.answered slot = false) (hw : s.winOpen p v = false) :
    s.capSample u lane e slot p v nib = (s.inc (CAP_PART_CLOSED u p)).answer u x slot := by
  rw [State.capSample, hx]
  simp only [hlive, ha, hw, Bool.false_eq_true, if_false]

theorem capSample_of_open (ha : bit x.answered slot = false) (hw : s.winOpen p v = true) :
    s.capSample u lane e slot p v nib = (s.compareCycle u lane slot p x nib).answer u x slot := by
  rw [State.capSample, hx]
  simp only [hlive, ha, hw, Bool.false_eq_true, if_false, if_true]

end

/-- A sample that only counts changes one register. -/
theorem onlyRegs_inc {s : State} (hs : s.regsOk) (f : Fld) : OnlyRegs [f.addr] s (s.inc f) :=
  OnlyRegs.refl.inc hs (List.mem_singleton.2 rfl)

/-- Settles O37: the sample's entry decides what it counts as; one inside the window is compared pin by pin, and a
lane-cycle that fails is recorded. -/
theorem returnedSamples : Obligations.ReturnedSamples := by
  unfold Obligations.ReturnedSamples
  intro u lane e slot p v nib s hs hlane hp
  dsimp only
  refine ⟨fun hnone => ⟨fun hnew => ?_, fun n hn hge => ?_, fun n hn hge => ?_⟩, fun x hx hstale => ?_,
    fun x hx hlive ha => ?_, fun x hx hlive ha hw => ?_, fun x hx hlive ha hw hpp hsampled h0 h1 h2 => ?_,
    fun x g hx hlive ha hw hpp hsampled hfail h0 h1 h2 hseg hfull hq hvt hgroup => ?_⟩
  · rw [capSample_of_no_newest hnone (by simpa [List.find?_eq_none] using hnew)]
    exact ⟨State.rd_inc_same hs _ (by simp), onlyRegs_inc hs _⟩
  · rw [capSample_of_newest hnone hn, if_neg (by simp [hge])]
    exact ⟨State.rd_inc_same hs _ (by simp), onlyRegs_inc hs _⟩
  · rw [capSample_of_newest hnone hn, if_pos hge]
    exact ⟨State.rd_inc_same hs _ (by simp), onlyRegs_inc hs _⟩
  · exact capSample_of_stale hx hstale
  · rw [capSample_of_answered hx hlive ha]
    exact ⟨State.rd_inc_same hs _ (by simp), onlyRegs_inc hs _⟩
  · rw [capSample_of_closed hx hlive ha hw]
    refine ⟨?_, (cap_answer _ u x slot).1⟩
    rw [rd_answer (s := s.inc (CAP_PART_CLOSED u p)) (State.regsOk_add hs _ _) u x slot (by dsimp only; omega)]
    exact State.rd_inc_same hs _ (by simp)
  · obtain ⟨⟨_, _, hcounted⟩, hok⟩ := onlyRegs_failsCounted hs u lane slot p x nib
    rw [capSample_of_open hx hlive ha hw, compareCycle_of_uncaptured hsampled hs h0 h1 h2]
    refine ⟨?_, fun i hi => ?_⟩
    · rw [(cap_answer _ u x slot).1, State.cap_congr hcounted.caps]
      rfl
    · rw [rd_answer hok u x slot (by dsimp only; omega), rd_failsCounted hs hi]
      simp only [EchoEnt.fails, decide_eq_true_eq]
  · obtain ⟨i, hi, hfi⟩ := hfail
    have hne : (s.compared slot p x nib).1 ≠ 0 := comparePins_ne_zero hi (decide_eq_true hfi)
    obtain ⟨hqueue, himg⟩ := failLogged_of_room (lane := lane) (slot := slot) (x := x) (nib := nib) hs h0 hseg hfull hq
    obtain ⟨hpart, hrvt, hrpart, hrtype, hrlane, hpins⟩ := failRecOf_spec (slot := slot) (x := x) (nib := nib)
      g.dropBefore hp hgroup (show lane < 256 by omega) hvt
    refine ⟨_, ?_, hpart, hrvt, hrpart, hrtype, hrlane, fun i hi hpin => ?_⟩
    · rw [capSample_of_open hx hlive ha hw, compareCycle_of_fails hsampled hs hne himg h1 h2,
        (cap_answer _ u x slot).2, hqueue]
    · rw [hpins i hi hpin]
      exact decide_eq_true_iff

end Sys2Proof.Machine
end


section
/-! SUPPORT. What the units do at a change of mode leaves the mode unit, the partitions' modes and, where one engine is kept in
view, that engine alone: the relation, the log, lanes and gated blocks. -/
namespace Sys2Proof.Machine
open Csr

/-- The registers that stay: the partitions' modes; with an engine kept in view the draining of partitions and its state. -/
def guarded : Option Eng → List Nat
  | none => [0x14, 0x18]
  | some g => [0x14, 0x18, 0x1C, (ENG_STATE_STATE g).addr]

/-- t differs from s in what engines, lanes, slices, the log and the gated blocks may change at a change of mode; engine g,
the image unit and an empty list of slices stay where g is named. -/
structure Spares (g : Option Eng) (s t : State) : Prop where
  modes : t.modes = s.modes
  engine : ∀ k ∈ g, t.eng k = s.eng k ∧ t.img = s.img ∧ (s.st.slices = [] → t.st.slices = [])
  regs : s.regsOk → t.regsOk ∧ ∀ a ∈ guarded g, t.reg a = s.reg a

/-- The field lies in no engine's registers, nor among the global ones. -/
def Fld.Far (f : Fld) : Prop := 0x1000 ≤ f.addr ∧ (f.addr < 0x100000 ∨ 0x148000 ≤ f.addr)

/-- The field lies in the registers of engine e. -/
def Fld.OfEngine (f : Fld) (e : Nat) : Prop := 0x100000 + 0x1000 * e ≤ f.addr ∧ f.addr < 0x101000 + 0x1000 * e

/-- e is not the engine kept in view. -/
def Unseen (g : Option Eng) (e : Nat) : Prop := ∀ k ∈ g, k.val ≠ e

theorem unseen_none (e : Nat) : Unseen none e := nofun

theorem notMem_guarded {g : Option Eng} {a : Nat} (ha : 0x1000 ≤ a) (hg : ∀ k ∈ g, a ≠ (ENG_STATE_STATE k).addr) :
    a ∉ guarded g := by
  cases g with
  | none => simp [guarded]; omega
  | some k =>
    have := hg k rfl
    simp [guarded] at this ⊢
    omega

theorem Fld.Far.notMem {g : Option Eng} {f : Fld} (h : f.Far) : f.addr ∉ guarded g := by
  obtain ⟨hlow, hout⟩ := h
  refine notMem_guarded hlow fun k _ => ?_
  have := k.isLt
  dsimp only
  omega

theorem Unseen.notMem {g : Option Eng} {e : Nat} (he : Unseen g e) {f : Fld}
    (hf : f.OfEngine e := by constructor <;> dsimp only <;> omega) : f.addr ∉ guarded g := by
  obtain ⟨hlow, hhigh⟩ := hf
  refine notMem_guarded (by omega) fun k hk => ?_
  have := he k hk
  dsimp only
  omega

namespace Spares
variable {g : Option Eng} {s t u : State}

/-! Composition -/

theorem refl : Spares g s s := ⟨rfl, fun _ _ => ⟨rfl, rfl, id⟩, fun h => ⟨h, fun _ _ => rfl⟩⟩

theorem trans (h : Spares g s t) (h' : Spares g t u) : Spares g s u where
  modes := h'.modes.trans h.modes
  engine := fun k hk => by
    obtain ⟨heng, himg, hst⟩ := h.engine k hk
    obtain ⟨heng', himg', hst'⟩ := h'.engine k hk
    exact ⟨heng'.trans heng, himg'.trans himg, fun h0 => hst' (hst h0)⟩
  regs := fun hs => by
    obtain ⟨ht, hreg⟩ := h.regs hs
    obtain ⟨hu, hreg'⟩ := h'.regs ht
    exact ⟨hu, fun a ha => (hreg' a ha).trans (hreg a ha)⟩

theorem ite (h : Spares g s t) (h' : Spares g s u) {c : Prop} {_ : Decidable c} : Spares g s (if c then t else u) := by
  split
  · exact h
  · exact h'

theorem each (h : Spares g s t) {α : Type} {l : List α} {f : State → α → State}
    (hf : ∀ u, ∀ x ∈ l, Spares g s u → Spares g s (f u x)) : Spares g s (t.each l f) :=
  State.each_induction h l f hf

/-- An update of fields that the relation does not name. -/
theorem beside (h : Spares g s t) (hu : u = { u with
    modes := t.modes, engs := t.engs, img := t.img, st := t.st, csr := t.csr }) : Spares g s u := by
  rw [hu]
  exact h.trans ⟨rfl, fun _ _ => ⟨rfl, rfl, id⟩, fun h => ⟨h, fun _ _ => rfl⟩⟩

/-! Registers -/

theorem setReg (h : Spares g s t) {a : Nat} {w : Word}
    (ha : a ∉ guarded g := by exact Fld.Far.notMem (f := ⟨_, 0, 0⟩) ⟨by dsimp only; omega, by dsimp only; omega⟩) : Spares g s (t.setReg a w) :=
  h.trans ⟨rfl, fun _ _ => ⟨rfl, rfl, id⟩, fun ht => ⟨State.regsOk_setReg ht a w, fun b hb =>
    (State.reg_setReg ht a w b).trans (if_neg fun he : b = a => ha (he ▸ hb))⟩⟩

theorem noteEvent (h : Spares g s t) {f : Fld} {v : Nat → Nat} : Spares g s (t.noteEvent f v) := h.beside rfl

section
variable {f : Fld} (hf : f.addr ∉ guarded g := by exact Fld.Far.notMem (by simp [Fld.Far] <;> omega))
include hf

theorem put (h : Spares g s t) {v : Nat} : Spares g s (t.put f v) := h.setReg hf
theorem off (h : Spares g s t) : Spares g s (t.off f) := h.put hf
theorem putb (h : Spares g s t) {v : Bool} : Spares g s (t.putb f v) := h.put hf
theorem incMod (h : Spares g s t) : Spares g s (t.incMod f) := h.put hf
theorem on (h : Spares g s t) : Spares g s (t.on f) := h.noteEvent.put hf
theorem add (h : Spares g s t) {n : Nat} : Spares g s (t.add f n) := h.noteEvent.put hf
theorem inc (h : Spares g s t) : Spares g s (t.inc f) := h.add hf

theorem ifPut (h : Spares g s t) {c : Prop} {_ : Decidable c} {v : Nat} : Spares g s (if c then t.put f v else t) :=
  (h.put hf).ite h
theorem unlessPut (h : Spares g s t) {c : Prop} {_ : Decidable c} {v : Nat} : Spares g s (if c then t else t.put f v) :=
  h.ite (h.put hf)
theorem unlessOn (h : Spares g s t) {c : Prop} {_ : Decidable c} : Spares g s (if c then t else t.on f) := h.ite (h.on hf)

end

/-! The units' own updates -/

theorem updLane (h : Spares g s t) {k : Nat} {f : Lane → Lane} : Spares g s (t.updLane k f) := h.beside rfl
theorem updHl (h : Spares g s t) {f : Hlink → Hlink} : Spares g s (t.updHl f) := h.beside rfl
theorem updCap (h : Spares g s t) {n : Nat} {f : CaptureUnit → CaptureUnit} : Spares g s (t.updCap n f) := h.beside rfl
theorem updGates (h : Spares g s t) {f : GateUnit → GateUnit} : Spares g s (t.updGates f) := h.beside rfl
theorem setFaults (h : Spares g s t) {f : FaultUnit} : Spares g s { t with faults := f } := h.beside rfl
theorem defer (h : Spares g s t) {x : Later} : Spares g s (t.defer x) := h.beside rfl

/-- An engine out of view changes. -/
theorem updEng (h : Spares g s t) {e : Nat} (he : Unseen g e) {f : Engine → Engine} : Spares g s (t.updEng e f) := by
  refine h.trans ⟨rfl, fun k hk => ⟨?_, rfl, id⟩, fun h => ⟨h, fun _ _ => rfl⟩⟩
  have hne : e ≠ k.val := fun h => he k hk h.symm
  simp [State.updEng, State.eng, Vector.getD, hne]

theorem updStg (h : Spares g s t) {e : Nat} (he : Unseen g e) {f : Staging → Staging} : Spares g s (t.updStg e f) :=
  h.updEng he

theorem setImg (h : Spares none s t) {x : ImageUnit} : Spares none s { t with img := x } :=
  h.trans ⟨rfl, nofun, fun h => ⟨h, fun _ _ => rfl⟩⟩

theorem setTests (h : Spares none s t) {x : SelfTest} : Spares none s { t with st := x } :=
  h.trans ⟨rfl, nofun, fun h => ⟨h, fun _ _ => rfl⟩⟩

/-! Events, the log and fault messages (R287, R355, R366) -/

theorem event (h : Spares g s t) {c n d a : Nat} : Spares g s (t.event c n d a) := by
  unfold State.event
  dsimp only
  split
  · exact (h.updHl (f := fun x => _)).put
  · exact Spares.inc (h := h.beside rfl)

theorem linkEvent (h : Spares g s t) {n lo hi a : Nat} : Spares g s (t.linkEvent n lo hi a) := h.event
theorem imageEvent (h : Spares g s t) {n : Nat} : Spares g s (t.imageEvent n) := h.event

theorem ringPut (h : Spares g s t) {e : LogEnt} : Spares g s (t.ringPut e) := by
  unfold State.ringPut
  dsimp only
  split
  · exact h.beside rfl
  · split
    · exact Spares.beside (Spares.inc (h := h.beside rfl)) rfl
    · exact h.beside rfl

theorem ringAdd (h : Spares g s t) {v n k w d : Nat} : Spares g s (t.ringAdd v n k w d) := h.ringPut.put

theorem logGapFlush (h : Spares g s t) : Spares g s t.logGapFlush := by
  unfold State.logGapFlush
  split
  · exact Spares.ite (Spares.ringAdd (h.beside rfl)) h
  · exact h

theorem logStamped (h : Spares g s t) {v n k w d : Nat} : Spares g s (t.logStamped v n k w d) := by
  unfold State.logStamped
  split
  · split
    · exact h.beside rfl
    · exact h.inc.beside rfl
  · exact h.logGapFlush.ringAdd

theorem log2 (h : Spares g s t) {k n x y : Nat} : Spares g s (t.log2 k n x y) := h.logStamped.logStamped

theorem overrun (h : Spares g s t) {m : Msg} : Spares g s (t.overrun m) := by
  unfold State.overrun State.noteUnit
  exact h.on.put.inc.inc.on.inc.setFaults

theorem raise (h : Spares g s t) {m : Msg} : Spares g s (t.raise m) := by
  unfold State.raise
  split
  · exact Spares.ite (Spares.ite (h.beside rfl) h.overrun) h
  · exact Spares.ite (h.beside rfl) h.overrun

theorem raiseKD (h : Spares g s t) {n k a d : Nat} : Spares g s (t.raiseKD n k a d) := h.raise

/-! Lane pairs (R147) and gated blocks (R331) -/

theorem pairState (h : Spares g s t) {k st : Nat} : Spares g s (t.pairState k st) := by
  unfold State.pairState
  exact h.ifPut.ifPut.unlessPut.unlessPut

theorem toDetect (h : Spares g s t) {k : Nat} : Spares g s (t.toDetect k) := by
  unfold State.toDetect
  exact (Spares.ite h.updLane h).pairState.off.updLane.updLane

theorem retrainPair (h : Spares g s t) {k : Nat} : Spares g s (t.retrainPair k) := h.put.toDetect

theorem ungate (h : Spares g s t) {n : Nat} : Spares g s (t.ungate n) := by
  unfold State.ungate
  exact Spares.ite (h.off.off.updGates.each fun u k _ hu => Spares.ite hu.updLane hu.updLane.retrainPair)
    h.off.off.updGates

theorem gateRefresh (h : Spares g s t) : Spares g s t.gateRefresh := h.each fun _ _ _ hu => hu.ungate

end Spares
end Sys2Proof.Machine
end


section
/-! SUPPORT. Slices that a change of mode abandons, with the molts and losses of lanes that come of it, and the starts and stops
of tasks: what they leave alone (R79, R80, R157, R377, R385). -/
namespace Sys2Proof.Machine
open Csr

namespace Spares
variable {g : Option Eng} {s t : State}

/-! A lane is lost (R128, R157, R377) -/

theorem setAlive (h : Spares g s t) {a n : Nat} {v : Bool} (ha : 0x1000 ≤ a ∧ a < 0x100000) :
    Spares g s (t.setAlive a n v) := by
  unfold State.setAlive
  exact h.ite (Spares.incMod (h := h.setReg)).imageEvent

theorem degrade (h : Spares g s t) {flag : Nat → Fld} {kind : Option Nat} {p : Nat} (hf : (flag p).Far) :
    Spares g s (t.degrade flag kind p) := by
  unfold State.degrade
  dsimp only
  split
  · exact ((h.ite h.put.put.setFaults).unlessPut.on hf.notMem).put
  · exact (h.ite h.put.put.setFaults).unlessPut.on hf.notMem

theorem echoAnswer (h : Spares g s t) {e n v : Nat} : Spares g s (t.echoAnswer e n v) := by
  unfold State.echoAnswer
  split
  · exact h
  · rename_i u _
    have hu := capBase_ge u
    unfold State.echoEase
    exact h.updCap.updCap.off.ite h.updCap

theorem answerUnsent (h : Spares g s t) {e n : Nat} : Spares g s (t.answerUnsent e n) := by
  unfold State.answerUnsent
  split
  · exact h.echoAnswer
  · exact h

theorem stgRelease (h : Spares g s t) {e : Nat} (he : Unseen g e) : Spares g s (t.stgRelease e) := h.updStg he

theorem discard (h : Spares g s t) {e slot n : Nat} (he : Unseen g e) : Spares g s (t.discard e slot n) := by
  unfold State.discard
  exact h.ite (((h.updStg he).add he.notMem).put he.notMem)

theorem slotLost (h : Spares g s t) {e n : Nat} (he : Unseen g e) : Spares g s (t.slotLost e n) := by
  unfold State.slotLost State.countSent
  exact ((h.answerUnsent.discard he).updStg he).stgRelease he

theorem loseLane (h : Spares none s t) {l : Nat} {kind : Option Nat} : Spares none s (t.loseLane l kind) := by
  unfold State.loseLane
  split
  case isFalse => exact h
  case isTrue hl =>
    have hl' : l < 96 := by simp at hl; exact hl.1
    have halive := (h.setAlive (a := 0x20050 + 4 * (l / 32)) (n := l % 32) (v := false) (by omega)).setAlive
      (a := 0x20060 + 4 * (l / 32)) (n := l % 32) (v := false) (by omega)
    dsimp only
    split
    · split
      · exact ((halive.slotLost (unseen_none _)).ite halive).degrade (by simp [Fld.Far]; omega)
      · exact (halive.slotLost (unseen_none _)).ite halive
    · exact halive

theorem laneLost (h : Spares none s t) {l dir k : Nat} : Spares none s (t.laneLost l dir k) := by
  unfold State.laneLost State.laneOff
  dsimp only
  by_cases hd : dir = 0
  · simp only [hd, if_true]
    exact h.put.updLane.updLane.raiseKD.loseLane
  · simp only [hd, if_false]
    exact h.put.updLane.raiseKD.loseLane

/-! A lane molts (R155 to R157) -/

theorem laneReq (h : Spares g s t) {k on op : Nat} {args : List Nat} : Spares g s (t.laneReq k on op args) := by
  unfold State.laneReq State.sendOn
  exact h.updLane.updLane

theorem laneConfig (h : Spares g s t) {k : Nat} : Spares g s (t.laneConfig k) := by
  unfold State.laneConfig
  exact h.updLane.laneReq.updLane

theorem unlessLaneReq (h : Spares g s t) {c : Prop} {_ : Decidable c} {k on op : Nat} {args : List Nat} :
    Spares g s (if c then t else t.laneReq k on op args) := h.ite h.laneReq

theorem whenCreditQuery (h : Spares g s t) {c : Bool} {k : Nat} : Spares g s (t.when c fun u => u.creditQuery k) :=
  h.laneReq.ite h

theorem ifLaneConfig (h : Spares g s t) {c : Prop} {_ : Decidable c} {k : Nat} {f : Lane → Lane} :
    Spares g s (if c then (t.updLane k f).laneConfig k else t) := h.updLane.laneConfig.ite h

theorem moltTxDone (h : Spares g s t) {k sp : Nat} {active : Bool} : Spares g s (t.moltTxDone k sp active) := by
  unfold State.moltTxDone State.laneOff State.laneAvail State.logMolt State.creditQuery
  dsimp only
  split
  · exact h.updLane.updLane.put.put.put.put.put.setReg.put.on.on.off.log2.laneReq
  · exact h.updLane.updLane.put.put.put.put.put.setReg.put.on.on.off.log2.retrainPair

theorem moltRxDone (h : Spares g s t) {k sp : Nat} {active : Bool} : Spares g s (t.moltRxDone k sp active) := by
  unfold State.moltRxDone State.laneOff State.logMolt
  dsimp only
  split
  · exact h.updLane.updLane.put.put.put.put.on.on.off.log2
  · split
    · exact h.updLane.updLane.put.put.put.put.on.on.off.log2.retrainPair
    · exact h.updLane.updLane.put.put.put.put.on.on.off.log2

theorem moltTx (h : Spares none s t) {k : Nat} : Spares none s (t.moltTx k) := by
  unfold State.moltTx
  exact h.ite (h.defer.ite (h.laneLost.ite (h.laneReq.updLane.ite h.moltTxDone)))

theorem moltRx (h : Spares none s t) {k : Nat} : Spares none s (t.moltRx k) := by
  unfold State.moltRx
  exact h.ite (h.defer.ite (h.laneLost.ite (h.laneReq.updLane.ite h.moltRxDone)))

theorem wantedMolts (h : Spares none s t) {k : Nat} : Spares none s (t.wantedMolts k) := by
  have hrx : Spares none s (if (t.lane (t.rxOf k)).wantRx then
      (t.updLane (t.rxOf k) fun x => { x with wantRx := false }).moltRx (t.rxOf k) else t) := h.updLane.moltRx.ite h
  unfold State.wantedMolts
  exact hrx.updLane.moltTx.ite hrx

/-! A slice is abandoned (R152, R385) -/

theorem lbState (h : Spares g s t) {k st : Nat} : Spares g s (t.lbState k st) := h.ite h.pairState

theorem lbEnd (h : Spares none s t) {k : Nat} : Spares none s (t.lbEnd k) := by
  unfold State.lbEnd
  split
  · exact h
  · exact (((h.off.lbState.updLane.unlessLaneReq.whenCreditQuery).on.unlessOn).ifLaneConfig).wantedMolts

theorem vlaneLbStop (h : Spares none s t) {k : Nat} : Spares none s (t.vlaneLbStop k) := by
  unfold State.vlaneLbStop
  split
  · exact h
  · exact h.updLane.laneReq.ite h.lbEnd

theorem sliceGone (h : Spares none s t) {x : Slice} {o : Nat} : Spares none s (t.sliceGone x o) := by
  unfold State.sliceGone State.stCount
  exact h.setTests.put.put.put.put

theorem afterTest (h : Spares none s t) {x : Slice} : Spares none s (t.afterTest x) := by
  unfold State.afterTest State.prepare
  exact ((h.put ((unseen_none x.target).notMem)).ite h).ite
    ((h.updStg (unseen_none _)).ite (Spares.ite (Spares.ite h.updCap h.updCap) h))

theorem abandonSlice (h : Spares none s t) {x : Slice} : Spares none s (t.abandonSlice x) := by
  have hgone : Spares none s ((t.sliceGone x 2).inc (ST_CNT_INCOMPLETE x.kind)) := h.sliceGone.inc
  unfold State.abandonSlice
  exact Spares.ite (hgone.off.putb.ite (hgone.off.ite hgone)).afterTest.vlaneLbStop
    (hgone.off.putb.ite (hgone.off.ite hgone)).afterTest

theorem closeSlices (h : Spares none s t) : Spares none s t.closeSlices := h.each fun _ _ _ hu => hu.abandonSlice

/-! Tasks start and stop (R79, R80) -/

section
variable {e : Nat} (he : Unseen g e)
include he

theorem closeRow (h : Spares g s t) : Spares g s (t.closeRow e) := by
  unfold State.closeRow
  exact h.ite (((h.updStg he).each fun u n _ hu => hu.discard he).stgRelease he)

theorem taskOver (h : Spares g s t) {reason st : Nat} : Spares g s (t.taskOver e reason st) := by
  unfold State.taskOver State.dropMark
  exact ((((((h.updStg he).stgRelease he).closeRow he).updEng he).on he.notMem).put
    he.notMem).put he.notMem

theorem tryHalt (h : Spares g s t) : Spares g s (t.tryHalt e) := by
  unfold State.tryHalt
  split
  · split
    · exact h.taskOver he
    · exact ((h.taskOver he).on he.notMem).raise
    · exact h
  · exact h

theorem stopNow (h : Spares g s t) {reason : Nat} : Spares g s (t.stopNow e reason) := (h.updEng he).tryHalt he

theorem stopAt (h : Spares g s t) {reason : Nat} : Spares g s (t.stopAt e reason) := by
  unfold State.stopAt
  split
  · exact h.stopNow he
  · exact h.tryHalt he
  · exact h.updEng he

theorem stopEng (h : Spares g s t) {reason : Nat} : Spares g s (t.stopEng e reason) := by
  have hcut : Spares g s (if (t.stg e).held && t.pureActive e then t.updEng e fun x => { x with vs := none } else t) :=
    (h.updEng he).ite h
  unfold State.stopEng
  refine Spares.ite ?_ ((h.updEng he).ite h)
  dsimp only
  split
  · exact (hcut.stopNow he).ite (hcut.updEng he)
  · exact (hcut.stopNow he).ite (hcut.updEng he)
  · exact (hcut.stopNow he).ite (hcut.stopAt he)
  · exact hcut.stopAt he

theorem startEng (h : Spares g s t) {origin : Nat} : Spares g s (t.startEng e origin) := by
  unfold State.startEng State.runTask State.stgStart
  exact (((((h.updStg he).put he.notMem).updEng he).put he.notMem).ite
    (((h.updEng he).on he.notMem).ite (h.on he.notMem)))

end

theorem stopPart (h : Spares g s t) {p reason : Nat} {es : List Nat} (hes : ∀ e ∈ es, Unseen g e) :
    Spares g s (t.stopPart p reason es) :=
  h.each fun _ _ he hu => hu.stopEng (hes _ (List.mem_of_mem_filter he))

theorem startPart (h : Spares none s t) {p origin : Nat} : Spares none s (t.startPart p origin) :=
  h.each fun _ _ _ hu => hu.startEng (unseen_none _)

end Spares
end Sys2Proof.Machine
end


section
/-! SUPPORT. What a change of a partition's mode does (R391 to R393, R396), with what it leaves alone. -/
namespace Sys2Proof.Machine
open Csr

/-! Bits of 16-bit fields -/

theorem testBit_rd_putBitF {s : State} (hs : s.regsOk) {f : Fld} (hf : f.lo + f.w ≤ 32) {p : Nat} (hp : p < f.w)
    (b : Bool) (q : Nat) : ((s.putBitF f p b).rd f).testBit q = if q = p then b else (s.rd f).testBit q := by
  have hlt : (s.rd f).testBit q = (decide (q < f.w) && (s.rd f).testBit q) := by
    rw [State.rd, testBit_bits]
    cases decide (q < f.w) <;> rfl
  rw [State.putBitF, State.rd_put_same hs _ _ hf, Nat.testBit_mod_two_pow, putBit, testBit_putBits, hlt]
  by_cases hq : q = p
  · subst hq
    cases b <;> simp [hp]
  · rw [if_neg (by omega), if_neg hq]
    simp

theorem State.regsOk_putBitF {s : State} (hs : s.regsOk) (f : Fld) (p : Nat) (b : Bool) : (s.putBitF f p b).regsOk :=
  State.regsOk_put hs _ _

/-! Modes of partitions -/

theorem pmode_addr_mem_guarded {p : Nat} (hp : p < 16) : (GLOBAL_PMODE_MODE p).addr ∈ guarded none := by
  simp [guarded]
  omega

/-- A partition's mode stays as its register does. -/
theorem Spares.pmode {s t : State} (h : Spares none s t) (hs : s.regsOk) {p : Nat} (hp : p < 16) :
    t.pmode p = s.pmode p := by
  obtain ⟨-, hreg⟩ := h.regs hs
  rw [State.pmode, State.rd, hreg _ (pmode_addr_mem_guarded hp), State.pmode, State.rd]

theorem State.pmode_put_same {s : State} (hs : s.regsOk) {p m : Nat} (hm : m < 8) :
    (s.put (GLOBAL_PMODE_MODE p) m).pmode p = m :=
  (State.rd_put_same hs _ _ (by dsimp only; omega)).trans (Nat.mod_eq_of_lt hm)

theorem State.pmode_put_ne {s : State} (hs : s.regsOk) {p q : Nat} (m : Nat) (hq : q ≠ p) :
    (s.put (GLOBAL_PMODE_MODE p) m).pmode q = s.pmode q :=
  State.rd_put_ne hs _ _ _ (by dsimp only; omega) (by dsimp only; omega)

namespace Spares
variable {s t : State}

theorem putBitF (h : Spares none s t) {f : Fld} {p : Nat} {b : Bool} (hf : f.addr ∉ guarded none := by decide) :
    Spares none s (t.putBitF f p b) := h.put hf

theorem stopFrom (h : Spares none s t) {e v : Nat} : Spares none s (t.stopFrom e v) := by
  unfold State.stopFrom
  exact (h.updEng (unseen_none e)).ite (h.stopEng (unseen_none e))

theorem firstRun (h : Spares none s t) {p : Nat} : Spares none s (t.firstRun p) := by
  unfold State.firstRun
  exact h.setImg.ite (h.setImg.each fun u e _ hu => (hu.startEng (unseen_none e)).ite hu)

theorem leaveRun (h : Spares none s t) {p : Nat} : Spares none s (t.leaveRun p) :=
  (h.each fun _ _ _ hu => hu.stopFrom).setImg

end Spares

/-- A partition that leaves RUN has left it. -/
def State.ifLeaves (s : State) (p old : Nat) : State := if old = modeRun then s.leaveRun p else s

/-- A partition that goes to SLEEP stops its auxiliary tasks and drains. -/
def State.ifSleeps (s : State) (p m : Nat) : State :=
  if m = modeSleep then
    ((s.stopPart p 2 ((s.partEngs p).filter s.aux)).putBitF GLOBAL_PDRAIN_DRAINING p true).putBitF GLOBAL_PDRAIN_WAKING p false
  else s

/-- A partition that leaves SLEEP wakes. -/
def State.ifWakes (s : State) (p old : Nat) : State :=
  if old = modeSleep then (s.putBitF GLOBAL_PDRAIN_DRAINING p false).putBitF GLOBAL_PDRAIN_WAKING p true else s

/-- A partition that enters RUN for the first time starts its tasks. -/
def State.ifEnters (s : State) (p m : Nat) : State :=
  if m = modeRun && ! bit s.img.entered p then s.firstRun p else s

theorem State.setPmode_of_same {s : State} {p m : Nat} (h : s.pmode p = m) : s.setPmode p m = s := if_pos h

theorem State.setPmode_of_ne {s : State} {p m : Nat} (h : s.pmode p ≠ m) : s.setPmode p m =
    (((((s.put (GLOBAL_PMODE_MODE p) m).ifLeaves p (s.pmode p)).ifSleeps p m).ifWakes p (s.pmode p)).ifEnters p
      m).closeSlices.gateRefresh := if_neg h

namespace Spares
variable {s t : State} (h : Spares none s t) {p m : Nat}
include h

theorem ifLeaves : Spares none s (t.ifLeaves p m) := h.leaveRun.ite h
theorem ifSleeps : Spares none s (t.ifSleeps p m) :=
  (h.stopPart fun e _ => unseen_none e).putBitF.putBitF.ite h
theorem ifWakes : Spares none s (t.ifWakes p m) := h.putBitF.putBitF.ite h
theorem ifEnters : Spares none s (t.ifEnters p m) := h.firstRun.ite h

end Spares

/-- A change of mode: the field, and what leaves the mode unit and the modes alone. -/
theorem spares_setPmode {s : State} {p m : Nat} (h : s.pmode p ≠ m) :
    Spares none (s.put (GLOBAL_PMODE_MODE p) m) (s.setPmode p m) := by
  rw [State.setPmode_of_ne h]
  exact Spares.refl.ifLeaves.ifSleeps.ifWakes.ifEnters.closeSlices.gateRefresh

/-- Partition p is in mode m afterwards, every other as before. -/
theorem setPmode_spec {s : State} (hs : s.regsOk) {p m : Nat} (hp : p < 16) (hm : m < 8) :
    (s.setPmode p m).modes = s.modes ∧ (s.setPmode p m).regsOk ∧ (s.setPmode p m).pmode p = m ∧
      ∀ q, q < 16 → q ≠ p → (s.setPmode p m).pmode q = s.pmode q := by
  by_cases h : s.pmode p = m
  · rw [State.setPmode_of_same h]
    exact ⟨rfl, hs, h, fun _ _ _ => rfl⟩
  · have hput := State.regsOk_put hs (GLOBAL_PMODE_MODE p) m
    have hrest := spares_setPmode h
    obtain ⟨hok, -⟩ := hrest.regs hput
    exact ⟨hrest.modes, hok, (hrest.pmode hput hp).trans (State.pmode_put_same hs hm),
      fun q hq hne => (hrest.pmode hput hq).trans (State.pmode_put_ne hs m hne)⟩

/-- SET_MODE puts every partition it names into the mode. -/
theorem eachSetPmode_spec {s : State} (hs : s.regsOk) {m : Nat} (hm : m < 8) {l : List Nat} (hl : ∀ p ∈ l, p < 16) :
    let t := s.each l fun s p => s.setPmode p m
    t.modes = s.modes ∧ t.regsOk ∧ ∀ q, q < 16 → q ∈ l ∨ s.pmode q = m → t.pmode q = m := by
  induction l generalizing s with
  | nil => exact ⟨rfl, hs, fun q _ hq => hq.resolve_left List.not_mem_nil⟩
  | cons p l ih =>
    obtain ⟨hmodes, hok, hp, hothers⟩ := setPmode_spec hs (hl p List.mem_cons_self) hm
    obtain ⟨hmodes', hok', hl'⟩ := ih hok fun q hq => hl q (List.mem_cons_of_mem p hq)
    refine ⟨hmodes'.trans hmodes, hok', fun q hq h => hl' q hq ?_⟩
    by_cases hqp : q = p
    · exact .inr (hqp ▸ hp)
    · rw [hothers q hq hqp]
      exact h.imp_left fun hmem => (List.mem_cons.1 hmem).resolve_left hqp

/-! A partition with one lane-bound task leaves RUN (R393) -/

/-- A task that runs and has no stop yet is to stop at v. -/
theorem stopFrom_of_running {s : State} {g : Eng} (hrun : s.engState g = 3) (hstop : (s.eng g).stopVt = none) (v : Nat) :
    s.stopFrom g v = s.updEng g fun x => { x with stopVt := some v } := by
  rw [State.stopFrom, if_pos hrun]
  exact State.updEng_congr (by rw [hstop])

section
variable {s : State} {p : Nat} {g : Eng} (hg : s.laneEngs p = [g.val])
include hg

/-- The task stops at the boundary, and the partition's map is to be flushed from there on. -/
theorem leaveRun_spec (hrun : s.engState g = 3) (hstop : (s.eng g).stopVt = none) :
    ((s.leaveRun p).eng g).stopVt = some s.vt.vt ∧ (s.leaveRun p).csr = s.csr ∧ (s.leaveRun p).st = s.st ∧
      (s.leaveRun p).img = { s.img with flushFrom := (p, s.vt.vt) :: s.img.flushFrom.filter fun x => x.1 ≠ p } := by
  have hstops : s.each (s.laneEngs p) (fun u e => u.stopFrom e s.vt.vt) =
      s.updEng g fun x => { x with stopVt := some s.vt.vt } := by
    rw [hg]
    exact stopFrom_of_running hrun hstop _
  refine ⟨?_, (congrArg State.csr hstops :), (congrArg State.st hstops :),
    congrArg (fun u : State => { u.img with flushFrom := (p, s.vt.vt) :: u.img.flushFrom.filter fun x => x.1 ≠ p }) hstops⟩
  show ((s.each (s.laneEngs p) fun u e => u.stopFrom e s.vt.vt).eng g).stopVt = some s.vt.vt
  rw [hstops, State.eng_updEng_self]

/-- It is no auxiliary task. -/
theorem not_aux_of_laneEngs : s.aux g = false := by
  have hmem : g.val ∈ s.laneEngs p := by rw [hg]; exact List.mem_singleton.2 rfl
  simpa using (List.mem_filter.1 hmem).2

end

/-- SLEEP stops the auxiliary tasks alone; the partition drains (R396). -/
theorem ifSleeps_spec {s : State} (hs : s.regsOk) {p m : Nat} (hp : p < 16) {g : Eng} (hg : s.aux g = false) :
    (s.ifSleeps p m).regsOk ∧ (s.ifSleeps p m).eng g = s.eng g ∧ (s.ifSleeps p m).img = s.img ∧
      (s.ifSleeps p m).engState g = s.engState g ∧ (s.st.slices = [] → (s.ifSleeps p m).st.slices = []) ∧
      (m = 6 → ((s.ifSleeps p m).rd GLOBAL_PDRAIN_DRAINING).testBit p = true) := by
  by_cases hm : m = 6
  · have hstops : Spares (some g) s (s.stopPart p 2 ((s.partEngs p).filter s.aux)) := by
      refine Spares.refl.stopPart fun e he k hk hke => ?_
      obtain rfl : g = k := Option.some.inj hk
      have haux := (List.mem_filter.1 he).2
      rw [← hke, hg] at haux
      exact Bool.false_ne_true haux
    set u := s.stopPart p 2 ((s.partEngs p).filter s.aux) with hu
    obtain ⟨heng, himg, hst⟩ := hstops.engine g rfl
    obtain ⟨hok, hreg⟩ := hstops.regs hs
    have hdrain : (u.putBitF GLOBAL_PDRAIN_DRAINING p true).regsOk := State.regsOk_putBitF hok _ _ _
    have hsleeps : s.ifSleeps p m = (u.putBitF GLOBAL_PDRAIN_DRAINING p true).putBitF GLOBAL_PDRAIN_WAKING p false :=
      if_pos hm
    rw [hsleeps]
    refine ⟨State.regsOk_putBitF hdrain _ _ _, heng, himg, ?_, hst, fun _ => ?_⟩
    · rw [State.engState, State.putBitF, State.rd_put_ne hdrain _ _ _ (by dsimp only; omega) (.inl (by dsimp only; omega)),
        State.putBitF, State.rd_put_ne hok _ _ _ (by dsimp only; omega) (.inl (by dsimp only; omega)), State.rd,
        hreg _ (by simp [guarded])]
      rfl
    · rw [State.putBitF, State.rd_put_ne hdrain _ _ _ (by decide) (by decide), testBit_rd_putBitF hok (by decide) hp,
        if_pos rfl]
  · have hstays : s.ifSleeps p m = s := if_neg hm
    rw [hstays]
    exact ⟨hs, rfl, rfl, rfl, id, fun h => absurd h hm⟩

/-- The end of a change of mode leaves an engine alone where no slice runs. -/
theorem spares_gateRefresh_closeSlices {s : State} (h : s.st.slices = []) (g : Eng) :
    Spares (some g) s s.closeSlices.gateRefresh := by
  have hclose : s.closeSlices = s := by
    rw [State.closeSlices, State.abandonWhere, h]
    rfl
  rw [hclose]
  exact Spares.refl.gateRefresh

/-- From RUN to another mode but for RUN: nothing wakes and no task starts. -/
theorem setPmode_of_run {s : State} {p m : Nat} (hrun : s.pmode p = 3) (hm : m ≠ 3) : s.setPmode p m =
    (((s.put (GLOBAL_PMODE_MODE p) m).leaveRun p).ifSleeps p m).closeSlices.gateRefresh := by
  rw [State.setPmode_of_ne (by omega), hrun]
  simp only [State.ifLeaves, State.ifWakes, State.ifEnters, modeRun, modeSleep, hm, if_true, decide_false,
    Bool.false_and, Bool.false_eq_true, if_false, show (3 : Nat) ≠ 6 by decide]

/-- Its one lane-bound task is to stop at the boundary, the map is to be flushed, and in SLEEP the partition drains. -/
theorem setPmode_leaving {s : State} (hs : s.regsOk) {p m : Nat} (hp : p < 16) (hrun : s.pmode p = 3) (hm : m ≠ 3)
    (hslices : s.st.slices = []) {g : Eng} (hg : s.laneEngs p = [g.val]) (hstate : s.engState g = 3)
    (hstop : (s.eng g).stopVt = none) :
    let t := s.setPmode p m
    t.regsOk ∧ (t.eng g).stopVt = some s.vt.vt ∧ t.engState g = 3 ∧
      t.img.flushFrom = (p, s.vt.vt) :: s.img.flushFrom.filter (fun x => x.1 ≠ p) ∧
      (m = 6 → (t.rd GLOBAL_PDRAIN_DRAINING).testBit p = true) := by
  intro t
  have hput := State.regsOk_put hs (GLOBAL_PMODE_MODE p) m
  have hstate' : (s.put (GLOBAL_PMODE_MODE p) m).engState g = 3 :=
    (State.rd_put_ne hs _ _ _ (by dsimp only; omega) (.inl (by dsimp only; omega))).trans hstate
  obtain ⟨hvt, hcsr, hst, himg⟩ := leaveRun_spec (s := s.put (GLOBAL_PMODE_MODE p) m) hg hstate' hstop
  set u := (s.put (GLOBAL_PMODE_MODE p) m).leaveRun p with hu
  have haux : u.aux g = false := by
    rw [State.aux, State.engLanes, himg]
    exact not_aux_of_laneEngs hg
  obtain ⟨hok, heng, himg', hstate'', hslices', hdrain⟩ :=
    ifSleeps_spec (p := p) (m := m) (State.regsOk_of_csr hput hcsr) hp haux
  have hend := spares_gateRefresh_closeSlices (hslices' (by rw [hst]; exact hslices)) g
  have ht : t = (u.ifSleeps p m).closeSlices.gateRefresh := setPmode_of_run hrun hm
  rw [← ht] at hend
  obtain ⟨hteng, htimg, -⟩ := hend.engine g rfl
  obtain ⟨htok, htreg⟩ := hend.regs hok
  refine ⟨htok, ?_, ?_, ?_, fun h6 => ?_⟩
  · rw [hteng, heng]
    exact hvt
  · rw [State.engState, State.rd, htreg _ (by simp [guarded])]
    refine hstate''.trans ?_
    rw [State.engState, State.rd, State.reg, hcsr]
    exact hstate'
  · rw [htimg, himg', himg]
    rfl
  · rw [State.rd, htreg _ (by simp [guarded])]
    exact hdrain h6

end Sys2Proof.Machine
end


section
/-! SUPPORT and the certificate of ModeCommands: the checks of SET_MODE and START, their effect at the boundary, and the end of
draining and waking (R373, R392 to R396). -/
namespace Sys2Proof.Machine
open Csr

/-! The checks (R394) -/

/-- Every partition of a list is declared, and there is one. -/
def State.Named (s : State) (ps : List Nat) : Prop := ps ≠ [] ∧ ∀ q ∈ ps, s.declared q = true

theorem State.named_iff {s : State} {ps : List Nat} : s.Named ps ↔ (ps.isEmpty || ! ps.all s.declared) = false := by
  simp [State.Named]

section
variable {s : State} {c : ModeCmd}

theorem modeCheck_of_not_ready (h : s.devMode ≠ 2) : s.modeCheck c = 2 := if_pos h

variable (h : s.devMode = 2)
include h

theorem modeCheck_of_not_named (hn : ¬ s.Named c.parts) : s.modeCheck c = 3 := by
  rw [State.named_iff, Bool.not_eq_false] at hn
  exact (if_neg (not_not.2 h)).trans (if_pos hn)

theorem modeCheck_setMode {m n : Nat} (hn : s.Named (maskBits 16 n)) : s.modeCheck (.setMode m n) =
    if (maskBits 16 n).all (fun p => modeAllowed (s.pmode p) m) then 0 else 4 := by
  rw [State.named_iff, ← Bool.not_eq_true] at hn
  exact (if_neg (not_not.2 h)).trans (if_neg hn)

theorem modeCheck_start {o n : Nat} (hn : s.Named (maskBits 16 n)) : s.modeCheck (.start n o) =
    if ! (maskBits 16 n).all (fun p => s.pmode p = 3) then 5
    else if (maskBits 16 n).all (fun p => o % s.mPart p = 0) then 0 else 6 := by
  rw [State.named_iff, ← Bool.not_eq_true] at hn
  exact (if_neg (not_not.2 h)).trans (if_neg hn)

end

/-- A command whose check passes finds the device READY. -/
theorem ready_of_modeCheck {s : State} {c : ModeCmd} (h : s.modeCheck c = 0) : s.devMode = 2 := by
  by_contra hn
  rw [modeCheck_of_not_ready hn] at h
  exact absurd h (by decide)

/-! Writing a command (R394, R395) -/

/-- A command that a check refuses: GLOBAL_MODE_STAT says so, nothing else changes. -/
theorem exec_of_modeWrite_refused {s : State} (hs : s.regsOk) {i : Instr} {c : ModeCmd}
    (hi : exec i s = .next (s.modeWrite c)) {cause : Nat} (h : s.modeCheck c = cause) (h0 : cause ≠ 0)
    (hc : cause < 256) : ∃ t, exec i s = .next t ∧ OnlyRegs [0x2C] s t ∧
      t.flag GLOBAL_MODE_STAT_CMD_REFUSED = true ∧ t.rd GLOBAL_MODE_STAT_CAUSE = cause := by
  refine ⟨s.modeRefuse cause, ?_, modeRefuse_spec hs hc⟩
  rw [hi, State.modeWrite, h, if_pos h0]

theorem modeWrite_of_accepted {s : State} {c : ModeCmd} (h : s.modeCheck c = 0) :
    s.modeWrite c = { s with modes := { s.modes with cmds := s.modes.cmds ++ [c] } } := by
  rw [State.modeWrite, h]
  exact if_neg (not_not.2 rfl)

/-! At the boundary (R394) -/

theorem exec_modeCommandEffect_of_not_done {s : State} (h : s.boundaryDone = false) :
    exec .modeCommandEffect s = .next s := by
  show execModeCommandEffect s = _
  rw [execModeCommandEffect]
  cases s.modes.cmds with
  | nil => rfl
  | cons c rest => exact congrArg Host.Outcome.next (if_pos (by simp [h]))

/-- The state once the oldest command is taken from the queue. -/
def State.taken (s : State) (rest : List ModeCmd) : State := { s with modes := { s.modes with cmds := rest } }

section
variable {s : State} {c : ModeCmd} {rest : List ModeCmd} (hc : s.modes.cmds = c :: rest) (hp : s.pauses.any = false)
  (hb : s.boundaryDone = true)
include hc hp hb

theorem exec_modeCommandEffect_of_due (hd : s.devMode ≠ 7) : exec .modeCommandEffect s = .next
    (if s.modeCheck c ≠ 0 then (s.taken rest).modeRefuse (s.modeCheck c) else (s.taken rest).modeEffect c) := by
  show execModeCommandEffect s = _
  rw [execModeCommandEffect, hc]
  exact congrArg Host.Outcome.next (if_neg (by simp [hp, hb, hd, modeDeep]))

/-- The second check passes: the command takes effect. -/
theorem exec_modeCommandEffect_of_passed (h : s.modeCheck c = 0) :
    exec .modeCommandEffect s = .next ((s.taken rest).modeEffect c) := by
  rw [exec_modeCommandEffect_of_due hc hp hb (by rw [ready_of_modeCheck h]; decide), if_neg (not_not.2 h)]

/-- The second check fails. -/
theorem exec_modeCommandEffect_of_refused (hs : s.regsOk) (hd : s.devMode ≠ 7) (h : s.modeCheck c ≠ 0)
    (h256 : s.modeCheck c < 256) : ∃ t, exec .modeCommandEffect s = .next t ∧ OnlyRegs [0x2C] (s.taken rest) t ∧
      t.flag GLOBAL_MODE_STAT_CMD_REFUSED = true ∧ t.rd GLOBAL_MODE_STAT_CAUSE = s.modeCheck c :=
  ⟨(s.taken rest).modeRefuse (s.modeCheck c), by rw [exec_modeCommandEffect_of_due hc hp hb hd, if_pos h],
    modeRefuse_spec (s := s.taken rest) hs h256⟩

end

/-! The effect of SET_MODE (R392) -/

theorem modeEffect_setMode (s : State) (m n : Nat) : s.modeEffect (.setMode m n) =
    (s.each (maskBits 16 n) fun s p => s.setPmode p m).on GLOBAL_MODE_STAT_MODE_CHANGED := rfl

theorem lt_of_mem_maskBits {n p : Nat} (h : p ∈ maskBits 16 n) : p < 16 :=
  mem_upFrom_zero.1 (List.mem_of_mem_filter h)

theorem flag_on_modeChanged {s : State} (hs : s.regsOk) :
    (s.on GLOBAL_MODE_STAT_MODE_CHANGED).flag GLOBAL_MODE_STAT_MODE_CHANGED = true :=
  State.flag_of_rd_one (State.rd_on_same hs _ (by decide))

theorem pmode_on_modeChanged {s : State} (hs : s.regsOk) {p : Nat} (hp : p < 16) :
    (s.on GLOBAL_MODE_STAT_MODE_CHANGED).pmode p = s.pmode p :=
  State.rd_on_ne hs _ _ (by dsimp only; omega) (.inl (by dsimp only; omega))

theorem engState_on_modeChanged {s : State} (hs : s.regsOk) (e : Nat) :
    (s.on GLOBAL_MODE_STAT_MODE_CHANGED).engState e = s.engState e :=
  State.rd_on_ne hs _ _ (by dsimp only; omega) (.inl (by dsimp only; omega))

/-- Every partition named is in the mode. -/
theorem modeEffect_setMode_spec {s : State} (hs : s.regsOk) {m n : Nat} (hm : m < 8) :
    let t := s.modeEffect (.setMode m n)
    t.modes = s.modes ∧ t.flag GLOBAL_MODE_STAT_MODE_CHANGED = true ∧ ∀ q ∈ maskBits 16 n, t.pmode q = m := by
  obtain ⟨hmodes, hok, hall⟩ := eachSetPmode_spec hs hm fun p hp => lt_of_mem_maskBits (n := n) hp
  refine ⟨hmodes, flag_on_modeChanged hok, fun q hq => ?_⟩
  exact (pmode_on_modeChanged hok (lt_of_mem_maskBits hq)).trans (hall q (lt_of_mem_maskBits hq) (.inl hq))

/-- A partition with one lane-bound task that leaves RUN: the task stops at the boundary, in SLEEP the partition drains. -/
theorem modeEffect_leaving {s : State} (hs : s.regsOk) {m n : Nat} {p : Fin 16} (h : maskBits 16 n = [p.val])
    (hrun : s.pmode p = 3) (hm : m ≠ 3) (hslices : s.st.slices = []) {g : Eng} (hg : s.laneEngs p = [g.val])
    (hstate : s.engState g = 3) (hstop : (s.eng g).stopVt = none) :
    let t := s.modeEffect (.setMode m n)
    (t.eng g).stopVt = some s.vt.vt ∧ t.engState g = 3 ∧
      t.img.flushFrom = (p.val, s.vt.vt) :: s.img.flushFrom.filter (fun x => x.1 ≠ p) ∧
      (m = 6 → (t.rd GLOBAL_PDRAIN_DRAINING).testBit p = true) := by
  obtain ⟨hok, hstops, hruns, hflush, hdrain⟩ := setPmode_leaving hs p.isLt hrun hm hslices hg hstate hstop
  rw [modeEffect_setMode, h]
  refine ⟨hstops, (engState_on_modeChanged hok g).trans hruns, hflush, fun h6 => ?_⟩
  rw [State.rd_on_ne (s := s.each [p.val] fun s q => s.setPmode q m) hok _ _ (by decide) (by decide)]
  exact hdrain h6

/-! The effect of START (R395) -/

theorem roundUp_max_one (x m : Nat) : roundUp x (max 1 m) = roundUp x m := by
  obtain rfl | hm := Nat.eq_zero_or_pos m
  · simp [roundUp, ceilDiv]
  · rw [max_eq_right hm]

/-- The origin at which a START of one partition runs its tasks: the command's, or the partition's automatic one. -/
def State.originOf (s : State) (p o : Nat) : Nat := if o = 0 then s.autoOrigin p else o

/-- A START of one partition runs its lane-bound tasks, unless it is DEGRADED_HALTED (R373). -/
theorem modeEffect_start {s : State} {n o p : Nat} (h : maskBits 16 n = [p]) : s.modeEffect (.start n o) =
    (if s.halted p then s else s.startPart p (s.originOf p o)).on GLOBAL_MODE_STAT_MODE_CHANGED := by
  have hparts : (ModeCmd.start n o).parts = [p] := h
  have horigin : (if o = 0 then roundUp (s.vt.vt + s.rd VT_LEAD_LEAD) (max 1 (s.mPart p)) % 2 ^ 48 else o) =
      s.originOf p o := by
    rw [roundUp_max_one]
    rfl
  simp only [State.modeEffect, hparts, List.foldl_cons, List.foldl_nil, horigin, List.filter_cons, List.filter_nil]
  cases s.halted p <;> rfl

/-- A start reaches a task that waits: it runs from the origin (R57, R79). -/
theorem startEng_of_waiting {s : State} (hs : s.regsOk) {g : Eng} (hwait : s.engState g = 2) (haux : s.aux g = false)
    (o : Nat) : (s.startEng g o).regsOk ∧ (s.startEng g o).engState g = 3 ∧ ((s.startEng g o).eng g).stime = o ∧
      ((s.startEng g o).eng g).origin = o := by
  have hrun : s.startEng g o = ((s.stgStart g).updEng g fun x => { x with stime := o, origin := o, startWait := none }).put
      (ENG_STATE_STATE g) 3 := by
    rw [State.startEng, if_pos hwait, State.runTask, haux]
    rfl
  have hok : ((s.stgStart g).updEng g fun x => { x with stime := o, origin := o, startWait := none }).regsOk :=
    State.regsOk_put (s := s.updStg g _) hs _ _
  rw [hrun]
  refine ⟨State.regsOk_put hok _ _, State.rd_put_same hok _ _ (by dsimp only; omega), ?_, ?_⟩
  · rw [State.eng_put, State.eng_updEng_self]
  · rw [State.eng_put, State.eng_updEng_self]

theorem modeEffect_start_spec {s : State} (hs : s.regsOk) {n o : Nat} {p : Fin 16} (h : maskBits 16 n = [p.val]) {g : Eng}
    (hg : s.laneEngs p = [g.val]) :
    let t := s.modeEffect (.start n o)
    t.modes = s.modes ∧ t.flag GLOBAL_MODE_STAT_MODE_CHANGED = true ∧ t.pmode p = s.pmode p ∧
      (s.halted p = true → t.engs = s.engs ∧ t.engState g = s.engState g) ∧
      (s.halted p = false → s.engState g = 2 → t.engState g = 3 ∧ (t.eng g).origin = (t.eng g).stime ∧
        (t.eng g).stime = s.originOf p o) := by
  intro t
  have ht : t = (if s.halted p then s else s.startPart p (s.originOf p o)).on GLOBAL_MODE_STAT_MODE_CHANGED :=
    modeEffect_start h
  have hstart : Spares none s (if s.halted p then s else s.startPart p (s.originOf p o)) :=
    Spares.refl.ite Spares.refl.startPart
  obtain ⟨hok, -⟩ := hstart.regs hs
  rw [ht]
  refine ⟨hstart.modes, flag_on_modeChanged hok, (pmode_on_modeChanged hok p.isLt).trans (hstart.pmode hs p.isLt),
    fun hhalt => ?_, fun hhalt hwait => ?_⟩
  · rw [if_pos hhalt]
    exact ⟨rfl, engState_on_modeChanged hs g⟩
  · have hone : s.startPart p (s.originOf p o) = s.startEng g (s.originOf p o) := by
      rw [State.startPart, hg]
      rfl
    obtain ⟨hok', hstate, hstime, horigin⟩ := startEng_of_waiting hs hwait (not_aux_of_laneEngs hg) (s.originOf p o)
    rw [if_neg (by simp [hhalt]), hone, State.eng_on, hstime, horigin]
    exact ⟨(engState_on_modeChanged hok' g).trans hstate, rfl, rfl⟩

/-! The end of draining and of waking (R396) -/

/-- A bit of PDRAIN clears: that register alone changes, and of it that bit. -/
theorem putBitF_false_spec {s : State} (hs : s.regsOk) {f k : Fld} (hf : f.lo + f.w ≤ 32) (hk : k.lo + k.w ≤ 32)
    (hfk : k.lo + k.w ≤ f.lo ∨ f.lo + f.w ≤ k.lo) {p : Nat} (hp : p < f.w) :
    let t := s.putBitF f p false
    OnlyRegs [f.addr] s t ∧ t.rd k = s.rd k ∧
      ∀ q, (t.rd f).testBit q = (decide (q ≠ p) && (s.rd f).testBit q) := by
  refine ⟨OnlyRegs.refl.put hs (List.mem_singleton.2 rfl), State.rd_put_ne hs _ _ _ hk (.inr hfk), fun q => ?_⟩
  rw [testBit_rd_putBitF hs hf hp]
  by_cases hq : q = p <;> simp [hq]

theorem exec_partitionDrained_of_drained {s : State} {p : Fin 16}
    (hd : (s.rd GLOBAL_PDRAIN_DRAINING).testBit p = true) (h : s.partDrained p = true) :
    exec (.partitionDrained p) s = .next (s.putBitF GLOBAL_PDRAIN_DRAINING p false) :=
  congrArg Host.Outcome.next (if_pos (by rw [bit, hd, h]; rfl))

theorem exec_partitionWakeComplete_of_clocked {s : State} {p : Fin 16}
    (hw : (s.rd GLOBAL_PDRAIN_WAKING).testBit p = true)
    (h : ∀ k ∈ gateBlocks, p.val ∈ s.blockParts k → s.gateEn k = true → s.flag (CLKPWR_GATE_GATED k) = false) :
    exec (.partitionWakeComplete p) s = .next (s.putBitF GLOBAL_PDRAIN_WAKING p false) := by
  refine congrArg Host.Outcome.next (if_pos ?_)
  rw [bit, hw, Bool.true_and, List.all_eq_true]
  intro k hk
  by_cases hserves : p.val ∈ s.blockParts k
  · cases hen : s.gateEn k with
    | false => simp
    | true => simp [h k hk hserves hen]
  · simp [hserves]

/-- Settles O13: the checks in their order, the effect at the boundary by one partition's change and start, and the bits of
PDRAIN. -/
theorem modeCommands : Obligations.ModeCommands := by
  unfold Obligations.ModeCommands
  intro mode parts p s hs
  dsimp only
  have hmode : mode.toNat < 8 := mode.isLt
  refine ⟨⟨s.modeRefuse 1, rfl, modeRefuse_spec hs (by decide)⟩, fun hr => ?_, fun hr hn => ?_, fun hr hn hno => ?_,
    fun hr hn hall => ?_, fun hr hn hno => ?_, fun hr hn hrun hno => ?_, fun hr hn hall => ?_,
    exec_modeCommandEffect_of_not_done, fun rest hc hp hb hcheck hps g hg => ?_,
    fun rest hc hp hb hcheck hps hrun hm hslices g hg hstate hstop => ?_, fun c rest hc hp hd hb h h256 => ?_,
    fun rest hc hp hb hcheck => ?_, fun hd h => ?_, fun hw h => ?_⟩
  · exact ⟨exec_of_modeWrite_refused hs rfl (modeCheck_of_not_ready hr) (by decide) (by decide),
      exec_of_modeWrite_refused hs rfl (modeCheck_of_not_ready hr) (by decide) (by decide)⟩
  · have hundeclared : ∀ c : ModeCmd, c.parts = maskBits 16 parts.toNat → s.modeCheck c = 3 :=
      fun c hc => modeCheck_of_not_named hr (hc ▸ hn)
    exact ⟨exec_of_modeWrite_refused hs rfl (hundeclared _ rfl) (by decide) (by decide),
      exec_of_modeWrite_refused hs rfl (hundeclared _ rfl) (by decide) (by decide)⟩
  · refine exec_of_modeWrite_refused hs rfl ?_ (by decide) (by decide)
    rw [modeCheck_setMode hr hn, if_neg]
    simpa using hno
  · refine congrArg Host.Outcome.next (modeWrite_of_accepted ?_)
    rw [modeCheck_setMode hr hn, if_pos (List.all_eq_true.2 hall)]
  · refine exec_of_modeWrite_refused hs rfl ?_ (by decide) (by decide)
    rw [modeCheck_start hr hn, if_pos]
    simpa using hno
  · refine exec_of_modeWrite_refused hs rfl ?_ (by decide) (by decide)
    rw [modeCheck_start hr hn, if_neg (by simpa using hrun), if_neg]
    have hno' : ∃ q ∈ maskBits 16 parts.toNat, s.startOrigin % s.mPart q ≠ 0 := hno
    simpa using hno'
  · refine congrArg Host.Outcome.next (modeWrite_of_accepted ?_)
    rw [modeCheck_start hr hn, if_neg (by simpa using fun q hq => (hall q hq).1), if_pos]
    exact List.all_eq_true.2 fun q hq => decide_eq_true (hall q hq).2
  · obtain ⟨hmodes, hflag, hpmode, hhalt, hwait⟩ := modeEffect_start_spec (s := s.taken rest) hs hps (o := (s.rd
      GLOBAL_START_ORIGIN_LO_VT + s.rd GLOBAL_START_ORIGIN_HI_VT * 2 ^ 32) % 2 ^ 48) hg
    exact ⟨_, exec_modeCommandEffect_of_passed hc hp hb hcheck, hmodes, hflag, hpmode, hhalt, hwait⟩
  · obtain ⟨hstops, hruns, hflush, hdrain⟩ := modeEffect_leaving (s := s.taken rest) hs hps hrun
      (fun h => hm (BitVec.eq_of_toNat_eq h)) hslices hg hstate hstop
    exact ⟨_, exec_modeCommandEffect_of_passed hc hp hb hcheck, hstops, hruns, hflush, fun h6 => hdrain (by rw [h6]; rfl)⟩
  · exact exec_modeCommandEffect_of_refused hc hp hb hs hd h h256
  · obtain ⟨hmodes, hflag, hall⟩ := modeEffect_setMode_spec (s := s.taken rest) (n := parts.toNat) hs hmode
    exact ⟨_, exec_modeCommandEffect_of_passed hc hp hb hcheck, hmodes, hflag, hall⟩
  · exact ⟨_, exec_partitionDrained_of_drained hd h, putBitF_false_spec hs (by decide) (by decide) (by decide) p.isLt⟩
  · exact ⟨_, exec_partitionWakeComplete_of_clocked hw h,
      putBitF_false_spec hs (by decide) (by decide) (by decide) p.isLt⟩

end Sys2Proof.Machine
end


section
/-! SUPPORT and the refutation of VectorTime: an accepted write of VT_TICK_PS lets VT run free, and with that ends the
correction VT still waits out (R50, R51, R53); the statement's frame leaves Vector Time as it was. -/
namespace Sys2Proof.Machine
open Csr

theorem OnlyRegs.vt {as : List Nat} {s t : State} (h : OnlyRegs as s t) : t.vt = s.vt := by rw [h.1]

theorem tickWrite_of_accepted {s : State} {v : Nat} (hparts : s.partsList = []) (hlo : 250 ≤ v) (hhi : v ≤ 16000) :
    s.tickWrite v = (s.put VT_TICK_PS_TICK_PS v).vtFreeRun :=
  if_pos (by simp [hparts, inRange, hlo, Nat.lt_succ_of_le hhi])

/-- R51: in FREE nothing corrects VT, so no tick is owed. -/
theorem vt_vtFreeRun (s : State) : s.vtFreeRun.vt = { s.vt with owed := 0 } := rfl

theorem owed_of_exec_vtTickPsWrite {s t : State} {p : BitVec 14} (hparts : s.partsList = []) (hlo : 250 ≤ p.toNat)
    (hhi : p.toNat ≤ 16000) (h : exec (.vtTickPsWrite p) s = .next t) : t.vt.owed = 0 := by
  have ht : s.tickWrite p.toNat = t := Host.Outcome.next.inj h
  rw [← ht, tickWrite_of_accepted hparts hlo hhi, vt_vtFreeRun]

/-- READY and LOCKED, with no partition, VT one tick ahead of E (R53). -/
def tickAhead : State :=
  { (State.reset.put GLOBAL_MODE_MODE modeReady).put VT_STATUS_STATE vtLocked with
    vt := { vt := 65537, edge := 65536, cyc := 34816 } }

/-- The same after its TSYNC edge: e = 1 is in lock, and VT waits one tick out. -/
def waitingTick : State :=
  { tickAhead.put VT_EDGE_LAST_ERR 1 with
    vt := { vt := 65537, owed := 2 ^ 24, edge := 131072, pulse := some 0 } }

theorem exec_tsyncEdge_tickAhead : exec .tsyncEdge tickAhead = .next waitingTick :=
  congrArg Host.Outcome.next (by decide +kernel)

/-- Refutes O9: the first clause allows an accepted VT_TICK_PS write to change registers alone. In LOCKED, one tick ahead
after an edge, VT owes a tick; the write takes VT to FREE and drops what it owes, as R51 has it. -/
theorem not_vectorTime : ¬ Obligations.VectorTime := by
  unfold Obligations.VectorTime
  intro h
  have hregs : waitingTick.regsOk := by decide +kernel
  have hparts : waitingTick.partsList = [] := by decide +kernel
  obtain ⟨haccept, -⟩ := h 250 waitingTick hregs rfl
  obtain ⟨t, ht, hframe, -⟩ := haccept hparts (by decide) (by decide)
  have howed : t.vt.owed = 2 ^ 24 := by rw [hframe.vt]; rfl
  rw [owed_of_exec_vtTickPsWrite hparts (by decide) (by decide) ht] at howed
  exact absurd howed (by decide)

end Sys2Proof.Machine
end


section
/-! SUPPORT and the refutation of TestPort: a write by CSR_ACCESS that brings the RESET command resets the cube once it has
completed (R406); the statement has it end with the registers written. -/
namespace Sys2Proof.Machine
open Csr

theorem tapFactory_of_factoryPort {s : State} (h : s.factoryPort = true) (ir : Nat) (f : State → State) :
    s.tapFactory ir f = f (s.tapSet ir 0 .core) := if_pos h

theorem writeDone_of_asked {s t : State} (hs : s.modes.resetDue ≠ some true) (ht : t.modes.resetDue = some true) :
    s.writeDone t = t.warmReset GLOBAL_RESET_CAUSE_HOST := by
  rw [State.writeDone, if_neg hs, State.resetNow, if_pos ht]

theorem tapCsr_write {s : State} {a : Nat} {vs : List Word} (hrange : csrRange a vs.length = true)
    (hcheck : s.csrFirstBad true true a vs = none) :
    s.tapCsr a (.write vs) = s.writeDone (s.csrWriteAll true a vs) := by
  rw [State.tapCsr, if_pos (by simp [hrange, hcheck])]

/-- R389, R406: a write of CSR_ACCESS that asks for a reset ends in it. -/
theorem exec_csrAccess_of_asked {s : State} {reg : BitVec 22} {vs : List Word} (hport : s.factoryPort = true)
    (hs : s.modes.resetDue ≠ some true) (hrange : csrRange (4 * reg.toNat) vs.length = true)
    (hcheck : (s.tapSet 0x10 0 .core).csrFirstBad true true (4 * reg.toNat) vs = none)
    (hasked : ((s.tapSet 0x10 0 .core).csrWriteAll true (4 * reg.toNat) vs).modes.resetDue = some true) :
    exec (.csrAccess reg (.write vs)) s =
      .next (((s.tapSet 0x10 0 .core).csrWriteAll true (4 * reg.toNat) vs).warmReset GLOBAL_RESET_CAUSE_HOST) := by
  have hexec : exec (.csrAccess reg (.write vs)) s =
    .next (s.tapFactory 0x10 fun u => u.tapCsr (4 * reg.toNat) (.write vs)) := rfl
  rw [hexec, tapFactory_of_factoryPort hport, tapCsr_write hrange hcheck]
  exact congrArg Host.Outcome.next (writeDone_of_asked hs hasked)

/-- READY, with the fuses sensed and the factory lock open. -/
def factoryReady : State :=
  ((State.reset.put GLOBAL_MODE_MODE modeReady).on FUSE_STATUS_SENSED).off FUSE_LIMITS_FACTORY_LOCK

/-- The same after CSR_ACCESS has written RESET and its key, 0x5E05, to GLOBAL_MODE_CMD at address 4 * 8, and nothing more. -/
def factoryAsked : State := (factoryReady.tapSet 0x10 0 .core).csrWriteAll true 0x20 [0x5E05]

theorem resetDue_factoryAsked : factoryAsked.modes.resetDue = some true := by decide +kernel

theorem devMode_factoryAsked : factoryAsked.devMode = modeReady := by decide +kernel

theorem devMode_warmReset_factoryAsked : (factoryAsked.warmReset GLOBAL_RESET_CAUSE_HOST).devMode = modeHold := by
  decide +kernel

/-- Refutes O60: the clause on a CSR_ACCESS write that passes its checks has it end with the word written. In READY the word
0x5E05 written to GLOBAL_MODE_CMD is the RESET command, and the cube is in HOLD when the access has ended. -/
theorem not_testPort : ¬ Obligations.TestPort := by
  unfold Obligations.TestPort
  intro h
  have hport : factoryReady.factoryPort = true := by decide +kernel
  have hcheck : (factoryReady.tapSet 0x10 0 .core).csrFirstBad true true 0x20 [0x5E05] = none := by decide +kernel
  obtain ⟨-, -, -, -, -, -, -, -, -, -, -, -, hwrite, -⟩ :=
    h [] [] 8 0x5E05 0 0 0 0 0 (.read 1) .select 0 factoryReady (by decide +kernel) rfl rfl
  have hends : exec (.csrAccess 8 (.write [0x5E05])) factoryReady = .next factoryAsked := hwrite hport hcheck
  have hreset := exec_csrAccess_of_asked (reg := 8) hport (by decide) (by decide) hcheck resetDue_factoryAsked
  have hsame : factoryAsked = factoryAsked.warmReset GLOBAL_RESET_CAUSE_HOST :=
    Host.Outcome.next.inj (hends.symm.trans hreset)
  have hmode := congrArg State.devMode hsame
  rw [devMode_factoryAsked, devMode_warmReset_factoryAsked] at hmode
  exact absurd hmode (by decide)

end Sys2Proof.Machine
end
